-- ==== Sys2Proof/Word.lean ====
section
/-! DEFINITION. The word types and the number ranges of the RVX-640 (spec/00_scope.md, Numbering). -/

namespace Sys2Proof

/-- One byte of a cell or of a table entry (R195). -/
abbrev Byte := BitVec 8

/-- A two-byte field of a cell or of a table entry (R195). -/
abbrev U16 := BitVec 16

/-- A sample as the links carry it: 16 bits, two's complement (R195). -/
abbrev Sample := BitVec 16

/-- A value of the floor clock: a 32-bit count that wraps to 0 (R76). -/
abbrev Clock := BitVec 32

/-- A line, numbered 128 × line port + channel. -/
abbrev LineNo := Fin 512

/-- A dealer position, numbered 8 × position port + slot. -/
abbrev PosNo := Fin 32

/-- A key of one position. -/
abbrev KeyNo := Fin 48

/-- A speaker channel S0–S7 of one position. -/
abbrev SpkNo := Fin 8

/-- A talk group. -/
abbrev GroupNo := Fin 64

/-- A cadence generator CG0–CG15. -/
abbrev CgNo := Fin 16

/-- A tone source TS0–TS3. -/
abbrev ToneNo := Fin 4

/-- A recorder channel record, or a recorder slot. -/
abbrev ChanNo := Fin 128

/-- A line port LP0–LP3, or a position port PP0–PP3, by its own number. -/
abbrev QuadNo := Fin 4

/-- A port in the order of R177: LP0–LP3, PP0–PP3, RP. -/
abbrev PortNo := Fin 9

/-- A mixer output in the order of R92. -/
abbrev OutNo := Fin 960

end Sys2Proof
end

