-- ==== Sys2Proof/Syntax.lean ====
section
/-! DEFINITION. The commands of the part: one constructor of `Instr` for every row of spec/opcode_table.json, with the
operands the rules give it. Fields of cells are kept as the bytes that arrive, because judging them is part of the
command's meaning (R180, R199, R200). -/

namespace Sys2Proof

/-- The signalling state received from the far end of a line (R3, R4). -/
inductive FarSignal where
  | idle | calling | answer | loss
deriving DecidableEq, Repr

/-- The two handsets of a position. -/
inductive Handset where
  | left | right
deriving DecidableEq, Repr

/-- The class a talk request carries: the talk_class of its position (R27, R116). -/
inductive TalkClass where
  | normal | supervisor | override
deriving DecidableEq, Repr

/-- A LINE_CFG entry as a WRITE_ENTRY carries it: 14 bytes (spec/11, Table entries). -/
structure LineEntry where
  kind : Byte
  privacyDefault : Byte
  rxGain : U16
  txGain : U16
  ringCg : Byte
  burstCg : Byte
  ringTimeout : Byte
  answerTimeout : Byte
  ringHang : Byte
  faultMode : Byte
  faultGuard : Byte
  group : Byte
deriving DecidableEq, Repr

/-- A POSITION_CFG entry: 27 bytes, the volumes in the order HL, HR, S0–S7. -/
structure PositionEntry where
  recordMode : Byte
  talkClass : Byte
  autoHold : Byte
  duck : U16
  ringSpeaker : Byte
  ringTone : Byte
  volumes : Vector U16 10
deriving DecidableEq, Repr

/-- A KEY_MAP entry: 4 bytes. -/
structure KeyEntry where
  action : Byte
  target : U16
  colour : Byte
deriving DecidableEq, Repr

/-- A SPEAKER_ASSIGN entry: 3 bytes. -/
structure AssignEntry where
  kind : Byte
  target : U16
deriving DecidableEq, Repr

/-- A LAMP_STYLE entry: 2 bytes. -/
structure LampEntry where
  colour : Byte
  pattern : Byte
deriving DecidableEq, Repr

/-- A GROUP_CFG entry: 9 bytes. -/
structure GroupEntry where
  enabled : Byte
  talkerLimit : Byte
  maxTalk : U16
  groupGain : U16
  legGain : U16
  recordCode : Byte
deriving DecidableEq, Repr

/-- A CG_CFG entry: 10 bytes. -/
structure CgEntry where
  enable : Byte
  mode : Byte
  source : Byte
  period : U16
  rise : U16
  fall : U16
  pair : Byte
deriving DecidableEq, Repr

/-- A TONE entry: a sample of 2 bytes, or a control entry of 4 bytes (R107, R197). -/
inductive ToneEntry where
  | sample (value : U16)
  | control (length level : U16)
deriving DecidableEq, Repr

/-- A POLICY_CTRL entry: 3 bytes. -/
structure PolicyCtrlEntry where
  tablesEnabled : Byte
  fixedEnabled : Byte
  defaultCode : Byte
deriving DecidableEq, Repr

/-- A POLICY_RANGE entry: 6 bytes. -/
structure PolicyRangeEntry where
  enabled : Byte
  code : Byte
  first : U16
  last : U16
deriving DecidableEq, Repr

/-- One channel entry of an inbound line port frame (R167). -/
structure ChannelIn where
  sample : Sample
  far : FarSignal
deriving DecidableEq, Repr

/-- The inbound frame of one line port: whether its marker is good (R171), 128 channel entries and the cell slots. -/
structure LineFrame where
  good : Bool
  channels : Vector ChannelIn 128
  cells : List (List Byte)
deriving DecidableEq, Repr

/-- One slot of an up frame of a position port (R168). -/
structure SlotIn where
  present : Bool
  micLeft : Sample
  micRight : Sample
  micSpeaker : Sample
  cells : List (List Byte)
deriving DecidableEq, Repr

/-- The up frame of one position port. -/
structure PositionFrame where
  good : Bool
  slots : Vector SlotIn 8
deriving DecidableEq, Repr

/-- The inbound frame of the recorder port: 128 ready indications (R169). -/
structure RecorderFrame where
  good : Bool
  ready : Vector Bool 128
deriving DecidableEq, Repr

/-- What the nine ports receive in one frame period. `mixFirst` says which of the two orders that R91 leaves open is
taken: the mix frame takes the shelf's state before (true) or after (false) the signals and cells of this period's
inbound frames act. -/
structure Inbound where
  lines : Vector LineFrame 4
  positions : Vector PositionFrame 4
  recorder : RecorderFrame
  mixFirst : Bool
deriving DecidableEq, Repr

/-- The commands of the part, one for each row of spec/opcode_table.json, in the table's order. -/
inductive Instr where
  /-- Release of the RST pin with the value of the MSEL pins (R176, R191). -/
  | hardReset (msel : QuadNo)
  /-- INIT completes (R191). -/
  | initEnd
  /-- One edge of FSYNC with what the ports receive in the period it begins (R165). -/
  | framePeriod (inbound : Inbound)
  /-- One cadence step (R76, R79). -/
  | cadenceStep
  /-- The wrap of a FREE or FOLLOW generator (R79). -/
  | generatorWrap (cg : CgNo)
  /-- The completion of a ONESHOT burst (R82). -/
  | oneshotCompletion (cg : CgNo)
  /-- Expiry of a line's ring timer (R10). -/
  | ringTimerExpiry (line : LineNo)
  /-- Expiry of a line's answer timer (R12). -/
  | answerTimerExpiry (line : LineNo)
  /-- Expiry of a line's hang timer (R11). -/
  | hangTimerExpiry (line : LineNo)
  /-- Expiry of a line's guard timer (R19). -/
  | guardTimerExpiry (line : LineNo)
  /-- The end of a position's denial display (R43). -/
  | denialExpiry (pos : PosNo)
  /-- The talk timeout of one group at a step (R122). -/
  | talkTimeout (group : GroupNo)
  /-- A channel's close count reaches 0 (R159). -/
  | closeCountExpiry (chan : ChanNo)
  /-- A KEY_DOWN cell; the key byte as it arrived (R36, R199). -/
  | keyDown (pos : PosNo) (key : Byte)
  /-- A KEY_UP cell. -/
  | keyUp (pos : PosNo) (key : Byte)
  /-- A HOOK cell; the handset byte and the hook byte as they arrived (R35). -/
  | hook (pos : PosNo) (handset : Byte) (hook : Byte)
  /-- A LEVEL cell (R35). -/
  | level (pos : PosNo) (endpoint : Byte) (volume : U16)
  /-- A line request of a position for a handset and a line, from a key (R37). -/
  | lineRequest (pos : PosNo) (handset : Handset) (line : LineNo) (key : KeyNo)
  /-- A release request from a RELEASE key (R66). -/
  | releaseRequest (pos : PosNo) (handset : Handset) (key : KeyNo)
  /-- A hook release from a HOOK cell (R66). -/
  | hookRelease (pos : PosNo) (handset : Handset)
  /-- A hold request from a HOLD key (R65). -/
  | holdRequest (pos : PosNo) (handset : Handset) (key : KeyNo)
  /-- A privacy toggle from a PRIVACY key (R58). -/
  | privacyToggle (pos : PosNo) (handset : Handset) (key : KeyNo)
  /-- A speaker_talk set or clear (R71). -/
  | speakerTalkSet (pos : PosNo) (spk : SpkNo) (talk : Bool)
  /-- A ring request that passed PSC's checks (R15). -/
  | ringRequest (line : LineNo)
  /-- A demand toggle (R137). -/
  | demandToggle (line : LineNo)
  /-- A talk request with the class of its position, from a key (R116). -/
  | talkRequest (pos : PosNo) (group : GroupNo) (cls : TalkClass) (key : KeyNo)
  /-- A talk release (R120). -/
  | talkRelease (pos : PosNo) (group : GroupNo)
  /-- READ_ENTRY (R182). -/
  | readEntry (tag : U16) (table : Byte) (index : U16)
  /-- WRITE_ENTRY on LINE_CFG (R21). -/
  | writeLineCfg (tag : U16) (index : U16) (entry : LineEntry)
  /-- WRITE_ENTRY on POSITION_CFG (R27). -/
  | writePositionCfg (tag : U16) (index : U16) (entry : PositionEntry)
  /-- WRITE_ENTRY on KEY_MAP (R31). -/
  | writeKeyMap (tag : U16) (index : U16) (entry : KeyEntry)
  /-- WRITE_ENTRY on SPEAKER_ASSIGN (R32). -/
  | writeSpeakerAssign (tag : U16) (index : U16) (entry : AssignEntry)
  /-- WRITE_ENTRY on LAMP_STYLE (R46). -/
  | writeLampStyle (tag : U16) (index : U16) (entry : LampEntry)
  /-- WRITE_ENTRY on GROUP_CFG (R111). -/
  | writeGroupCfg (tag : U16) (index : U16) (entry : GroupEntry)
  /-- WRITE_ENTRY on CG_CFG (R74). -/
  | writeCgCfg (tag : U16) (index : U16) (entry : CgEntry)
  /-- WRITE_ENTRY on TONE (R107). -/
  | writeTone (tag : U16) (index : U16) (entry : ToneEntry)
  /-- WRITE_ENTRY on POLICY_CTRL (R131). -/
  | writePolicyCtrl (tag : U16) (index : U16) (entry : PolicyCtrlEntry)
  /-- WRITE_ENTRY on POLICY_FIXED (R132). -/
  | writePolicyFixed (tag : U16) (index : U16) (code : Byte)
  /-- WRITE_ENTRY on POLICY_RANGE (R133). -/
  | writePolicyRange (tag : U16) (index : U16) (entry : PolicyRangeEntry)
  /-- WRITE_ENTRY on REC_MODE (R146). -/
  | writeRecMode (tag : U16) (index : U16) (mode : Byte)
  /-- READ_STATE with its clear option (R183). -/
  | readState (tag : U16) (clear : Bool) (kind : Byte) (index : U16)
  /-- CLEAR_FAULT (R19). -/
  | clearFault (tag : U16) (line : U16)
  /-- TRIGGER (R83). -/
  | trigger (tag : U16) (cg : Byte)
  /-- FORCE_RELEASE (R68). -/
  | forceRelease (tag : U16) (line : U16)
  /-- SET_EVENT_MODE (R188). -/
  | setEventMode (tag : U16) (cls : Byte) (mode : Byte)
  /-- READ_SUMMARY (R185). -/
  | readSummary (tag : U16) (cls : Byte)
  /-- ACK_CLASS (R187). -/
  | ackClass (tag : U16) (cls : Byte)
  /-- SET_LANE_RATIO (R190). -/
  | setLaneRatio (tag : U16) (ratio : Byte)
  /-- HOLD (R192). -/
  | hold (tag : U16)
  /-- HOLD_RELEASE (R193). -/
  | holdRelease (tag : U16)
  /-- The RST input goes low (R194). -/
  | rstLow
  /-- A management cell that is malformed; its byte 0 and its tag (R197). -/
  | malformedRequest (kind : Byte) (tag : U16)
  /-- A WRITE_ENTRY whose table byte is 12 or above (R197). -/
  | unknownTableWrite (tag : U16) (table : Byte)
deriving DecidableEq, Repr

end Sys2Proof
end

