-- ==== Sys2Proof/Decode.lean ====
section
/-! DEFINITION. Reading commands from what arrives: a management cell as a request (R196, R197), a console cell as a key,
hook or level cell (R199), and the cells a host writes for its requests. The opcode table gives no row any bits, so no
table word spells a command. -/

namespace Sys2Proof

/-- The command a word of the opcode table spells: none, since the table gives no row any bits. -/
def decodeTableWord (_nbits _w : Nat) : Option Instr := none

/-! ### Two-byte fields (R195) -/

/-- A two-byte field, the most significant byte first. -/
def word (hi lo : Byte) : U16 := hi ++ lo

/-- The most significant byte of a two-byte field. -/
def hiByte (v : U16) : Byte := v.extractLsb' 8 8

/-- The least significant byte of a two-byte field. -/
def loByte (v : U16) : Byte := v.extractLsb' 0 8

/-! ### Request cells (R196, R197) -/

/-- A LINE_CFG entry of 14 bytes. -/
def lineEntryOf : List Byte → Option LineEntry
  | [k, p, r1, r0, t1, t0, rc, bc, rt, at', rh, fm, fg, g] =>
    some { kind := k, privacyDefault := p, rxGain := word r1 r0, txGain := word t1 t0, ringCg := rc, burstCg := bc
           ringTimeout := rt, answerTimeout := at', ringHang := rh, faultMode := fm, faultGuard := fg, group := g }
  | _ => none

/-- A POSITION_CFG entry of 27 bytes. -/
def positionEntryOf : List Byte → Option PositionEntry
  | [rm, tc, ah, d1, d0, rs, rt, a1, a0, b1, b0, c1, c0, e1, e0, f1, f0, g1, g0, h1, h0, i1, i0, j1, j0, k1, k0] =>
    some { recordMode := rm, talkClass := tc, autoHold := ah, duck := word d1 d0, ringSpeaker := rs, ringTone := rt
           volumes := #v[word a1 a0, word b1 b0, word c1 c0, word e1 e0, word f1 f0, word g1 g0, word h1 h0,
             word i1 i0, word j1 j0, word k1 k0] }
  | _ => none

/-- A GROUP_CFG entry of 9 bytes. -/
def groupEntryOf : List Byte → Option GroupEntry
  | [e, l, m1, m0, g1, g0, x1, x0, c] =>
    some { enabled := e, talkerLimit := l, maxTalk := word m1 m0, groupGain := word g1 g0, legGain := word x1 x0
           recordCode := c }
  | _ => none

/-- A CG_CFG entry of 10 bytes. -/
def cgEntryOf : List Byte → Option CgEntry
  | [e, m, s, p1, p0, r1, r0, f1, f0, pr] =>
    some { enable := e, mode := m, source := s, period := word p1 p0, rise := word r1 r0, fall := word f1 f0
           pair := pr }
  | _ => none

/-- A TONE entry: 2 bytes for an index 0–1023 and 4 for any other (R197). -/
def toneEntryOf (index : U16) : List Byte → Option ToneEntry
  | [v1, v0] => if index.toNat ≤ 1023 then some (.sample (word v1 v0)) else none
  | [l1, l0, v1, v0] => if index.toNat ≤ 1023 then none else some (.control (word l1 l0) (word v1 v0))
  | _ => none

/-- R197: a WRITE_ENTRY with its table, index and entry; none where the body has another size than the table's. -/
def writeOf (tag : U16) (table : Byte) (index : U16) (entry : List Byte) : Option Instr :=
  match table.toNat, entry with
  | 0, e => (lineEntryOf e).map (.writeLineCfg tag index)
  | 1, e => (positionEntryOf e).map (.writePositionCfg tag index)
  | 2, [a, t1, t0, c] => some (.writeKeyMap tag index { action := a, target := word t1 t0, colour := c })
  | 3, [k, t1, t0] => some (.writeSpeakerAssign tag index { kind := k, target := word t1 t0 })
  | 4, [c, p] => some (.writeLampStyle tag index { colour := c, pattern := p })
  | 5, e => (groupEntryOf e).map (.writeGroupCfg tag index)
  | 6, e => (cgEntryOf e).map (.writeCgCfg tag index)
  | 7, e => (toneEntryOf index e).map (.writeTone tag index)
  | 8, [t, f, d] => some (.writePolicyCtrl tag index { tablesEnabled := t, fixedEnabled := f, defaultCode := d })
  | 9, [c] => some (.writePolicyFixed tag index c)
  | 10, [e, c, f1, f0, l1, l0] =>
    some (.writePolicyRange tag index { enabled := e, code := c, first := word f1 f0, last := word l1 l0 })
  | 11, [m] => some (.writeRecMode tag index m)
  | n, _ => if 12 ≤ n then some (.unknownTableWrite tag table) else none

/-- R196: the request that a kind, an option and a body spell; none where the kind is no request's or the body has
another size than the kind's. A READ_ENTRY whose body is longer than 3 bytes is malformed whatever its table byte (DESIGN
CHOICE, notes/assumptions/31.md). -/
def bodyOf (kind : Byte) (clear : Bool) (tag : U16) (body : List Byte) : Option Instr :=
  match kind.toNat, body with
  | 1, [t, i1, i0] => some (.readEntry tag t (word i1 i0))
  | 2, t :: i1 :: i0 :: e => writeOf tag t (word i1 i0) e
  | 3, [k, i1, i0] => some (.readState tag clear k (word i1 i0))
  | 4, [l1, l0] => some (.clearFault tag (word l1 l0))
  | 5, [c] => some (.trigger tag c)
  | 6, [l1, l0] => some (.forceRelease tag (word l1 l0))
  | 7, [c, m] => some (.setEventMode tag c m)
  | 8, [c] => some (.readSummary tag c)
  | 9, [c] => some (.ackClass tag c)
  | 10, [n] => some (.setLaneRatio tag n)
  | 11, [] => some (.hold tag)
  | 12, [] => some (.holdRelease tag)
  | _, _ => none

/-- R196, R197: the command a cell slot of the management link stands for. A slot whose byte 0 is 0 is empty; a cell that
is malformed in any of the ways of R197 is a malformed request. -/
def requestOf : List Byte → Option Instr
  | kind :: opt :: t1 :: t0 :: b1 :: b0 :: z1 :: z0 :: rest =>
    if kind = 0 then none
    else
      let tag := word t1 t0
      let size := (word b1 b0).toNat
      if 1 < opt.toNat ∨ z1 ≠ 0 ∨ z0 ≠ 0 ∨ 504 < size then some (.malformedRequest kind tag)
      else some ((bodyOf kind (decide (opt = 1)) tag (rest.take size)).getD (.malformedRequest kind tag))
  | _ => none

/-! ### Console cells (R199) -/

/-- R199: the command a console cell of position `p` stands for; none for an empty slot and for a cell whose byte 0 is
5–255, which PSC sets aside. -/
def consoleOf (p : PosNo) : List Byte → Option Instr
  | [b0, b1, b2, b3] =>
    match b0.toNat with
    | 1 => some (.keyDown p b1)
    | 2 => some (.keyUp p b1)
    | 3 => some (.hook p b1 b2)
    | 4 => some (.level p b1 (word b2 b3))
    | _ => none
  | _ => none

/-! ### The cells a host writes -/

/-- A request cell in its slot of 512 bytes, from its kind, option, tag and body (R196). -/
def requestCell (kind opt : Byte) (tag : U16) (body : List Byte) : List Byte :=
  [kind, opt, hiByte tag, loByte tag, hiByte (BitVec.ofNat 16 body.length), loByte (BitVec.ofNat 16 body.length), 0, 0] ++
    body ++ List.replicate (504 - body.length) 0

/-- A two-byte field as its bytes. -/
def wordBytes (v : U16) : List Byte := [hiByte v, loByte v]

/-- A WRITE_ENTRY cell. -/
def writeCell (tag : U16) (table : Byte) (index : U16) (entry : List Byte) : List Byte :=
  requestCell 2 0 tag ([table] ++ wordBytes index ++ entry)

/-- The cell that spells a request, and no bytes for a command that is no request. A malformed request is spelled with an
option byte of 2, and a write to no table with an empty entry. -/
def encodeRequest : Instr → List Byte
  | .readEntry tag table index => requestCell 1 0 tag ([table] ++ wordBytes index)
  | .writeLineCfg tag index e =>
    writeCell tag 0 index ([e.kind, e.privacyDefault] ++ wordBytes e.rxGain ++ wordBytes e.txGain ++
      [e.ringCg, e.burstCg, e.ringTimeout, e.answerTimeout, e.ringHang, e.faultMode, e.faultGuard, e.group])
  | .writePositionCfg tag index e =>
    writeCell tag 1 index ([e.recordMode, e.talkClass, e.autoHold] ++ wordBytes e.duck ++ [e.ringSpeaker, e.ringTone] ++
      e.volumes.toList.flatMap wordBytes)
  | .writeKeyMap tag index e => writeCell tag 2 index ([e.action] ++ wordBytes e.target ++ [e.colour])
  | .writeSpeakerAssign tag index e => writeCell tag 3 index ([e.kind] ++ wordBytes e.target)
  | .writeLampStyle tag index e => writeCell tag 4 index [e.colour, e.pattern]
  | .writeGroupCfg tag index e =>
    writeCell tag 5 index ([e.enabled, e.talkerLimit] ++ wordBytes e.maxTalk ++ wordBytes e.groupGain ++
      wordBytes e.legGain ++ [e.recordCode])
  | .writeCgCfg tag index e =>
    writeCell tag 6 index ([e.enable, e.mode, e.source] ++ wordBytes e.period ++ wordBytes e.rise ++ wordBytes e.fall ++
      [e.pair])
  | .writeTone tag index (.sample v) => writeCell tag 7 index (wordBytes v)
  | .writeTone tag index (.control length level) => writeCell tag 7 index (wordBytes length ++ wordBytes level)
  | .writePolicyCtrl tag index e => writeCell tag 8 index [e.tablesEnabled, e.fixedEnabled, e.defaultCode]
  | .writePolicyFixed tag index code => writeCell tag 9 index [code]
  | .writePolicyRange tag index e =>
    writeCell tag 10 index ([e.enabled, e.code] ++ wordBytes e.first ++ wordBytes e.last)
  | .writeRecMode tag index mode => writeCell tag 11 index [mode]
  | .readState tag clear kind index => requestCell 3 (if clear then 1 else 0) tag ([kind] ++ wordBytes index)
  | .clearFault tag line => requestCell 4 0 tag (wordBytes line)
  | .trigger tag cg => requestCell 5 0 tag [cg]
  | .forceRelease tag line => requestCell 6 0 tag (wordBytes line)
  | .setEventMode tag cls mode => requestCell 7 0 tag [cls, mode]
  | .readSummary tag cls => requestCell 8 0 tag [cls]
  | .ackClass tag cls => requestCell 9 0 tag [cls]
  | .setLaneRatio tag ratio => requestCell 10 0 tag [ratio]
  | .hold tag => requestCell 11 0 tag []
  | .holdRelease tag => requestCell 12 0 tag []
  | .malformedRequest kind tag => requestCell kind 2 tag []
  | .unknownTableWrite tag table => writeCell tag table 0 []
  | .hardReset _ => []
  | .initEnd => []
  | .framePeriod _ => []
  | .cadenceStep => []
  | .generatorWrap _ => []
  | .oneshotCompletion _ => []
  | .ringTimerExpiry _ => []
  | .answerTimerExpiry _ => []
  | .hangTimerExpiry _ => []
  | .guardTimerExpiry _ => []
  | .denialExpiry _ => []
  | .talkTimeout _ => []
  | .closeCountExpiry _ => []
  | .keyDown _ _ => []
  | .keyUp _ _ => []
  | .hook _ _ _ => []
  | .level _ _ _ => []
  | .lineRequest _ _ _ _ => []
  | .releaseRequest _ _ _ => []
  | .hookRelease _ _ => []
  | .holdRequest _ _ _ => []
  | .privacyToggle _ _ _ => []
  | .speakerTalkSet _ _ _ => []
  | .ringRequest _ => []
  | .demandToggle _ => []
  | .talkRequest _ _ _ _ => []
  | .talkRelease _ _ => []
  | .rstLow => []

/-- Whether a command is a request of the host. -/
def Instr.isRequest (i : Instr) : Bool := !(encodeRequest i).isEmpty

/-- The cell that spells a console cell, and no bytes for any other command (section 11.2). -/
def encodeConsole : Instr → List Byte
  | .keyDown _ k => [1, k, 0, 0]
  | .keyUp _ k => [2, k, 0, 0]
  | .hook _ h v => [3, h, v, 0]
  | .level _ e v => [4, e] ++ wordBytes v
  | _ => []

end Sys2Proof
end

