-- ==== Sys2Proof/Config.lean ====
section
/-! DEFINITION. The sizes and lengths that the manual fixes for the part. The manual leaves no number to the
implementation, so nothing here is opaque: the one choice it leaves to the part, the frame period in which INIT ends
(R191), is made by the command INIT_END. -/

namespace Sys2Proof

/-- INIT ends no more than 32 frame periods after the release of hard reset (R191). -/
abbrev Config.initFrames : Nat := 32

/-- Every 80th frame period is one cadence step (R76). -/
abbrev Config.cadenceFrames : Nat := 80

/-- A closing lasts 80 mix frames (R158). -/
abbrev Config.closeFrames : Nat := 80

/-- A denial is displayed for 100 cadence steps (R43). -/
abbrev Config.denialSteps : Nat := 100

/-- The response queue holds at most 16 cells (R181). -/
abbrev Config.responseRoom : Nat := 16

/-- The event queue holds at most 128 cells (R189). -/
abbrev Config.eventRoom : Nat := 128

/-- The wait pool holds 64 entries (R113). -/
abbrev Config.poolSize : Nat := 64

/-- A position has at most 8 HOLD entries (R51). -/
abbrev Config.holdRoom : Nat := 8

/-- A line has at most 4 handset connections (R51). -/
abbrev Config.bridgeRoom : Nat := 4

/-- A line is named by at most 16 speaker assignments (R32). -/
abbrev Config.assignRoom : Nat := 16

/-- A group is named by at most 4 HOOT_LEG lines (R21). -/
abbrev Config.legRoom : Nat := 4

/-- The outbound management lane carries up to 4 cells a frame (R170). -/
abbrev Config.laneSlots : Nat := 4

/-- A gain is at most 32767 in units of 1/16384. -/
abbrev Config.gainMax : Nat := 32767

/-- A volume or duck level is at most 16384; 16384 is unity. -/
abbrev Config.unity : Nat := 16384

/-- Object counts and occurrence counts stop at 65535 (R106, R185). -/
abbrev Config.countMax : Nat := 65535

end Sys2Proof
end

