-- ==== Sys2Proof/Machine/State.lean ====
section
/-! DEFINITION. The state of the part as plain data, block by block in the order of spec/00_scope.md's block overview,
the reasons a step can stop, and the state right after hard reset. What a rule calls derived (own and delivered outputs,
share states, online values, legs, the ready of a channel, hold slots in use) is not stored: Flags.lean computes it. -/

namespace Sys2Proof.Machine

/-! ### Codes -/

/-- What kind of wire a line is (R2). -/
inductive LineKind where
  | unused | ard | mrd | hootLeg
deriving DecidableEq, Repr

/-- How a line leaves FAULT (R2, R19). -/
inductive FaultMode where
  | follow | latched
deriving DecidableEq, Repr

/-- Where a line stands (R3). -/
inductive LineState where
  | disabled | idle | ringingIn | unanswered | callingOut | active | held | fault
deriving DecidableEq, Repr

/-- The signal the part sends towards the far end (R3). -/
inductive OutSignal where
  | idle | calling | answer
deriving DecidableEq, Repr

/-- A line timer, counted in cadence steps (R6). Ring and hang timers are never `expired`: their expiry moves the line. -/
inductive Timer where
  | stopped
  | running (left : Nat)
  | expired
deriving DecidableEq, Repr

/-- A position's record_mode (R27). -/
inductive RecordMode where
  | normal | compliance | exempt
deriving DecidableEq, Repr

/-- A lamp colour base (R31). -/
inductive Colour where
  | green | red | amber
deriving DecidableEq, Repr

/-- A key's action with its target (R31). -/
inductive KeyAction where
  | none
  | line (l : LineNo)
  | release
  | hold
  | ring
  | privacy
  | talkGroup (g : GroupNo)
  | talkSpeaker (s : SpkNo)
  | record
  | host
deriving DecidableEq, Repr

/-- A speaker assignment (R32). -/
inductive Assign where
  | none
  | line (l : LineNo)
  | group (g : GroupNo)
deriving DecidableEq, Repr

/-- The colour of a lamp style: a colour, or KEY for the key's own colour base (R46). -/
inductive StyleColour where
  | fixed (c : Colour)
  | key
deriving DecidableEq, Repr

/-- The pattern of a lamp style (R46). -/
inductive Pattern where
  | off
  | steady
  | follow (cg : CgNo)
deriving DecidableEq, Repr

/-- One lamp of a lamp image (R168). -/
inductive Lamp where
  | off
  | lit (c : Colour)
deriving DecidableEq, Repr

/-- The relations of a key's target to its position, in the order of the lamp style map (R46). -/
inductive Relation where
  | idle | ringing | unanswered | callingOutMine | activeMine | activeOther | heldMine | heldOther
  | privateOther | fault | denied | talking | talkWaiting | recordOn | farCleared | disabled
deriving DecidableEq, Repr

/-- The reasons a key's request is denied (spec/00_scope.md, Denial reasons). -/
inductive DenyReason where
  | fault | disabled | privateLine | bridgeFull | noRecorder | wrongKind | bridged | noLine | holdFull
deriving DecidableEq, Repr

/-- What a denied request concerned (R43). -/
inductive DenyTarget where
  | none
  | line (l : LineNo)
  | group (g : GroupNo)
deriving DecidableEq, Repr

/-- Where a connection sits at its position (R50). -/
inductive Place where
  | left | right
  | spk (s : SpkNo)
  | hold
deriving DecidableEq, Repr

/-- The sharing condition of a line; EXCLUSIVE names its holder (R57). -/
inductive ShareState where
  | none
  | sole
  | bridged
  | exclusive (holder : PosNo)
deriving DecidableEq, Repr

/-- A generator's mode (R73). -/
inductive CgMode where
  | free | follow | oneshot
deriving DecidableEq, Repr

/-- A recording policy code (spec/07). -/
inductive PolicyCode where
  | never | onDemand | best | mandatory
deriving DecidableEq, Repr

/-- Where a line-side code comes from (R134). -/
inductive LineSource where
  | default
  | fixed (block : Fin 64)
  | range (r : Fin 8)
deriving DecidableEq, Repr

/-- A target's need of recording (R139). -/
inductive Need where
  | none | best | mandatory
deriving DecidableEq, Repr

/-- What can be recorded: a line or a group. -/
inductive Target where
  | line (l : LineNo)
  | group (g : GroupNo)
deriving DecidableEq, Repr

/-- The rank of a waiting target (R160). -/
inductive Rank where
  | best | mandatory
deriving DecidableEq, Repr

/-- The recorder mode (R146). -/
inductive RecMode where
  | mono | stereo
deriving DecidableEq, Repr

/-- Where a recorder channel stands (R148). -/
inductive ChanState where
  | stopped | recording | suspended | closing
deriving DecidableEq, Repr

/-- A tag's indicator (R154). -/
inductive Indicator where
  | idle | audio | gap | ending
deriving DecidableEq, Repr

/-- A port's alignment state (R171). -/
inductive Align where
  | down | aligning | up
deriving DecidableEq, Repr

/-- Where the switching blocks stand (spec/10, MGA's state). -/
inductive Phase where
  | init | held | running
deriving DecidableEq, Repr

/-- The delivery mode of an event class (R186). -/
inductive DeliveryMode where
  | off | each | latched | rearm
deriving DecidableEq, Repr

/-- The event classes (spec/10, section 10.2). -/
inductive EventClass where
  | line | connect | deny | talk | record | port | clip | key | system
deriving DecidableEq, Repr

/-- The result codes of a response (spec/00_scope.md, Result codes). -/
inductive ResultCode where
  | ok | okClamped | notReady | badRequest | badTable | badIndex | badValue | busy | modeLocked | held
deriving DecidableEq, Repr

/-! ### Occurrences -/

/-- Causes of a LINE state change (R23). -/
inductive LineCause where
  | config | farCall | ringTimeout | abandoned | answered | seized | monitor | farAnswer | hold | retrieve
  | cleared | callTimeout | loss | port | guard | clear | group | release
deriving DecidableEq, Repr

/-- Kinds of CONNECT event for a handset connection or a change of privacy (R56). -/
inductive ConnectKind where
  | added | removed | held | retrieved | moved | privacyOn | privacyOff
deriving DecidableEq, Repr

/-- Causes of a CONNECT event, numbered as R198 lists them. -/
inductive ConnectCause where
  | connect | pickup | release | hook | displaced | fault | disabled | callTimeout | forced | offline
  | hold | retrieve | move | key | byDefault | left
deriving DecidableEq, Repr

/-- Kinds of TALK event for an entry (R128). -/
inductive TalkKind where
  | granted | queued | requeued | removed
deriving DecidableEq, Repr

/-- Causes of a TALK event for an entry (R128); a QUEUED event has none. -/
inductive TalkCause where
  | request | preempt | promoted | preempted | limit | release | talkTimeout | disabled | offline
deriving DecidableEq, Repr

/-- Why a talk request is refused (R116). -/
inductive TalkRefusal where
  | disabled | noRecorder | queueFull
deriving DecidableEq, Repr

/-- Causes of RECORD events (R162). -/
inductive RecordCause where
  | need | admission | wait | noChannel | port | rank | ready
deriving DecidableEq, Repr

/-- Causes of PORT events (R177). -/
inductive PortCause where
  | marker | aligned | lost
deriving DecidableEq, Repr

/-- An occurrence that a block raises: its class, kind, objects and cause (spec/10, section 10.2). -/
inductive Occurrence where
  /-- A change of a line's state (R23). -/
  | line (l : LineNo) (prev new : LineState) (cause : LineCause)
  /-- far_signal changed to IDLE in ACTIVE or HELD (R23). -/
  | farCleared (l : LineNo) (state : LineState)
  /-- A change to a handset connection or of privacy (R56). -/
  | connect (kind : ConnectKind) (p : PosNo) (l : LineNo) (place : Place) (cause : ConnectCause) (joined : Clock)
  /-- A position went offline (R29). -/
  | offline (p : PosNo)
  /-- A position came online (R30). -/
  | online (p : PosNo)
  /-- A denial (R43). -/
  | deny (p : PosNo) (key : KeyNo) (reason : DenyReason) (target : DenyTarget)
  /-- An entry of a group was granted, queued, re-queued or removed (R128). -/
  | talk (kind : TalkKind) (g : GroupNo) (p : PosNo) (cls : TalkClass) (cause : Option TalkCause) (waiting : Bool)
  /-- A talk request was refused (R128). -/
  | talkRefused (g : GroupNo) (p : PosNo) (cls : TalkClass) (reason : TalkRefusal)
  /-- RECORD_START (R150). -/
  | recordStart (c : ChanNo) (t : Target) (segment : U16) (state : ChanState) (cause : RecordCause)
  /-- RECORD_STOP (R158). -/
  | recordStop (c : ChanNo) (t : Target) (segment : U16)
  /-- RECORD_MISS (R151, R153). -/
  | recordMiss (t : Target) (rank : Rank) (cause : RecordCause)
  /-- RECORD_GAP (R156, R157). -/
  | recordGap (c : ChanNo) (t : Target) (segment : U16) (cause : RecordCause)
  /-- RECORD_RESUME (R156, R157). -/
  | recordResume (c : ChanNo) (t : Target) (segment : U16) (cause : RecordCause)
  /-- A change of a port's alignment state (R177). -/
  | port (n : PortNo) (prev new : Align) (cause : PortCause)
  /-- A clip counter went from 0 to 1 (R106). -/
  | clip (i : OutNo)
  /-- A HOST key went down or up (R36). -/
  | key (p : PosNo) (key : KeyNo) (up : Bool)
  /-- INIT has ended (R191). -/
  | ready
  /-- The switching blocks are held (R192). -/
  | switchingHeld
  /-- The switching blocks are released (R193). -/
  | switchingReleased
deriving DecidableEq, Repr

/-! ### Link Interface (LIF) -/

/-- A port's alignment state and counts (R171). -/
structure Port where
  align : Align
  good : Nat
  miss : Nat
deriving DecidableEq, Repr

/-- The three microphone samples of a position slot in the input store, with the present indicator that came with them
(R90, R168). -/
structure Mics where
  left : Sample
  right : Sample
  speaker : Sample
  present : Bool
deriving DecidableEq, Repr

/-- A recorder tag (R154). -/
structure Tag where
  indicator : Indicator
  target : Option Target
  segment : U16
  parties : List PosNo
deriving DecidableEq, Repr

/-- A response cell waiting in the response queue, or sent (R179, R196). -/
structure Response where
  kind : Byte
  tag : U16
  code : ResultCode
  overrun : Bool
  data : List Byte
deriving DecidableEq, Repr

/-- An event cell waiting in the event queue, or sent (R184, R196). -/
structure EventCell where
  what : Occurrence
  stamp : Clock
  lost : Bool
deriving DecidableEq, Repr

/-- A cell the lane gives LIF (R190). -/
inductive OutCell where
  | response (r : Response)
  | event (e : EventCell)
deriving DecidableEq, Repr

/-- The content of the outbound frames of one frame period (R166): the 960 samples in the order of R92, the out signals,
the lamp images, the tag of every recorder slot, and the management link's cells. -/
structure Outbound where
  samples : Vector Sample 960
  outSignals : Vector OutSignal 512
  lamps : Vector (Vector Lamp 48) 32
  tags : Vector Tag 128
  cells : List OutCell
deriving DecidableEq, Repr

/-- What a mix frame hands to LIF for the outbound frames of the next period: the 960 samples in the order of R92 (R90)
and the tag of every recorder slot (R155). -/
structure Mixed where
  samples : Vector Sample 960
  tags : Vector Tag 128
deriving DecidableEq, Repr

/-- LIF's state: the pins RST and MSEL as they were taken, the count of frame periods since release (R165), the ports,
the present values (R174), the input store (R90), the hand-over to MGA (R179), what the last mix frame produced, and the
outbound frames last sent. -/
structure Lif where
  rstLow : Bool
  frames : Nat
  ports : Vector Port 9
  present : Vector Bool 32
  mgmtLink : QuadNo
  far : Vector Sample 512
  mics : Vector Mics 32
  handOver : List (List Byte)
  prepared : Mixed
  sent : Outbound
deriving DecidableEq, Repr

/-! ### Management Agent (MGA) -/

/-- One event class's delivery mode, marks and summary (R185 to R189). The withheld flag is set exactly while `withheld`
holds the latest withheld occurrence with its stamp. The object set is kept in ascending order. -/
structure ClassRec where
  mode : DeliveryMode
  pending : Bool
  withheld : Option (Occurrence × Clock)
  lost : Bool
  objects : List Nat
  miss : Bool
  count : Nat
deriving DecidableEq, Repr

/-- MGA's state (spec/10): phase, queues, overrun flag, classes, lane ratio and run count. -/
structure Mga where
  phase : Phase
  responses : List Response
  overrun : Bool
  events : List EventCell
  classes : Vector ClassRec 9
  ratio : Nat
  run : Nat
deriving DecidableEq, Repr

/-! ### Line Controller (LNC) -/

/-- A line's configuration (R2). -/
structure LineCfg where
  kind : LineKind
  privacyDefault : Bool
  rxGain : Nat
  txGain : Nat
  ringCg : CgNo
  burstCg : CgNo
  ringTimeout : Nat
  answerTimeout : Nat
  ringHang : Nat
  faultMode : FaultMode
  faultGuard : Nat
  group : GroupNo
deriving DecidableEq, Repr

/-- The totals of CXM's last report for a line (R3, R7). -/
structure Totals where
  unheld : Nat
  held : Nat
  speaker : Nat
deriving DecidableEq, Repr

/-- A line record: configuration and the live fields LNC owns (R2, R3). out_signal follows the state (R5, R16) and is
computed by `State.outSignal`. -/
structure LineRec where
  cfg : LineCfg
  state : LineState
  far : FarSignal
  ringPending : Option CgNo
  faultClear : Bool
  ring : Timer
  answer : Timer
  hang : Timer
  guard : Timer
  totals : Totals
deriving DecidableEq, Repr

/-- LNC's state: the 512 line records (R1). -/
structure Lnc where
  lines : Vector LineRec 512
deriving DecidableEq, Repr

/-! ### Position Controller (PSC) -/

/-- A position's configuration (R27), the volumes in the order HL, HR, S0–S7. -/
structure PositionCfg where
  recordMode : RecordMode
  talkClass : TalkClass
  autoHold : Bool
  duck : Nat
  ringSpeaker : SpkNo
  ringTone : ToneNo
  volumes : Vector Nat 10
deriving DecidableEq, Repr

/-- What a pressed talk key was pressed with (R28). -/
inductive PressedTarget where
  | group (g : GroupNo)
  | lineSpeaker (s : SpkNo)
deriving DecidableEq, Repr

/-- A pressed talk key (R28). -/
structure Pressed where
  key : KeyNo
  target : PressedTarget
deriving DecidableEq, Repr

/-- A denial indicator (R28, R43). -/
structure Denial where
  key : KeyNo
  reason : DenyReason
  left : Nat
deriving DecidableEq, Repr

/-- A position record: configuration and live fields (R27, R28). A hook is `true` while it is off. -/
structure PositionRec where
  cfg : PositionCfg
  hookLeft : Bool
  hookRight : Bool
  selected : Handset
  pressed : List Pressed
  denial : Option Denial
deriving DecidableEq, Repr

/-- A key-map entry (R31). -/
structure Key where
  action : KeyAction
  colour : Colour
deriving DecidableEq, Repr

/-- A lamp style (R46). -/
structure LampStyle where
  colour : StyleColour
  pattern : Pattern
deriving DecidableEq, Repr

/-- PSC's state: positions, key map (index 48 × position + key), speaker assignments (index 8 × position + channel) and
lamp style map. -/
structure Psc where
  positions : Vector PositionRec 32
  keyMap : Vector Key 1536
  assigns : Vector Assign 256
  lampStyle : Vector LampStyle 16
deriving DecidableEq, Repr

/-! ### Connection Manager (CXM) -/

/-- A connection record (R50). Its kind follows its place. -/
structure Conn where
  line : LineNo
  pos : PosNo
  place : Place
  talk : Bool
  joined : Clock
deriving DecidableEq, Repr

/-- CXM's state: the connection table in the order its records were made, so that a line's bridge order (R52) is the
order of its handset records in it, and the privacy flag of every line (R57). -/
structure Cxm where
  conns : List Conn
  privacy : Vector Bool 512
deriving DecidableEq, Repr

/-! ### Cadence Unit (CDU) -/

/-- A generator's three copies of period, rise and fall (R73). -/
structure Shape where
  period : Nat
  rise : Nat
  fall : Nat
deriving DecidableEq, Repr

/-- A generator: configuration with the pending copies, active copies, phase and running flag (R73, R75). -/
structure Gen where
  enable : Bool
  mode : CgMode
  source : Option CgNo
  pending : Shape
  pair : Bool
  active : Shape
  phase : Nat
  running : Bool
deriving DecidableEq, Repr

/-- CDU's state: sixteen generators and the floor clock (R76). -/
structure Cdu where
  gens : Vector Gen 16
  clock : Clock
deriving DecidableEq, Repr

/-! ### Mixer (MIX) -/

/-- A tone source (R107, R108). -/
structure Tone where
  length : Nat
  level : Nat
  samples : Vector Sample 256
  index : Nat
deriving DecidableEq, Repr

/-- MIX's state: the clip counters (R106) and the tone sources. Mix lists are derived afresh in each frame. -/
structure Mix where
  clips : Vector Nat 960
  tones : Vector Tone 4
deriving DecidableEq, Repr

/-! ### Group Talk Unit (GTU) -/

/-- A group's configuration (R111). -/
structure GroupCfg where
  enabled : Bool
  talkerLimit : Nat
  maxTalk : Nat
  groupGain : Nat
  legGain : Nat
  recordCode : PolicyCode
deriving DecidableEq, Repr

/-- A talker entry or a wait entry: position, class and the stamp of its making (R112). -/
structure TalkEntry where
  pos : PosNo
  cls : TalkClass
  stamp : Clock
deriving DecidableEq, Repr

/-- A group: configuration, talker set in grant order, wait queue in queue order, and the positions with timed-out
marks in ascending order (R111, R112). The leg set is the group's HOOT_LEG lines in ACTIVE (R114). -/
structure GroupRec where
  cfg : GroupCfg
  talkers : List TalkEntry
  waits : List TalkEntry
  marks : List PosNo
deriving DecidableEq, Repr

/-- GTU's state: 64 groups. The free entries of the wait pool are those no queue holds (R113). -/
structure Gtu where
  groups : Vector GroupRec 64
deriving DecidableEq, Repr

/-! ### Policy Resolver (PRS) -/

/-- A variable policy range (R133). -/
structure PolicyRange where
  enabled : Bool
  code : PolicyCode
  first : LineNo
  last : LineNo
deriving DecidableEq, Repr

/-- PRS's state: the policy tables (R131 to R133; a fixed block of `none` holds INHERIT), the demand flags (R137) and the
kept needs of lines and groups (R139). -/
structure Prs where
  tablesEnabled : Bool
  fixedEnabled : Bool
  defaultCode : PolicyCode
  fixed : Vector (Option PolicyCode) 64
  ranges : Vector PolicyRange 8
  demand : Vector Bool 512
  lineNeed : Vector Need 512
  groupNeed : Vector Need 64
deriving DecidableEq, Repr

/-! ### Recorder Channel Unit (RCU) -/

/-- A recorder channel record (R147). Its ready follows the slot indications (R149). -/
structure Chan where
  state : ChanState
  target : Option Target
  segment : U16
  closeCount : Nat
deriving DecidableEq, Repr

/-- An entry of the record wait list (R160). -/
structure RecWait where
  target : Target
  rank : Rank
  number : Clock
deriving DecidableEq, Repr

/-- RCU's state: recorder mode, 128 channel records, the ready indication of every slot, the waiting targets in the order
they joined (the list order of R160 puts the MANDATORY ones of them first), and the entry count. -/
structure Rcu where
  mode : RecMode
  chans : Vector Chan 128
  slotReady : Vector Bool 128
  waiting : List RecWait
  entryCount : Clock
deriving DecidableEq, Repr

/-! ### The whole part -/

/-- The state of the part, block by block, and the queue of commands that wait, first in, first out. -/
structure State where
  lif : Lif
  mga : Mga
  lnc : Lnc
  psc : Psc
  cxm : Cxm
  cdu : Cdu
  mix : Mix
  gtu : Gtu
  prs : Prs
  rcu : Rcu
  pending : List Instr
deriving DecidableEq, Repr

/-- Why the part stops with a fault. No command stops it: the spec gives every command an effect in every state, if only
an answer that refuses it, so this type has no constructor. -/
inductive Fault where
deriving DecidableEq, Repr

/-- Why a command has no meaning in the model. -/
inductive Refusal where
  /-- Raised by `exec` for a row of the opcode table that has no meaning yet; safe, since the run stops. No arm raises it. -/
  | notModelled (mnemonic : String)
deriving DecidableEq, Repr

/-! ### Reset values -/

/-- R178: every port is DOWN with its counts 0. -/
def Port.reset : Port := { align := .down, good := 0, miss := 0 }

/-- R155: the tag of every slot while INIT runs and while the switching blocks are held. -/
def Tag.idle : Tag := { indicator := .idle, target := none, segment := 0, parties := [] }

/-- R109, R110, R155: a mix frame taken while INIT runs or while the switching blocks are held. -/
def Mixed.quiet : Mixed := { samples := Vector.replicate 960 0, tags := Vector.replicate 128 Tag.idle }

/-- R166: the outbound content while INIT runs and while the switching blocks are held. -/
def Outbound.quiet : Outbound :=
  { samples := Vector.replicate 960 0
    outSignals := Vector.replicate 512 .idle
    lamps := Vector.replicate 32 (Vector.replicate 48 .off)
    tags := Vector.replicate 128 Tag.idle
    cells := [] }

/-- R178: LIF right after the release of hard reset, with the management link the MSEL pins give. -/
def Lif.reset (msel : QuadNo) : Lif :=
  { rstLow := false
    frames := 0
    ports := Vector.replicate 9 Port.reset
    present := Vector.replicate 32 false
    mgmtLink := msel
    far := Vector.replicate 512 0
    mics := Vector.replicate 32 { left := 0, right := 0, speaker := 0, present := false }
    handOver := []
    prepared := Mixed.quiet
    sent := Outbound.quiet }

/-- R194: a class right after hard reset, in the delivery mode given. -/
def ClassRec.reset (mode : DeliveryMode) : ClassRec :=
  { mode := mode, pending := false, withheld := none, lost := false, objects := [], miss := false, count := 0 }

/-- R194: MGA right after hard reset: CLIP LATCHED, every other class EACH. -/
def Mga.reset : Mga :=
  { phase := .init
    responses := []
    overrun := false
    events := []
    classes := (Vector.replicate 9 (ClassRec.reset .each)).set 6 (ClassRec.reset .latched)
    ratio := 4
    run := 0 }

/-- R2, reset column. -/
def LineCfg.reset : LineCfg :=
  { kind := .unused, privacyDefault := false, rxGain := 16384, txGain := 16384, ringCg := 0, burstCg := 1
    ringTimeout := 30, answerTimeout := 0, ringHang := 0, faultMode := .follow, faultGuard := 50, group := 0 }

/-- R24. -/
def LineRec.reset : LineRec :=
  { cfg := LineCfg.reset, state := .disabled, far := .loss, ringPending := none, faultClear := false
    ring := .stopped, answer := .stopped, hang := .stopped, guard := .stopped
    totals := { unheld := 0, held := 0, speaker := 0 } }

/-- R24. -/
def Lnc.reset : Lnc := { lines := Vector.replicate 512 LineRec.reset }

/-- R27, reset column. -/
def PositionCfg.reset : PositionCfg :=
  { recordMode := .normal, talkClass := .normal, autoHold := false, duck := 8192, ringSpeaker := 0, ringTone := 0
    volumes := Vector.replicate 10 16384 }

/-- R48. -/
def PositionRec.reset : PositionRec :=
  { cfg := PositionCfg.reset, hookLeft := false, hookRight := false, selected := .left, pressed := [], denial := none }

/-- R48. -/
def Psc.reset : Psc :=
  { positions := Vector.replicate 32 PositionRec.reset
    keyMap := Vector.replicate 1536 { action := .none, colour := .green }
    assigns := Vector.replicate 256 .none
    lampStyle := Vector.replicate 16 { colour := .fixed .green, pattern := .off } }

/-- R72. -/
def Cxm.reset : Cxm := { conns := [], privacy := Vector.replicate 512 false }

/-- R73, reset column. -/
def Shape.reset : Shape := { period := 100, rise := 0, fall := 50 }

/-- R87. -/
def Gen.reset : Gen :=
  { enable := false, mode := .free, source := none, pending := Shape.reset, pair := false
    active := Shape.reset, phase := 0, running := false }

/-- R87. -/
def Cdu.reset : Cdu := { gens := Vector.replicate 16 Gen.reset, clock := 0 }

/-- R109. -/
def Tone.reset : Tone := { length := 8, level := 0, samples := Vector.replicate 256 0, index := 0 }

/-- R109. -/
def Mix.reset : Mix := { clips := Vector.replicate 960 0, tones := Vector.replicate 4 Tone.reset }

/-- R111, reset column. -/
def GroupCfg.reset : GroupCfg :=
  { enabled := false, talkerLimit := 1, maxTalk := 0, groupGain := 16384, legGain := 16384, recordCode := .never }

/-- R129. -/
def GroupRec.reset : GroupRec := { cfg := GroupCfg.reset, talkers := [], waits := [], marks := [] }

/-- R129. -/
def Gtu.reset : Gtu := { groups := Vector.replicate 64 GroupRec.reset }

/-- R144. -/
def Prs.reset : Prs :=
  { tablesEnabled := true, fixedEnabled := true, defaultCode := .best
    fixed := Vector.replicate 64 none
    ranges := Vector.replicate 8 { enabled := false, code := .best, first := 0, last := 0 }
    demand := Vector.replicate 512 false
    lineNeed := Vector.replicate 512 .none
    groupNeed := Vector.replicate 64 .none }

/-- R163. -/
def Chan.reset : Chan := { state := .stopped, target := none, segment := 0, closeCount := 0 }

/-- R163. -/
def Rcu.reset : Rcu :=
  { mode := .mono
    chans := Vector.replicate 128 Chan.reset
    slotReady := Vector.replicate 128 false
    waiting := []
    entryCount := 0 }

/-- The part right after the release of hard reset with the MSEL pins at `msel`: phase INIT, every block at its reset
values (R191). -/
def State.atReset (msel : QuadNo) : State :=
  { lif := Lif.reset msel
    mga := Mga.reset
    lnc := Lnc.reset
    psc := Psc.reset
    cxm := Cxm.reset
    cdu := Cdu.reset
    mix := Mix.reset
    gtu := Gtu.reset
    prs := Prs.reset
    rcu := Rcu.reset
    pending := [] }

/-- The machine right after reset. DESIGN CHOICE (unsafe; notes/assumptions/1.md): the MSEL pins are taken as 0; the
command HARD_RESET carries their value. -/
def State.reset : State := State.atReset 0

end Sys2Proof.Machine
end

