-- ==== Sys2Proof/Machine/Ops.lean ====
section
/-! DEFINITION. The named operations over the state that every block shares: reading and writing one record of a table,
raising an occurrence (R184 to R189), and answering a request (R179 to R181). -/

namespace Sys2Proof.Machine

/-! ### One record of a table -/

/-- The record of line `l`. -/
def State.line (s : State) (l : LineNo) : LineRec := s.lnc.lines[l]

/-- Put record `r` at line `l`. -/
def State.setLine (s : State) (l : LineNo) (r : LineRec) : State :=
  { s with lnc := { s.lnc with lines := s.lnc.lines.set l r } }

/-- The record of position `p`. -/
def State.position (s : State) (p : PosNo) : PositionRec := s.psc.positions[p]

/-- Put record `r` at position `p`. -/
def State.setPosition (s : State) (p : PosNo) (r : PositionRec) : State :=
  { s with psc := { s.psc with positions := s.psc.positions.set p r } }

/-- The index of a key in the key map (R31). -/
def keyIndex (p : PosNo) (k : KeyNo) : Fin 1536 := ⟨48 * p.val + k.val, by omega⟩

/-- The key-map entry of key `k` of position `p`. -/
def State.key (s : State) (p : PosNo) (k : KeyNo) : Key := s.psc.keyMap[keyIndex p k]

/-- The index of a speaker assignment (R32). -/
def assignIndex (p : PosNo) (c : SpkNo) : Fin 256 := ⟨8 * p.val + c.val, by omega⟩

/-- The assignment of speaker channel `c` of position `p`. -/
def State.assign (s : State) (p : PosNo) (c : SpkNo) : Assign := s.psc.assigns[assignIndex p c]

/-- The generator `n`. -/
def State.gen (s : State) (n : CgNo) : Gen := s.cdu.gens[n]

/-- Put record `g` at generator `n`. -/
def State.setGen (s : State) (n : CgNo) (g : Gen) : State :=
  { s with cdu := { s.cdu with gens := s.cdu.gens.set n g } }

/-- The group `g`. -/
def State.group (s : State) (g : GroupNo) : GroupRec := s.gtu.groups[g]

/-- Put record `r` at group `g`. -/
def State.setGroup (s : State) (g : GroupNo) (r : GroupRec) : State :=
  { s with gtu := { s.gtu with groups := s.gtu.groups.set g r } }

/-- The channel record `c`. -/
def State.chan (s : State) (c : ChanNo) : Chan := s.rcu.chans[c]

/-- Put record `r` at channel `c`. -/
def State.setChan (s : State) (c : ChanNo) (r : Chan) : State :=
  { s with rcu := { s.rcu with chans := s.rcu.chans.set c r } }

/-- The port `n`, in the order of R177. -/
def State.port (s : State) (n : PortNo) : Port := s.lif.ports[n]

/-- The floor clock (R76). -/
def State.now (s : State) : Clock := s.cdu.clock

/-- The demand flag of line `l` (R137). -/
def State.demand (s : State) (l : LineNo) : Bool := s.prs.demand[l]

/-- Set the demand flag of line `l`. -/
def State.setDemand (s : State) (l : LineNo) (b : Bool) : State :=
  { s with prs := { s.prs with demand := s.prs.demand.set l b } }

/-- The kept need of a target (R139). -/
def State.keptNeed (s : State) : Target → Need
  | .line l => s.prs.lineNeed[l]
  | .group g => s.prs.groupNeed[g]

/-- Keep need `n` for a target. -/
def State.setKeptNeed (s : State) (t : Target) (n : Need) : State :=
  match t with
  | .line l => { s with prs := { s.prs with lineNeed := s.prs.lineNeed.set l n } }
  | .group g => { s with prs := { s.prs with groupNeed := s.prs.groupNeed.set g n } }

/-- Whether the switching blocks are running. -/
def State.running (s : State) : Bool := decide (s.mga.phase = .running)

/-! ### Occurrences (R184 to R189) -/

/-- The index of an event class (spec/11, section 11.1). -/
def EventClass.idx : EventClass → Fin 9
  | .line => 0 | .connect => 1 | .deny => 2 | .talk => 3 | .record => 4
  | .port => 5 | .clip => 6 | .key => 7 | .system => 8

/-- The class of an occurrence (spec/10, section 10.2). -/
def Occurrence.cls : Occurrence → EventClass
  | .line .. => .line
  | .farCleared .. => .line
  | .connect .. => .connect
  | .offline _ => .connect
  | .online _ => .connect
  | .deny .. => .deny
  | .talk .. => .talk
  | .talkRefused .. => .talk
  | .recordStart .. => .record
  | .recordStop .. => .record
  | .recordMiss .. => .record
  | .recordGap .. => .record
  | .recordResume .. => .record
  | .port .. => .port
  | .clip _ => .clip
  | .key .. => .key
  | .ready => .system
  | .switchingHeld => .system
  | .switchingReleased => .system

/-- The object an occurrence records in its class's summary (spec/10, section 10.2). -/
def Occurrence.object : Occurrence → Option Nat
  | .line l _ _ _ => some l.val
  | .farCleared l _ => some l.val
  | .connect _ p _ _ _ _ => some p.val
  | .offline p => some p.val
  | .online p => some p.val
  | .deny p _ _ _ => some p.val
  | .talk _ g _ _ _ _ => some g.val
  | .talkRefused g _ _ _ => some g.val
  | .recordStart c _ _ _ _ => some c.val
  | .recordStop c _ _ => some c.val
  | .recordMiss _ _ _ => none
  | .recordGap c _ _ _ => some c.val
  | .recordResume c _ _ _ => some c.val
  | .port n _ _ _ => some n.val
  | .clip i => some i.val
  | .key p _ _ => some p.val
  | .ready => none
  | .switchingHeld => none
  | .switchingReleased => none

/-- Whether an occurrence is a RECORD_MISS, which sets the MISS mark (R185). -/
def Occurrence.isMiss : Occurrence → Bool
  | .recordMiss .. => true
  | _ => false

/-- Add an object to an ascending set, once (R185). -/
def insertObject (k : Nat) : List Nat → List Nat
  | [] => [k]
  | x :: xs => if k < x then k :: x :: xs else if k = x then x :: xs else x :: insertObject k xs

/-- R185: an occurrence enters the summary of its class; SYSTEM keeps none. -/
def ClassRec.note (r : ClassRec) (o : Occurrence) : ClassRec :=
  match o.cls with
  | .system => r
  | _ =>
    { r with
      objects := match o.object with
        | some k => insertObject k r.objects
        | none => r.objects
      miss := r.miss || o.isMiss
      count := min (r.count + 1) Config.countMax }

/-- The record of class `c`. -/
def Mga.cls (m : Mga) (c : EventClass) : ClassRec := m.classes[c.idx]

/-- Put record `r` at class `c`. -/
def Mga.setCls (m : Mga) (c : EventClass) (r : ClassRec) : Mga :=
  { m with classes := m.classes.set c.idx r }

/-- Whether the event queue has room for a cell (R189). -/
def Mga.eventRoom (m : Mga) : Bool := decide (m.events.length < Config.eventRoom)

/-- R189: a cell made goes to the end of the event queue, carrying and clearing its class's lost flag, or sets that flag
when the queue is full. -/
def Mga.makeCell (m : Mga) (o : Occurrence) (stamp : Clock) : Mga :=
  if m.eventRoom then
    { m.setCls o.cls { m.cls o.cls with lost := false } with
      events := m.events ++ [{ what := o, stamp := stamp, lost := (m.cls o.cls).lost }] }
  else
    m.setCls o.cls { m.cls o.cls with lost := true }

/-- R186: the pending mark is set when the cell is placed in the queue and stays clear when the cell is lost. -/
def Mga.makePendingCell (m : Mga) (o : Occurrence) (stamp : Clock) : Mga :=
  let m' := m.makeCell o stamp
  m'.setCls o.cls { m'.cls o.cls with pending := m.eventRoom }

/-- R184: MGA takes an occurrence: summary first, then the class's delivery mode decides about a cell (R186). -/
def Mga.take (m : Mga) (o : Occurrence) (stamp : Clock) : Mga :=
  let r := (m.cls o.cls).note o
  let m := m.setCls o.cls r
  match r.mode with
  | .off => m
  | .each => m.makeCell o stamp
  | .latched => if r.pending then m else m.makePendingCell o stamp
  | .rearm =>
    if r.pending then m.setCls o.cls { r with withheld := some (o, stamp) } else m.makePendingCell o stamp

/-- A block raises an occurrence. While INIT runs blocks raise none (R184, R191). -/
def State.raise (s : State) (o : Occurrence) : State :=
  if s.mga.phase = .init then s else { s with mga := s.mga.take o s.now }

/-- A switching block raises an occurrence, which it does only while the switching blocks are running (R23, R56, R128,
R162). -/
def State.raiseRunning (s : State) (o : Occurrence) : State :=
  if s.running then s.raise o else s

/-- Raise occurrences in order. -/
def State.raiseAll (s : State) (os : List Occurrence) : State := os.foldl State.raiseRunning s

/-! ### Requests (R179 to R181) -/

/-- What the owner of a request does with it: the state it leaves, the result, and the data read. -/
structure Verdict where
  state : State
  code : ResultCode
  data : List Byte

/-- A refusal, which changes nothing (R180). -/
def State.refuse (s : State) (code : ResultCode) : Verdict := { state := s, code := code, data := [] }

/-- A request taken with no data to return. -/
def State.accept (s : State) (clamped : Bool) : Verdict :=
  { state := s, code := if clamped then .okClamped else .ok, data := [] }

/-- A read taken with the data read. -/
def State.answerData (s : State) (data : List Byte) : Verdict := { state := s, code := .ok, data := data }

/-- R181: queue a response; it carries the OVERRUN mark while the overrun flag is set, and clears the flag. -/
def Mga.respond (m : Mga) (kind : Byte) (tag : U16) (code : ResultCode) (data : List Byte) : Mga :=
  { m with
    responses := m.responses ++
      [{ kind := kind, tag := tag, code := code, overrun := m.overrun, data := data }]
    overrun := false }

/-- Queue a response. -/
def State.respond (s : State) (kind : Byte) (tag : U16) (code : ResultCode) (data : List Byte) : State :=
  { s with mga := s.mga.respond kind tag code data }

/-- Whether the response queue has room (R181). -/
def State.responseRoom (s : State) : Bool := decide (s.mga.responses.length < Config.responseRoom)

/-- R181: a request that finds no room for its response is discarded and sets the overrun flag. -/
def State.discard (s : State) : State := { s with mga := { s.mga with overrun := true } }

/-- R180, R181: MGA takes a request of kind `kind` whose cell is well formed. Room for its response is tested first; in
INIT it is answered NOT_READY; otherwise its judge decides. -/
def State.request (s : State) (kind : Byte) (tag : U16) (judge : State → Verdict) : State :=
  if s.responseRoom then
    if s.mga.phase = .init then s.respond kind tag .notReady []
    else
      let v := judge s
      v.state.respond kind tag v.code v.data
  else s.discard

/-- R180 check 1: a malformed request is answered BAD_REQUEST in every phase. -/
def State.badRequest (s : State) (kind : Byte) (tag : U16) : State :=
  if s.responseRoom then s.respond kind tag .badRequest [] else s.discard

/-! ### Commands -/

/-- The outcome of a command's effect. While RST is low the part is held in reset and nothing reaches it (R194). -/
def live (f : State → State) (s : State) : Host.Outcome State Fault Refusal :=
  .next (if s.lif.rstLow then s else f s)

end Sys2Proof.Machine
end

