-- ==== Sys2Proof/Machine/Flags.lean ====
section
/-! DEFINITION. The conditions and signals that the rules derive from the stored state: port and online values, totals
and share states, generator outputs, out signals, legs, channel readiness. -/

namespace Sys2Proof.Machine

/-! ### Ports -/

/-- The line port of a line (R167). -/
def linePort (l : LineNo) : PortNo := ⟨l.val / 128, by omega⟩

/-- The position port of a position, in the order of R177 (R168). -/
def posPort (p : PosNo) : PortNo := ⟨4 + p.val / 8, by omega⟩

/-- The recorder port RP. -/
def recPort : PortNo := 8

/-- Whether a port is UP (R171). -/
def State.portUp (s : State) (n : PortNo) : Bool := decide ((s.port n).align = .up)

/-- R29, R174: a position is online while its port is UP and its present value is set. -/
def State.online (s : State) (p : PosNo) : Bool := s.portUp (posPort p) && s.lif.present[p]

/-- R4: the far end is off-hook while far_signal is CALLING or ANSWER. -/
def offHook : FarSignal → Bool
  | .calling => true
  | .answer => true
  | .idle => false
  | .loss => false

/-- R4: the fault condition of a line. -/
def State.faultCondition (s : State) (l : LineNo) : Bool :=
  decide ((s.line l).far = .loss) || !s.portUp (linePort l)

/-- The kinds that ring and are answered (spec/01, section 1.6). -/
def LineKind.isWire : LineKind → Bool
  | .ard => true
  | .mrd => true
  | .unused => false
  | .hootLeg => false

/-- The states a line with a handset or monitor call stands in (R13). -/
def LineState.isUp : LineState → Bool
  | .active => true
  | .held => true
  | _ => false

/-! ### Connections -/

/-- The place of a handset (R50). -/
def handsetPlace : Handset → Place
  | .left => .left
  | .right => .right

/-- The other handset. -/
def otherHandset : Handset → Handset
  | .left => .right
  | .right => .left

/-- R50: HANDSET connections are those at HL, HR and HOLD. -/
def Place.isHandset : Place → Bool
  | .spk _ => false
  | _ => true

/-- R50: a HANDSET connection at HL or HR is unheld. -/
def Place.isUnheld : Place → Bool
  | .left => true
  | .right => true
  | _ => false

/-- R50: a HANDSET connection at HOLD is held. -/
def Place.isHold : Place → Bool
  | .hold => true
  | _ => false

/-- A line's connections, in the order they were made. -/
def State.lineConns (s : State) (l : LineNo) : List Conn := s.cxm.conns.filter (fun c => c.line = l)

/-- R52: a line's handset connections in bridge order. -/
def State.bridge (s : State) (l : LineNo) : List Conn := (s.lineConns l).filter (fun c => c.place.isHandset)

/-- A line's speaker connections. -/
def State.monitors (s : State) (l : LineNo) : List Conn := (s.lineConns l).filter (fun c => !c.place.isHandset)

/-- R7: the totals CXM reports for a line. -/
def State.totalsNow (s : State) (l : LineNo) : Totals :=
  { unheld := ((s.lineConns l).filter (fun c => c.place.isUnheld)).length
    held := ((s.lineConns l).filter (fun c => c.place.isHold)).length
    speaker := (s.monitors l).length }

/-- The sum of a line's totals. -/
def Totals.sum (t : Totals) : Nat := t.unheld + t.held + t.speaker

/-- R7: held handset connections and no other. -/
def Totals.allHeld (t : Totals) : Bool :=
  decide (0 < t.held) && decide (t.unheld = 0) && decide (t.speaker = 0)

/-- R57: the share state, from the number of handset connections and the privacy flag. -/
def State.share (s : State) (l : LineNo) : ShareState :=
  match s.bridge l with
  | [] => .none
  | [c] => if s.cxm.privacy[l] then .exclusive c.pos else .sole
  | _ => .bridged

/-- R59: whether a line is EXCLUSIVE to a position other than `p`. -/
def State.privateFrom (s : State) (l : LineNo) (p : PosNo) : Bool :=
  match s.share l with
  | .exclusive h => decide (h ≠ p)
  | _ => false

/-- The connection at a place of a position. -/
def State.connAt (s : State) (p : PosNo) (place : Place) : Option Conn :=
  s.cxm.conns.find? (fun c => decide (c.pos = p) && decide (c.place = place))

/-- The connection on line `l` at a place of a position. -/
def State.connOn (s : State) (p : PosNo) (l : LineNo) (place : Place) : Option Conn :=
  s.cxm.conns.find? (fun c => decide (c.pos = p) && decide (c.line = l) && decide (c.place = place))

/-- R28: a position's hold slots in use. -/
def State.holdSlots (s : State) (p : PosNo) : Nat :=
  (s.cxm.conns.filter (fun c => decide (c.pos = p) && c.place.isHold)).length

/-! ### Generators -/

/-- R77: a generator's own output. -/
def Gen.own (g : Gen) : Bool :=
  g.running && decide (g.active.rise ≤ g.phase) && decide (g.phase < g.active.fall)

/-- R82: a ONESHOT generator that is enabled with running clear is waiting. -/
def Gen.waiting (g : Gen) : Bool := g.enable && decide (g.mode = .oneshot) && !g.running

/-- R78: the partners are CG2k and CG2k+1. -/
def partner (n : CgNo) : CgNo :=
  if n.val % 2 = 0 then ⟨(n.val + 1) % 16, by omega⟩ else ⟨n.val - 1, by omega⟩

/-- R78: a generator's delivered output. -/
def State.delivered (s : State) (n : CgNo) : Bool :=
  if !s.running || !(s.gen n).enable || (s.gen n).waiting then false
  else (s.gen n).own || ((s.gen n).pair && (s.gen (partner n)).own)

/-- R5, the table: the out signal by state alone. -/
def LineState.outSignal : LineState → OutSignal
  | .callingOut => .calling
  | .active => .answer
  | .held => .answer
  | .disabled => .idle
  | .idle => .idle
  | .ringingIn => .idle
  | .unanswered => .idle
  | .fault => .idle

/-- R5, R12, R16: a line's out signal. -/
def State.outSignal (s : State) (l : LineNo) : OutSignal :=
  let r := s.line l
  if !s.running then .idle
  else match r.ringPending with
    | some n => if s.delivered n then .calling else r.state.outSignal
    | none => if r.state = .callingOut ∧ r.answer = .expired then .idle else r.state.outSignal

/-! ### Groups -/

/-- R114: a group's leg set: its HOOT_LEG lines in ACTIVE, in ascending line number. -/
def State.legs (s : State) (g : GroupNo) : List LineNo :=
  (List.finRange 512).filter fun l =>
    decide ((s.line l).cfg.kind = .hootLeg) && decide ((s.line l).cfg.group = g) && decide ((s.line l).state = .active)

/-- The wait entries of all groups together (R113). -/
def State.poolUsed (s : State) : Nat := (s.gtu.groups.toList.map (fun g => g.waits.length)).sum

/-- R113: the free entries of the wait pool. -/
def State.poolFree (s : State) : Nat := Config.poolSize - s.poolUsed

/-- Whether a position is in a group's talker set. -/
def GroupRec.talks (r : GroupRec) (p : PosNo) : Bool := r.talkers.any (fun e => e.pos = p)

/-- Whether a position has a wait entry in a group. -/
def GroupRec.waitsFor (r : GroupRec) (p : PosNo) : Bool := r.waits.any (fun e => e.pos = p)

/-! ### Recorder channels -/

/-- R146: the number of channels of a mode. -/
def RecMode.channels : RecMode → Nat
  | .mono => 128
  | .stereo => 64

/-- The channels of the present mode, in ascending number. -/
def State.channels (s : State) : List ChanNo :=
  (List.finRange 128).filter (fun c => c.val < s.rcu.mode.channels)

/-- R146: the channel that uses a recorder slot. -/
def State.slotChan (s : State) (slot : ChanNo) : ChanNo :=
  match s.rcu.mode with
  | .mono => slot
  | .stereo => ⟨slot.val / 2, by omega⟩

/-- R149: the ready of a channel. -/
def State.chanReady (s : State) (c : ChanNo) : Bool :=
  match s.rcu.mode with
  | .mono => s.rcu.slotReady[c]
  | .stereo =>
    if h : c.val < 64 then s.rcu.slotReady[2 * c.val]'(by omega) && s.rcu.slotReady[2 * c.val + 1]'(by omega)
    else false

/-- The lowest-numbered STOPPED channel. -/
def State.lowestStopped (s : State) : Option ChanNo :=
  s.channels.find? (fun c => (s.chan c).state = .stopped)

/-- R150: the channel a bind would take: the lowest STOPPED one, while the recorder port is UP. -/
def State.allocatable (s : State) : Option ChanNo :=
  if s.portUp recPort then s.lowestStopped else none

/-- R147: a bound channel is RECORDING or SUSPENDED. -/
def ChanState.isBound : ChanState → Bool
  | .recording => true
  | .suspended => true
  | .stopped => false
  | .closing => false

/-- R147: the channel a target is bound to. -/
def State.boundChan (s : State) (t : Target) : Option ChanNo :=
  s.channels.find? (fun c => (s.chan c).state.isBound && decide ((s.chan c).target = some t))

/-- R160: the record wait list in its order: MANDATORY before BEST, and within a rank in the order of joining. -/
def State.waitList (s : State) : List RecWait :=
  s.rcu.waiting.filter (fun e => e.rank = .mandatory) ++ s.rcu.waiting.filter (fun e => e.rank = .best)

/-- Whether a target is on the record wait list. -/
def State.isWaiting (s : State) (t : Target) : Bool := s.rcu.waiting.any (fun e => e.target = t)

end Sys2Proof.Machine
end

