-- ==== Sys2Proof/Machine/Cadence.lean ====
section
/-! DEFINITION. The Cadence Unit (spec/04): stepping, period ends and their passing on, triggers, enabling and disabling. -/

namespace Sys2Proof.Machine

/-- R80: at a load point the pending copies become the active copies together, with the phase 0. -/
def Gen.load (g : Gen) : Gen := { g with active := g.pending, phase := 0 }

/-- R79 step 1: whether a generator's next phase would equal its active period. -/
def Gen.wraps (g : Gen) : Bool := g.enable && g.running && decide (g.active.period ≤ g.phase + 1)

/-- R82: a ONESHOT generator's completion. -/
def Gen.complete (g : Gen) : Gen := { g.load with running := false }

/-- R79 step 1: one generator advances. -/
def Gen.advance (g : Gen) : Gen :=
  if g.wraps then (if g.mode = .oneshot then g.complete else g.load)
  else if g.enable && g.running then { g with phase := g.phase + 1 }
  else g

/-- R82, R83: a trigger starts a waiting ONESHOT generator and has no effect on any other. -/
def Gen.trigger (g : Gen) : Gen := if g.waiting then { g with running := true, phase := 0 } else g

/-- Whether a generator takes the period ends of one of the generators `es` (R79). -/
def Gen.receives (g : Gen) (es : List CgNo) : Bool :=
  g.enable && match g.source with
    | some n => es.contains n
    | none => false

/-- R79 step 2, R81: what a receiver does with a period end of its source: a FOLLOW generator is synced, a ONESHOT
generator is triggered, a FREE generator's source has no effect. -/
def Gen.receive (g : Gen) (es : List CgNo) : Gen :=
  if g.receives es then
    match g.mode with
    | .follow => g.load
    | .oneshot => g.trigger
    | .free => g
  else g

/-- R79 step 2: the FOLLOW generators synced by period ends in `es` have period ends of their own. -/
def State.spreadOnce (s : State) (es : List CgNo) : List CgNo :=
  (List.finRange 16).filter fun n => es.contains n || (decide ((s.gen n).mode = .follow) && (s.gen n).receives es)

/-- R79 step 2: every period end of the step. The sources form no cycle (R74), so fifteen links reach them all. -/
def State.spread (s : State) : Nat → List CgNo → List CgNo
  | 0, es => es
  | n + 1, es => State.spread s n (s.spreadOnce es)

/-- R16: a line that follows one of the generators `es` ends its burst. -/
def LineRec.endBurst (es : List CgNo) (r : LineRec) : LineRec :=
  match r.ringPending with
  | some n => if es.contains n then { r with ringPending := none } else r
  | none => r

/-- R16: the lines following one of the generators `es` end their bursts. -/
def State.endBursts (s : State) (es : List CgNo) : State :=
  { s with lnc := { s.lnc with lines := s.lnc.lines.map (LineRec.endBurst es) } }

/-- R79 step 2: the period ends of the generators `es` are passed on, to receivers and to LNC. -/
def State.passOn (s : State) (es : List CgNo) : State :=
  let all := s.spread 15 es
  ({ s with cdu := { s.cdu with gens := s.cdu.gens.map (fun g => Gen.receive g all) } }).endBursts all

/-- R79: the generators at one cadence step: all advance, then their period ends are passed on. -/
def State.stepGens (s : State) : State :=
  let es := (List.finRange 16).filter (fun n => (s.gen n).wraps)
  ({ s with cdu := { s.cdu with gens := s.cdu.gens.map Gen.advance } }).passOn es

/-- R79, R81: the wrap of a FREE or FOLLOW generator, a period end passed on. -/
def State.wrapGen (s : State) (n : CgNo) : State :=
  let g := s.gen n
  if s.running && g.enable && g.running && decide (g.mode ≠ .oneshot) then (s.setGen n g.load).passOn [n] else s

/-- R82: the completion of a running ONESHOT generator, a period end passed on. -/
def State.completeGen (s : State) (n : CgNo) : State :=
  let g := s.gen n
  if s.running && g.enable && g.running && decide (g.mode = .oneshot) then (s.setGen n g.complete).passOn [n] else s

/-- R83: a trigger from LNC or the host; none is taken while the switching blocks are held. -/
def State.triggerGen (s : State) (n : CgNo) : State :=
  if s.running then s.setGen n (s.gen n).trigger else s

/-- R84: a generator, with its new configuration stored, is enabled. -/
def State.enableGen (s : State) (n : CgNo) : State :=
  let g := (s.gen n).load
  s.setGen n { g with running := s.running && decide (g.mode ≠ .oneshot) }

/-- R85: a generator, with its new configuration stored, is disabled: it stops, its receivers take a final period end while
the switching blocks are running, and the lines following it end their bursts. -/
def State.disableGen (s : State) (n : CgNo) : State :=
  let s := s.setGen n { s.gen n with running := false, phase := 0 }
  if s.running then s.passOn [n] else s.endBursts [n]

/-- R15: LNC takes a ring request for a line. The request stands for an MRD line in ACTIVE or HELD. -/
def State.ringRequest (s : State) (l : LineNo) : State :=
  let r := s.line l
  if s.running && decide (r.cfg.kind = .mrd) && r.state.isUp && r.ringPending.isNone &&
      (s.gen r.cfg.burstCg).enable then
    (s.setLine l { r with ringPending := some r.cfg.burstCg }).triggerGen r.cfg.burstCg
  else s

end Sys2Proof.Machine
end

