-- ==== Sys2Proof/Machine/Denials.lean ====
section
/-! DEFINITION. Denials (R43): what the Position Controller does when an owner, or PSC itself, refuses a key's request. -/

namespace Sys2Proof.Machine

/-- R43: a denial sets the position's denial indicator and raises a DENY event. For a position that is offline the
indicator stays none and the event is still raised (R69). -/
def State.deny (s : State) (p : PosNo) (k : KeyNo) (reason : DenyReason) (target : DenyTarget) : State :=
  let s := if s.online p then
      s.setPosition p { s.position p with denial := some { key := k, reason := reason, left := Config.denialSteps } }
    else s
  s.raiseRunning (.deny p k reason target)

/-- R43: one cadence step of a denial indicator; at the step that brings the remaining steps to 0 it becomes none. -/
def PositionRec.denialStep (r : PositionRec) : PositionRec :=
  match r.denial with
  | some d => if d.left ≤ 1 then { r with denial := none } else { r with denial := some { d with left := d.left - 1 } }
  | none => r

/-- R43: the denial displays of every position at one cadence step. -/
def State.denialSteps (s : State) : State :=
  { s with psc := { s.psc with positions := s.psc.positions.map PositionRec.denialStep } }

/-- R43: the display of one position ends. -/
def State.endDenial (s : State) (p : PosNo) : State := s.setPosition p { s.position p with denial := none }

end Sys2Proof.Machine
end

