-- ==== Sys2Proof/Machine/LineStates.lean ====
section
/-! DEFINITION. How a line changes state (R6, R16 to R20) and what it does with the totals CXM reports (R7, R9 to R14). -/

namespace Sys2Proof.Machine

/-- R6: start a ring or answer timer; a length of 0 leaves it not started. -/
def Timer.start (steps : Nat) : Timer := if steps = 0 then .stopped else .running steps

/-- Whether a line is called by the far end and not yet answered. -/
def LineState.isRinging : LineState → Bool
  | .ringingIn => true
  | .unanswered => true
  | _ => false

/-- A line record entering a state. The ring timer starts on entry to RINGING_IN and the answer timer on entry to
CALLING_OUT, and each stops on leaving it; the hang timer runs on only from RINGING_IN to UNANSWERED (R6, R10); the guard
timer is stopped and fault_clear_mark erased on entry to FAULT and on leaving it (R17, R20); ring_pending lasts only while
the line is ACTIVE or HELD (R16). -/
def LineRec.enter (r : LineRec) (new : LineState) : LineRec :=
  { r with
    state := new
    ring := match new with
      | .ringingIn => Timer.start (r.cfg.ringTimeout * 100)
      | _ => .stopped
    answer := match new with
      | .callingOut => Timer.start (r.cfg.answerTimeout * 100)
      | _ => .stopped
    hang := match new with
      | .unanswered => r.hang
      | _ => .stopped
    guard := .stopped
    faultClear := false
    ringPending := if new.isUp then r.ringPending else none }

/-- A line changes state, and LNC raises the LINE event of the change while the switching blocks are running (R23). -/
def State.moveLine (s : State) (l : LineNo) (new : LineState) (cause : LineCause) : State :=
  (s.setLine l ((s.line l).enter new)).raiseRunning (.line l (s.line l).state new cause)

/-- R13: the last-removal case: RINGING_IN if the far end is off-hook, else IDLE. -/
def State.clearLine (s : State) (l : LineNo) (cause : LineCause) : State :=
  s.moveLine l (if offHook (s.line l).far then .ringingIn else .idle) cause

/-- R9, R10, R12, R13: what an ARD or MRD line does when its totals go from `old` to `new`. -/
def State.connectionEvent (s : State) (l : LineNo) (old new : Totals) : State :=
  let first := decide (old.sum = 0) && decide (0 < new.sum)
  let last := decide (0 < old.sum) && decide (new.sum = 0)
  match (s.line l).state with
  | .idle =>
    if !first then s
    else if new.unheld + new.held = 0 then s.moveLine l .active .monitor
    else if (s.line l).cfg.kind = .ard then s.moveLine l .callingOut .seized
    else s.moveLine l .active .seized
  | .ringingIn => if first then s.moveLine l .active .answered else s
  | .unanswered => if first then s.moveLine l .active .answered else s
  | .callingOut =>
    if last then s.clearLine l (if (s.line l).answer = .expired then .callTimeout else .cleared) else s
  | .active =>
    if last then s.clearLine l .cleared
    else if new.allHeld && !old.allHeld then s.moveLine l .held .hold
    else s
  | .held =>
    if last then s.clearLine l .cleared
    else if old.allHeld && (decide (0 < new.unheld) || decide (0 < new.speaker)) then s.moveLine l .active .retrieve
    else s
  | .disabled => s
  | .fault => s

/-- R7: CXM's report of a line's totals. It updates the totals; a HOOT_LEG line, a line in FAULT or DISABLED and a held
line take no transition on it (R7, R14). -/
def State.report (s : State) (l : LineNo) : State :=
  let old := (s.line l).totals
  let new := s.totalsNow l
  let s := s.setLine l { s.line l with totals := new }
  if s.running && (s.line l).cfg.kind.isWire then s.connectionEvent l old new else s

end Sys2Proof.Machine
end

