-- ==== Sys2Proof/Machine/Policy.lean ====
section
/-! DEFINITION. The Policy Resolver's functions (spec/07): the line-side code, the combination with the parties'
record_modes, the resolved policy of a line or a group, and the need that follows from it. -/

namespace Sys2Proof.Machine

/-- The range order (spec/07): MANDATORY, NEVER, BEST, ON_DEMAND, the highest first. -/
def PolicyCode.rangeRank : PolicyCode → Nat
  | .mandatory => 3
  | .never => 2
  | .best => 1
  | .onDemand => 0

/-- The resolution order (spec/07): MANDATORY, BEST, ON_DEMAND, the highest first; NEVER has no place in it. -/
def PolicyCode.resolveRank : PolicyCode → Nat
  | .mandatory => 3
  | .best => 2
  | .onDemand => 1
  | .never => 0

/-- The fixed block that contains a line (R132). -/
def lineBlock (l : LineNo) : Fin 64 := ⟨l.val / 8, by omega⟩

/-- R133: whether an enabled range contains a line. -/
def PolicyRange.covers (r : PolicyRange) (l : LineNo) : Bool :=
  r.enabled && decide (r.first ≤ l) && decide (l ≤ r.last)

/-- The better of two ranges by the range order; the earlier one stands at equal codes (R134). -/
def betterRange (s : State) (best : Option (Fin 8)) (r : Fin 8) : Option (Fin 8) :=
  match best with
  | none => some r
  | some b => if (s.prs.ranges[b]).code.rangeRank < (s.prs.ranges[r]).code.rangeRank then some r else some b

/-- R134 case 3: the range that gives a line its code. -/
def State.lineRange (s : State) (l : LineNo) : Option (Fin 8) :=
  ((List.finRange 8).filter (fun r => (s.prs.ranges[r]).covers l)).foldl (betterRange s) none

/-- R134: a line's line-side code and its source. -/
def State.lineSide (s : State) (l : LineNo) : PolicyCode × LineSource :=
  if !s.prs.tablesEnabled then (s.prs.defaultCode, .default)
  else
    match (if s.prs.fixedEnabled then s.prs.fixed[lineBlock l] else none) with
    | some code => (code, .fixed (lineBlock l))
    | none =>
      match s.lineRange l with
      | some r => ((s.prs.ranges[r]).code, .range r)
      | none => (s.prs.defaultCode, .default)

/-- R135: the combined value of a line-side code and a record_mode. -/
def PolicyCode.combine : PolicyCode → RecordMode → PolicyCode
  | .never, _ => .never
  | .onDemand, .compliance => .best
  | .onDemand, _ => .onDemand
  | .best, .normal => .best
  | .best, .compliance => .mandatory
  | .best, .exempt => .onDemand
  | .mandatory, _ => .mandatory

/-- The higher of two codes in the resolution order. -/
def PolicyCode.higher (a b : PolicyCode) : PolicyCode := if a.resolveRank < b.resolveRank then b else a

/-- R136, R138: the highest combined value over the parties; NEVER for a NEVER side, the side itself without parties. -/
def resolveParties (side : PolicyCode) : List RecordMode → PolicyCode
  | [] => side
  | m :: ms => ms.foldl (fun acc x => acc.higher (side.combine x)) (side.combine m)

/-- R136: the policy of a line with the given parties and demand flag. -/
def resolveLine (side : PolicyCode) (modes : List RecordMode) (demand : Bool) : PolicyCode :=
  match side, modes with
  | .never, _ => .never
  | _, [] => side
  | _, ms => if demand && decide (resolveParties side ms = .onDemand) then .best else resolveParties side ms

/-- The record_mode of a position (R27). -/
def State.recordMode (s : State) (p : PosNo) : RecordMode := (s.position p).cfg.recordMode

/-- The positions of a line's connections, one for each connection (R135). -/
def State.parties (s : State) (l : LineNo) : List PosNo := (s.lineConns l).map (·.pos)

/-- R136: the resolved policy of a line. -/
def State.linePolicy (s : State) (l : LineNo) : PolicyCode :=
  resolveLine (s.lineSide l).1 ((s.parties l).map s.recordMode) (s.demand l)

/-- R142: the policy a line would resolve to with position `p` added and, for a pickup, the record `gone` left out. -/
def State.linePolicyWith (s : State) (l : LineNo) (p : PosNo) (gone : Option Conn) : PolicyCode :=
  let stay := match gone with
    | some c => (s.lineConns l).erase c
    | none => s.lineConns l
  resolveLine (s.lineSide l).1 ((stay.map (·.pos) ++ [p]).map s.recordMode) (s.demand l)

/-- R138: the policy of a group with the given talkers. -/
def State.groupPolicyOf (s : State) (g : GroupNo) (talkers : List PosNo) : PolicyCode :=
  match (s.group g).cfg.recordCode with
  | .never => .never
  | code => resolveParties code (talkers.map s.recordMode)

/-- R138: the resolved policy of a group; none while its talker set is empty. -/
def State.groupPolicy (s : State) (g : GroupNo) : Option PolicyCode :=
  match (s.group g).talkers with
  | [] => none
  | ts => some (s.groupPolicyOf g (ts.map (·.pos)))

/-- R139: the need a policy gives a target that carries traffic. -/
def PolicyCode.need : PolicyCode → Need
  | .mandatory => .mandatory
  | .best => .best
  | .onDemand => .none
  | .never => .none

/-- R139: the need of a target as the state stands. -/
def State.needNow (s : State) : Target → Need
  | .line l => if (s.lineConns l).isEmpty then .none else (s.linePolicy l).need
  | .group g => match s.groupPolicy g with
    | some p => p.need
    | none => .none

end Sys2Proof.Machine
end

