-- ==== Sys2Proof/Machine/Recorder.lean ====
section
/-! DEFINITION. The Recorder Channel Unit's operations on channels and the record wait list (spec/08), and the
re-resolution by which the Policy Resolver passes changes of need to it (R140 to R142). -/

namespace Sys2Proof.Machine

/-- The need a rank stands for. -/
def Rank.need : Rank → Need
  | .best => .best
  | .mandatory => .mandatory

/-- R150: bind target `t` to channel `c`, the lowest STOPPED one: the segment rises, the target is named, the channel
enters RECORDING or SUSPENDED by its ready, the target leaves the wait list, and RECORD_START is raised. -/
def State.bindTo (s : State) (c : ChanNo) (t : Target) (cause : RecordCause) : State :=
  let seg := (s.chan c).segment + 1
  let st := if s.chanReady c then ChanState.recording else ChanState.suspended
  let s := s.setChan c { s.chan c with state := st, target := some t, segment := seg }
  let s := { s with rcu := { s.rcu with waiting := s.rcu.waiting.filter (fun e => e.target ≠ t) } }
  s.raiseRunning (.recordStart c t seg st cause)

/-- R152: an ask for a channel at admission. -/
def State.ask (s : State) (t : Target) : Option State :=
  match s.allocatable with
  | some c => some ((s.bindTo c t .admission).setKeptNeed t .mandatory)
  | none => none

/-- R61, R117: the recording check of a target whose policy after the request would be `policy`. -/
def State.recordingCheck (s : State) (t : Target) (policy : PolicyCode) : Option State :=
  if policy ≠ .mandatory then some s
  else if (s.boundChan t).isSome then some s
  else s.ask t

/-- R153: a change of rank. A waiting target that rises to MANDATORY raises RECORD_MISS; a bound one changes nothing. -/
def State.rankChange (s : State) (t : Target) (r : Rank) : State :=
  if (s.boundChan t).isSome then s
  else
    let raised := s.rcu.waiting.any (fun e => decide (e.target = t) && decide (e.rank = .best) && decide (r = .mandatory))
    let s := { s with rcu := { s.rcu with
      waiting := s.rcu.waiting.map (fun e => if e.target = t then { e with rank := r } else e) } }
    if raised then s.raiseRunning (.recordMiss t r .rank) else s

/-- R160: a target joins the record wait list with the next entry number, and RECORD_MISS is raised (R151). -/
def State.joinWaitList (s : State) (t : Target) (r : Rank) : State :=
  let n := s.rcu.entryCount + 1
  let s := { s with rcu := { s.rcu with
    waiting := s.rcu.waiting ++ [({ target := t, rank := r, number := n } : RecWait)], entryCount := n } }
  s.raiseRunning (.recordMiss t r (if s.portUp recPort then .noChannel else .port))

/-- R151: "needs recording". -/
def State.needsRecording (s : State) (t : Target) (r : Rank) : State :=
  if (s.boundChan t).isSome || s.isWaiting t then s.rankChange t r
  else match s.allocatable with
    | some c => s.bindTo c t .need
    | none => s.joinWaitList t r

/-- R158: "no longer needs recording". -/
def State.noLongerNeeds (s : State) (t : Target) : State :=
  match s.boundChan t with
  | some c =>
    let s := s.setChan c { s.chan c with state := .closing, closeCount := Config.closeFrames }
    s.raiseRunning (.recordStop c t (s.chan c).segment)
  | none => { s with rcu := { s.rcu with waiting := s.rcu.waiting.filter (fun e => e.target ≠ t) } }

/-- A change of a target's need: the need kept before a trigger and the need found after it (R141). -/
structure NeedChange where
  target : Target
  old : Need
  new : Need

/-- R141 step 1: a target that no longer needs recording. -/
def State.passStop (s : State) (c : NeedChange) : State :=
  if c.old ≠ .none ∧ c.new = .none then (s.setKeptNeed c.target .none).noLongerNeeds c.target else s

/-- R141 step 2: a target whose rank changes. -/
def State.passRank (s : State) (c : NeedChange) : State :=
  match c.old, c.new with
  | .best, .mandatory => (s.setKeptNeed c.target .mandatory).rankChange c.target .mandatory
  | .mandatory, .best => (s.setKeptNeed c.target .best).rankChange c.target .best
  | _, _ => s

/-- R141 step 3: a target that comes to need recording. -/
def State.passStart (s : State) (c : NeedChange) : State :=
  match c.old, c.new with
  | .none, .best => (s.setKeptNeed c.target .best).needsRecording c.target .best
  | .none, .mandatory => (s.setKeptNeed c.target .mandatory).needsRecording c.target .mandatory
  | _, _ => s

/-- R140, R141: one trigger of PRS. Every new need is found first; then the outcomes pass in the order stops, rank
changes, starts. The targets are given lines first, each kind in ascending number. -/
def State.reResolve (s : State) (ts : List Target) : State :=
  let cs := ts.map (fun t => { target := t, old := s.keptNeed t, new := s.needNow t : NeedChange })
  let s := cs.foldl State.passStop s
  let s := cs.foldl State.passRank s
  cs.foldl State.passStart s

/-- R137: the demand flag of a line left without connections is cleared. -/
def State.clearDemand (s : State) (l : LineNo) : State :=
  if (s.lineConns l).isEmpty then s.setDemand l false else s

/-- The notices of one CXM request for the lines whose parties changed: one trigger (R55, R137, R140). -/
def State.noticeLines (s : State) (ls : List LineNo) : State :=
  (ls.foldl State.clearDemand s).reResolve (ls.map .line)

/-- The notices of one GTU event: one trigger (R126, R140). -/
def State.noticeGroups (s : State) (gs : List GroupNo) : State := s.reResolve (gs.map .group)

/-- R140: a taken write of a policy table re-resolves every line that has a connection. -/
def State.reResolveTables (s : State) : State :=
  s.reResolve (((List.finRange 512).filter (fun l => !(s.lineConns l).isEmpty)).map .line)

/-- R140: a write that changes a record_mode re-resolves every line with a connection of the position and every group in
whose talker set it stands. -/
def State.reResolvePosition (s : State) (p : PosNo) : State :=
  s.reResolve (((List.finRange 512).filter (fun l => (s.lineConns l).any (fun c => c.pos = p))).map .line ++
    ((List.finRange 64).filter (fun g => (s.group g).talks p)).map .group)

/-- R137: a demand toggle. -/
def State.toggleDemand (s : State) (l : LineNo) : State :=
  if (s.lineConns l).isEmpty then s
  else (s.setDemand l (!s.demand l)).reResolve [.line l]

end Sys2Proof.Machine
end

