-- ==== Sys2Proof/Machine/Connections.lean ====
section
/-! DEFINITION. The Connection Manager (spec/03): line requests, holds, releases, privacy, speaker talk, removals of a
line's or a position's connections, and standing monitors. -/

namespace Sys2Proof.Machine

/-! ### Notifications -/

/-- Add a line to an ascending list, once. -/
def insertLine (l : LineNo) : List LineNo → List LineNo
  | [] => [l]
  | x :: xs => if l < x then l :: x :: xs else if l = x then x :: xs else x :: insertLine l xs

/-- The lines of a list of records, each once, in ascending number. -/
def linesOf (cs : List Conn) : List LineNo := cs.foldl (fun ls c => insertLine c.line ls) []

/-- R55: CXM notifies LNC of each line whose connections a request changed, then PRS of each line whose parties changed,
as one trigger. So a request's CONNECT occurrences come before the LINE occurrences of its reports, and these before the
RECORD occurrences of its notices (DESIGN CHOICE, notes/assumptions/10.md). -/
def State.notify (s : State) (reports notices : List LineNo) : State :=
  (reports.foldl State.report s).noticeLines notices

/-! ### The table -/

/-- R56: CXM raises a CONNECT event about a record. -/
def State.connEvent (s : State) (kind : ConnectKind) (c : Conn) (cause : ConnectCause) : State :=
  s.raiseRunning (.connect kind c.pos c.line c.place cause c.joined)

/-- Change one record of the table, in its place in the bridge order (R52). -/
def State.changeConn (s : State) (c c' : Conn) : State :=
  { s with cxm := { s.cxm with conns := s.cxm.conns.map (fun x => if x = c then c' else x) } }

/-- Append a record to the table (R50, R52). -/
def State.addConn (s : State) (c : Conn) : State := { s with cxm := { s.cxm with conns := s.cxm.conns ++ [c] } }

/-- R57: set the privacy flag of a line. -/
def State.setPrivacy (s : State) (l : LineNo) (b : Bool) : State :=
  { s with cxm := { s.cxm with privacy := s.cxm.privacy.set l b } }

/-- R57: the privacy flag of a line left without handset connections is cleared, with cause LEFT; `c` is the handset
record that went. -/
def State.leavePrivacy (s : State) (c : Conn) : State :=
  if s.cxm.privacy[c.line] && (s.bridge c.line).isEmpty then
    (s.setPrivacy c.line false).connEvent .privacyOff c .left
  else s

/-- Take records out of the table: a REMOVED event for each handset record in the order of the table, then the privacy
flags of the lines left without handset connections (R66, R67). The order of these events is a DESIGN CHOICE
(notes/assumptions/10.md). -/
def State.dropConns (s : State) (gone : Conn → Bool) (cause : ConnectCause) : State :=
  let cs := (s.cxm.conns.filter gone).filter (fun c => c.place.isHandset)
  let s := { s with cxm := { s.cxm with conns := s.cxm.conns.filter (fun c => !gone c) } }
  let s := cs.foldl (fun s c => s.connEvent .removed c cause) s
  cs.foldl State.leavePrivacy s

/-- A removal as one request: the records, then one report and one notice for each line that lost connections. A removal
that finds nothing changes nothing and sends nothing (R55, R67). -/
def State.removeConns (s : State) (gone : Conn → Bool) (cause : ConnectCause) : State :=
  let ls := linesOf (s.cxm.conns.filter gone)
  if ls.isEmpty then s else (s.dropConns gone cause).notify ls ls

/-- R67: CXM removes every connection of one line. -/
def State.removeLine (s : State) (l : LineNo) (cause : ConnectCause) : State :=
  s.removeConns (fun c => c.line = l) cause

/-- R69, R174: CXM removes every connection of the positions that go offline together, as one request. -/
def State.removePositions (s : State) (ps : List PosNo) : State := s.removeConns (fun c => ps.contains c.pos) .offline

/-! ### Admission -/

/-- R60, R61: admission of a request that would add a handset connection of position `p` to line `l`; `gone` is the held
record a pickup removes. It answers the state with any channel the recording check bound, or the reason of the denial. -/
def State.admission (s : State) (p : PosNo) (l : LineNo) (gone : Option Conn) : Except DenyReason State :=
  let r := s.line l
  if r.cfg.kind = .unused then .error .disabled
  else if r.cfg.kind = .hootLeg then .error .wrongKind
  else if r.state = .fault then .error .fault
  else if s.privateFrom l p then .error .privateLine
  else if gone.isNone && decide (Config.bridgeRoom ≤ (s.bridge l).length) then .error .bridgeFull
  else match s.recordingCheck (.line l) (s.linePolicyWith l p gone) with
    | some s => .ok s
    | none => .error .noRecorder

/-! ### Line requests -/

/-- What a line request becomes when CXM takes it (R37). -/
inductive LineCase where
  | ignored
  | move (c : Conn)
  | retrieve (c : Conn)
  | pickup (c : Conn)
  | connect
deriving DecidableEq, Repr

/-- R37 case 4: the held record of another position that a pickup takes: the earliest in bridge order, when the line has
no unheld handset connection. -/
def State.pickable (s : State) (p : PosNo) (l : LineNo) : Option Conn :=
  if (s.bridge l).any (fun c => c.place.isUnheld) then none
  else (s.bridge l).find? (fun c => c.place.isHold && decide (c.pos ≠ p))

/-- R37: the classification of a line request, the first case that applies. -/
def State.classify (s : State) (p : PosNo) (h : Handset) (l : LineNo) : LineCase :=
  if (s.connOn p l (handsetPlace h)).isSome then .ignored
  else match s.connOn p l (handsetPlace (otherHandset h)) with
    | some c => .move c
    | none => match s.connOn p l .hold with
      | some c => .retrieve c
      | none => match s.pickable p l with
        | some c => .pickup c
        | none => .connect

/-- R38: whether a displaced connection of position `p` is held, judged after the admitted request has taken effect. -/
def State.displacedHeld (s : State) (p : PosNo) : Bool :=
  (s.position p).cfg.autoHold && decide (s.holdSlots p < Config.holdRoom)

/-- R38: the connection `d` that handset `h` carried is held or released with cause DISPLACED. -/
def State.displace (s : State) (p : PosNo) (d : Conn) : State :=
  if s.displacedHeld p then
    (s.changeConn d { d with place := .hold }).connEvent .held { d with place := .hold } .displaced
  else s.dropConns (fun c => c = d) .displaced

/-- The end of an admitted line request on `l`: the displacement of what the handset carried, then the notifications of
R55. `changed` says whether the request changed the parties of `l`. The CONNECT occurrences of the request and of the
displacement come before the LINE occurrences of the reports, and LNC takes the report of `l` before that of the displaced
line (DESIGN CHOICE, notes/assumptions/10.md). -/
def State.finishRequest (s : State) (p : PosNo) (l : LineNo) (carried : Option Conn) (changed : Bool) : State :=
  match carried with
  | none => s.notify [l] (if changed then [l] else [])
  | some d =>
    let released := !s.displacedHeld p
    let s := s.displace p d
    let ls := (if changed then [l] else []) ++ (if released then [d.line] else [])
    s.notify [l, d.line] (ls.foldl (fun acc x => insertLine x acc) [])

/-- R63: a move or a retrieve takes a record of the position to handset `h`. -/
def State.bringConn (s : State) (p : PosNo) (h : Handset) (c : Conn) (kind : ConnectKind) (cause : ConnectCause) : State :=
  let carried := s.connAt p (handsetPlace h)
  let c' := { c with place := handsetPlace h }
  ((s.changeConn c c').connEvent kind c' cause).finishRequest p c.line carried false

/-- R62: the record of an admitted connect or pickup. -/
def State.newConn (s : State) (p : PosNo) (h : Handset) (l : LineNo) : Conn :=
  { line := l, pos := p, place := handsetPlace h, talk := false, joined := s.now }

/-- R57, R62: the first handset connection of a line whose privacy_default is on makes it EXCLUSIVE. -/
def State.defaultPrivacy (s : State) (c : Conn) (first : Bool) : State :=
  if first && (s.line c.line).cfg.privacyDefault then (s.setPrivacy c.line true).connEvent .privacyOn c .byDefault else s

/-- R62: an admitted connect. The ADDED occurrence comes before the PRIVACY_ON occurrence of privacy_default (DESIGN CHOICE,
notes/assumptions/10.md). -/
def State.connect (s : State) (p : PosNo) (h : Handset) (l : LineNo) : State :=
  let carried := s.connAt p (handsetPlace h)
  let first := (s.bridge l).isEmpty
  let c := s.newConn p h l
  (((s.addConn c).connEvent .added c .connect).defaultPrivacy c first).finishRequest p l carried true

/-- R64: an admitted pickup of the held record `held`. -/
def State.pickup (s : State) (p : PosNo) (h : Handset) (l : LineNo) (held : Conn) : State :=
  let carried := s.connAt p (handsetPlace h)
  let c := s.newConn p h l
  let s := { s with cxm := { s.cxm with conns := s.cxm.conns.erase held ++ [c] } }
  (((s.connEvent .removed held .pickup).connEvent .added c .pickup)).finishRequest p l carried true

/-- R69: a line request of a position that has gone offline is denied with the first reason admission gives, or with
DISABLED, and nothing is made or bound. -/
def State.lateLineRequest (s : State) (p : PosNo) (l : LineNo) (k : KeyNo) : State :=
  match s.admission p l none with
  | .error r => s.deny p k r (.line l)
  | .ok _ => s.deny p k .disabled (.line l)

/-- R37, R54: CXM takes a line request. -/
def State.lineRequest (s : State) (p : PosNo) (h : Handset) (l : LineNo) (k : KeyNo) : State :=
  if !s.online p then s.lateLineRequest p l k
  else match s.classify p h l with
    | .ignored => s
    | .move c => s.bringConn p h c .moved .move
    | .retrieve c => s.bringConn p h c .retrieved .retrieve
    | .pickup held => match s.admission p l (some held) with
      | .error r => s.deny p k r (.line l)
      | .ok s => s.pickup p h l held
    | .connect => match s.admission p l none with
      | .error r => s.deny p k r (.line l)
      | .ok s => s.connect p h l

/-! ### Release, hold, privacy, speaker talk -/

/-- R66: a release of the connection at handset `h`, from a RELEASE key. -/
def State.releaseKey (s : State) (p : PosNo) (h : Handset) (k : KeyNo) : State :=
  match s.connAt p (handsetPlace h) with
  | some c => s.removeConns (fun x => x = c) .release
  | none => s.deny p k .noLine .none

/-- R66: a hook release, which is never refused. -/
def State.hookRelease (s : State) (p : PosNo) (h : Handset) : State :=
  match s.connAt p (handsetPlace h) with
  | some c => s.removeConns (fun x => x = c) .hook
  | none => s

/-- R65: a hold of the connection at handset `h`. -/
def State.holdKey (s : State) (p : PosNo) (h : Handset) (k : KeyNo) : State :=
  match s.connAt p (handsetPlace h) with
  | none => s.deny p k .noLine .none
  | some c =>
    if Config.holdRoom ≤ s.holdSlots p then s.deny p k .holdFull (.line c.line)
    else
      let c' := { c with place := .hold }
      ((s.changeConn c c').connEvent .held c' .hold).notify [c.line] []

/-- R58: a privacy toggle for handset `h`. -/
def State.privacyKey (s : State) (p : PosNo) (h : Handset) (k : KeyNo) : State :=
  match s.connAt p (handsetPlace h) with
  | none => s.deny p k .noLine .none
  | some c => match s.share c.line with
    | .sole => (s.setPrivacy c.line true).connEvent .privacyOn c .key
    | .exclusive _ => (s.setPrivacy c.line false).connEvent .privacyOff c .key
    | .bridged => s.deny p k .bridged (.line c.line)
    | .none => s

/-- R71: the record at speaker channel `c` of position `p` takes a speaker_talk value; any other record keeps its own. -/
def Conn.setTalk (p : PosNo) (c : SpkNo) (talk : Bool) (x : Conn) : Conn :=
  if x.pos = p ∧ x.place = .spk c then { x with talk := talk } else x

/-- R71: a speaker_talk set or clear. -/
def State.speakerTalk (s : State) (p : PosNo) (c : SpkNo) (talk : Bool) : State :=
  { s with cxm := { s.cxm with conns := s.cxm.conns.map (Conn.setTalk p c talk) } }

/-! ### Standing monitors (R33, R70) -/

/-- The line whose standing monitor at (p, Sc) is called for and not yet made. -/
def State.monitorDue (s : State) (p : PosNo) (c : SpkNo) : Option LineNo :=
  match s.assign p c with
  | .line l =>
    if s.running && s.online p && decide ((s.line l).state ≠ .disabled) && decide ((s.line l).state ≠ .fault) &&
        (s.connAt p (.spk c)).isNone then some l
    else none
  | .none => none
  | .group _ => none

/-- The record of a standing monitor that is called for. -/
def State.monitorRecord (s : State) (pc : PosNo × SpkNo) : Option Conn :=
  (s.monitorDue pc.1 pc.2).map fun l => { line := l, pos := pc.1, place := .spk pc.2, talk := false, joined := s.now }

/-- R70: one request that makes the monitors called for at the given places. -/
def State.makeMonitors (s : State) (places : List (PosNo × SpkNo)) : State :=
  let new := places.filterMap s.monitorRecord
  if new.isEmpty then s
  else ({ s with cxm := { s.cxm with conns := s.cxm.conns ++ new } }).notify (linesOf new) (linesOf new)

/-- Every speaker place of the shelf, in the order of the SPEAKER_ASSIGN index. -/
def speakerPlaces : List (PosNo × SpkNo) :=
  (List.finRange 256).map fun i => (⟨i.val / 8, by omega⟩, ⟨i.val % 8, by omega⟩)

/-- The places whose assignment names a line. -/
def State.placesOf (s : State) (l : LineNo) : List (PosNo × SpkNo) :=
  speakerPlaces.filter (fun pc => s.assign pc.1 pc.2 = .line l)

/-- R70: one request for all monitors of a line. -/
def State.makeLineMonitors (s : State) (l : LineNo) : State := s.makeMonitors (s.placesOf l)

/-- R70: one request for all monitors of a position. -/
def State.makePositionMonitors (s : State) (p : PosNo) : State :=
  s.makeMonitors ((List.finRange 8).map (fun c => (p, c)))

/-- R70: at hold release, one request for each line with an assignment, in ascending line number. -/
def State.makeAllMonitors (s : State) : State :=
  let ls := (speakerPlaces.filterMap (fun pc => s.monitorDue pc.1 pc.2)).foldl (fun acc l => insertLine l acc) []
  ls.foldl State.makeLineMonitors s

/-- R67, R70: a removal of a line's connections after which its monitors are made again at once, by a second request. -/
def State.clearLineConns (s : State) (l : LineNo) (cause : ConnectCause) : State :=
  if (s.lineConns l).isEmpty then s else (s.removeLine l cause).makeLineMonitors l

end Sys2Proof.Machine
end

