-- ==== Sys2Proof/Machine/Lines.lean ====
section
/-! DEFINITION. The Line Controller's events (spec/01): faults, far signals, timer expiries, evaluation, and the effects of
a configuration write on a live line. -/

namespace Sys2Proof.Machine

/-! ### Faults -/

/-- R17: a line enters FAULT. CXM removes its connections together with the entry; the LINE event of the entry comes before
the CONNECT events of the removal (DESIGN CHOICE, notes/assumptions/10.md). -/
def State.enterFault (s : State) (l : LineNo) (cause : LineCause) : State :=
  (s.moveLine l .fault cause).removeLine l .fault

/-- R14, R20: the state a line enters when it leaves FAULT. -/
def State.faultExitState (s : State) (l : LineNo) : LineState :=
  let r := s.line l
  match r.cfg.kind with
  | .ard => if offHook r.far then .ringingIn else .idle
  | .mrd => if offHook r.far then .ringingIn else .idle
  | .hootLeg => if (s.group r.cfg.group).cfg.enabled then .active else .idle
  | .unused => .idle

/-- R20: a line leaves FAULT, and CXM makes its standing monitors again. -/
def State.exitFault (s : State) (l : LineNo) (cause : LineCause) : State :=
  (s.moveLine l (s.faultExitState l) cause).makeLineMonitors l

/-- R19: the exit condition of a line in FAULT. -/
def LineRec.exitMet (r : LineRec) : Bool :=
  decide (r.guard = .expired) && match r.cfg.faultMode with
    | .follow => true
    | .latched => r.faultClear

/-- R19: the test of the exit condition. -/
def State.testExit (s : State) (l : LineNo) (cause : LineCause) : State :=
  if (s.line l).state = .fault ∧ (s.line l).exitMet then s.exitFault l cause else s

/-- R18: the fault condition of a line in FAULT goes absent: the guard timer starts; a length of 0 expires at its start. -/
def State.startGuard (s : State) (l : LineNo) : State :=
  let r := s.line l
  if r.cfg.faultGuard = 0 then (s.setLine l { r with guard := .expired }).testExit l .guard
  else s.setLine l { r with guard := .running r.cfg.faultGuard }

/-- R18: a fresh occurrence of the fault condition on a line in FAULT. -/
def State.freshFault (s : State) (l : LineNo) : State :=
  let r := s.line l
  s.setLine l { r with
    guard := .stopped
    faultClear := match r.cfg.faultMode with
      | .latched => false
      | .follow => r.faultClear }

/-! ### Far signals -/

/-- R11: the far end of a ringing line goes idle: the hang timer starts; a ring_hang of 0 abandons the call at once. -/
def State.farGone (s : State) (l : LineNo) : State :=
  let r := s.line l
  if r.cfg.ringHang = 0 then s.moveLine l .idle .abandoned
  else s.setLine l { r with hang := .running (r.cfg.ringHang * 10) }

/-- R12: the far answer of a line in CALLING_OUT. -/
def State.farAnswer (s : State) (l : LineNo) : State :=
  let r := s.line l
  if r.answer = .expired then s
  else s.moveLine l (if r.totals.allHeld then .held else .active) .farAnswer

/-- What a line's state does with a far-signal change from `old` to the value already recorded (R9 to R14, R17, R18);
`cause` names a fault: LOSS for a far signal, PORT for the port. -/
def State.farChange (s : State) (l : LineNo) (old : FarSignal) (cause : LineCause) : State :=
  let r := s.line l
  match r.state with
  | .disabled => s
  | .fault =>
    if r.far = .loss then s.freshFault l
    else if old = .loss then s.startGuard l
    else s
  | .idle =>
    if r.far = .loss then s.enterFault l cause
    else if r.cfg.kind.isWire && offHook r.far then s.moveLine l .ringingIn .farCall
    else s
  | .ringingIn =>
    if r.far = .loss then s.enterFault l cause
    else if r.far = .idle then s.farGone l
    else s.setLine l { r with hang := .stopped }
  | .unanswered =>
    if r.far = .loss then s.enterFault l cause
    else if r.far = .idle then s.farGone l
    else s.setLine l { r with hang := .stopped }
  | .callingOut =>
    if r.far = .loss then s.enterFault l cause
    else if offHook r.far then s.farAnswer l
    else s
  | .active =>
    if r.far = .loss then s.enterFault l cause
    else if r.far = .idle then s.raiseRunning (.farCleared l .active)
    else s
  | .held =>
    if r.far = .loss then s.enterFault l cause
    else if r.far = .idle then s.raiseRunning (.farCleared l .held)
    else s

/-- R4: a far signal received for a line, or the LOSS that a port leaving UP sets. It is recorded in every state; while the
switching blocks are held it causes no transition. -/
def State.farSignal (s : State) (cause : LineCause) (l : LineNo) (f : FarSignal) : State :=
  let old := (s.line l).far
  if old = f then s
  else
    let s := s.setLine l { s.line l with far := f }
    if s.running then s.farChange l old cause else s

/-- The 128 lines of a line port, in ascending number (R167). -/
def portLines (n : QuadNo) : List LineNo :=
  (List.finRange 128).map fun k => ⟨128 * n.val + k.val, by omega⟩

/-- R4, R17, R173: a line port leaves UP: far_signal LOSS on each of its lines, line by line in ascending number. -/
def State.linePortLost (s : State) (n : QuadNo) : State :=
  ((portLines n).filter (fun l => (s.line l).far ≠ .loss)).foldl (fun s l => s.farSignal .port l .loss) s

/-! ### Timer expiries (R6) -/

/-- Whether a timer runs. -/
def Timer.isRunning : Timer → Bool
  | .running _ => true
  | _ => false

/-- R10: ring timer expiry. -/
def State.ringExpiry (s : State) (l : LineNo) : State :=
  let r := s.line l
  if s.running && decide (r.state = .ringingIn) && r.ring.isRunning then s.moveLine l .unanswered .ringTimeout else s

/-- R12: answer timer expiry: the timer is expired, and CXM clears the line's connections with cause CALL_TIMEOUT. -/
def State.answerExpiry (s : State) (l : LineNo) : State :=
  let r := s.line l
  if s.running && decide (r.state = .callingOut) && r.answer.isRunning then
    (s.setLine l { r with answer := .expired }).clearLineConns l .callTimeout
  else s

/-- R11: hang timer expiry: the call is abandoned. -/
def State.hangExpiry (s : State) (l : LineNo) : State :=
  let r := s.line l
  if s.running && r.state.isRinging && r.hang.isRunning then s.moveLine l .idle .abandoned else s

/-- R19: guard timer expiry: the timer is expired, and the exit condition is tested. -/
def State.guardExpiry (s : State) (l : LineNo) : State :=
  let r := s.line l
  if s.running && decide (r.state = .fault) && r.guard.isRunning then
    (s.setLine l { r with guard := .expired }).testExit l .guard
  else s

/-- R6: whether a timer expires at the step event that now reaches it. -/
def Timer.due : Timer → Bool
  | .running n => decide (n ≤ 1)
  | _ => false

/-- R6: one step event of a timer that does not expire at it. -/
def Timer.tick : Timer → Timer
  | .running n => if n ≤ 1 then .running n else .running (n - 1)
  | t => t

/-- One step event of a line's four timers, less their expiries. -/
def LineRec.tick (r : LineRec) : LineRec :=
  { r with ring := r.ring.tick, answer := r.answer.tick, hang := r.hang.tick, guard := r.guard.tick }

/-- Whether one of a line's timers expires at this step. -/
def LineRec.anyDue (r : LineRec) : Bool := r.ring.due || r.answer.due || r.hang.due || r.guard.due

/-- R6: the expiries of one line at a step, in the order of the timer table. `r` is the line's record before the step, whose
timers say which of them the step event brings to their end. -/
def State.lineExpiries (r : LineRec) (s : State) (l : LineNo) : State :=
  let s := if r.ring.due then s.ringExpiry l else s
  let s := if r.answer.due then s.answerExpiry l else s
  let s := if r.hang.due then s.hangExpiry l else s
  if r.guard.due then s.guardExpiry l else s

/-- R6: one step event reaches LNC: every running timer counts it, and the expiries of the step are taken line by line in
ascending line number. -/
def State.lineTimers (s : State) : State :=
  let due := (List.finRange 512).filter (fun l => (s.line l).anyDue)
  due.foldl (fun t l => State.lineExpiries (s.line l) t l)
    { s with lnc := { s.lnc with lines := s.lnc.lines.map LineRec.tick } }

/-! ### Evaluation (R8, R26) and configuration writes (R22) -/

/-- R8: the evaluation of a line in IDLE, the first case that applies. -/
def State.evaluate (s : State) (l : LineNo) (cause : LineCause) : State :=
  let r := s.line l
  if s.faultCondition l then s.enterFault l cause
  else if r.cfg.kind.isWire && !(s.lineConns l).isEmpty then s.moveLine l .active cause
  else if r.cfg.kind.isWire && offHook r.far then s.moveLine l .ringingIn cause
  else if decide (r.cfg.kind = .hootLeg) && (s.group r.cfg.group).cfg.enabled then s.moveLine l .active cause
  else s

/-- R22: whether a write re-evaluates a line in IDLE: the kind changes, or the group of a HOOT_LEG line does. -/
def reEvaluates (old new : LineCfg) : Bool :=
  decide (old.kind ≠ new.kind) || (decide (new.kind = .hootLeg) && decide (old.group ≠ new.group))

/-- R8, R22: what a taken write that changes kind or group does; `old` is the configuration before it, and the new one is
already stored. -/
def State.kindChanged (s : State) (l : LineNo) (old : LineCfg) : State :=
  let r := s.line l
  if old.kind = .unused ∧ r.cfg.kind ≠ .unused then
    let s := s.moveLine l .idle .config
    if s.running then (s.evaluate l .config).makeLineMonitors l else s
  else if old.kind ≠ .unused ∧ r.cfg.kind = .unused then
    (s.moveLine l .disabled .config).removeLine l .disabled
  else if s.running && decide (r.state = .idle) && reEvaluates old r.cfg then s.evaluate l .config
  else s

/-- R22: the effects of a taken write of a line's configuration: the change of kind and group first, then the test that
the write of fault_mode makes. -/
def State.lineCfgWritten (s : State) (l : LineNo) (cfg : LineCfg) : State :=
  let old := (s.line l).cfg
  ((s.setLine l { s.line l with cfg := cfg }).kindChanged l old).testExit l .clear

/-- R26: hold release evaluates every line that is not DISABLED, with cause RELEASE, in ascending line number (DESIGN CHOICE,
notes/assumptions/10.md). The lines are IDLE and have no connections. -/
def State.evaluateAll (s : State) : State :=
  ((List.finRange 512).filter (fun l => (s.line l).state ≠ .disabled)).foldl (fun s l => s.evaluate l .release) s

/-- R19: CLEAR_FAULT on a line in FAULT sets the mark and tests the exit condition. -/
def State.clearFault (s : State) (l : LineNo) : State :=
  (s.setLine l { s.line l with faultClear := true }).testExit l .clear

/-- R25: a line at the shelf hold. CXM's removal brings the totals to 0. -/
def LineRec.hold (r : LineRec) : LineRec :=
  { r with
    state := if r.state = .disabled then .disabled else .idle
    ring := .stopped
    answer := .stopped
    hang := .stopped
    guard := .stopped
    faultClear := false
    ringPending := none
    totals := { unheld := 0, held := 0, speaker := 0 } }

end Sys2Proof.Machine
end

