-- ==== Sys2Proof/Machine/Talk.lean ====
section
/-! DEFINITION. The Group Talk Unit (spec/06): talk requests and releases, promotion, timeout, changes to a group in use
and position loss. -/

namespace Sys2Proof.Machine

/-- The class order of a wait queue (R113). -/
def classRank : TalkClass → Nat
  | .override => 2
  | .supervisor => 1
  | .normal => 0

/-- R113: a queued request joins behind every entry of its class. -/
def queueBack (e : TalkEntry) : List TalkEntry → List TalkEntry
  | [] => [e]
  | x :: xs => if classRank x.cls < classRank e.cls then e :: x :: xs else x :: queueBack e xs

/-- R113: a re-queued talker goes to the front of its class. -/
def queueFront (e : TalkEntry) : List TalkEntry → List TalkEntry
  | [] => [e]
  | x :: xs => if classRank x.cls ≤ classRank e.cls then e :: x :: xs else x :: queueFront e xs

/-- Add a position to an ascending set of marks, once. -/
def insertMark (p : PosNo) : List PosNo → List PosNo
  | [] => [p]
  | x :: xs => if p < x then p :: x :: xs else if p = x then x :: xs else x :: insertMark p xs

/-- The positions of a list of entries, in order. -/
def entryPositions (es : List TalkEntry) : List PosNo := es.map (·.pos)

/-- R128: GTU raises a TALK event about an entry. -/
def State.talkEvent (s : State) (kind : TalkKind) (g : GroupNo) (e : TalkEntry) (cause : Option TalkCause)
    (waiting : Bool) : State :=
  s.raiseRunning (.talk kind g e.pos e.cls cause waiting)

/-- The recording check of a group with position `p` added to its talkers (R117). -/
def State.talkCheck (s : State) (g : GroupNo) (p : PosNo) : Option State :=
  s.recordingCheck (.group g) (s.groupPolicyOf g (entryPositions (s.group g).talkers ++ [p]))

/-- R121: one entry of the walk of a promotion: granted when a place is free and its recording check passes. -/
def State.promoteEntry (g : GroupNo) (s : State) (e : TalkEntry) : State :=
  if (s.group g).talkers.length < (s.group g).cfg.talkerLimit then
    match s.talkCheck g e.pos with
    | some s =>
      let r := s.group g
      let e' := { e with stamp := s.now }
      (s.setGroup g { r with waits := r.waits.erase e, talkers := r.talkers ++ [e'] }).talkEvent
        .granted g e' (some .promoted) false
    | none => s
  else s

/-- R121: promotion in one group: the walk of its queue in queue order. -/
def State.promote (s : State) (g : GroupNo) : State := (s.group g).waits.foldl (State.promoteEntry g) s

/-- R121: what GTU does when RCU reports that a channel has become allocatable. -/
def State.tryPromotions (s : State) : State :=
  let gs := (List.finRange 64).filter fun g =>
    (s.group g).cfg.enabled && decide ((s.group g).talkers.length < (s.group g).cfg.talkerLimit) &&
      !(s.group g).waits.isEmpty
  (gs.foldl State.promote s).noticeGroups gs

/-- R116: an entry joins the end of the talker set. -/
def State.grant (s : State) (g : GroupNo) (e : TalkEntry) (cause : TalkCause) : State :=
  let r := s.group g
  (s.setGroup g { r with talkers := r.talkers ++ [e] }).talkEvent .granted g e (some cause) false

/-- R118, R123: a talker that has left the set is re-queued at the front of its class while the pool has a free entry, and
removed otherwise. Its REQUEUED event says waiting, for the entry stands in the queue (DEDUCED, notes/assumptions/15.md). -/
def State.requeue (s : State) (g : GroupNo) (e : TalkEntry) (cause : TalkCause) : State :=
  if 0 < s.poolFree then
    let r := s.group g
    let e' := { e with stamp := s.now }
    (s.setGroup g { r with waits := queueFront e' r.waits }).talkEvent .requeued g e' (some cause) true
  else s.talkEvent .removed g e (some cause) false

/-- R118: a grant by pre-emption of talker `q`. -/
def State.preempt (s : State) (g : GroupNo) (q e : TalkEntry) : State :=
  let r := s.group g
  let s := s.setGroup g { r with talkers := r.talkers.erase q }
  (s.requeue g q .preempted).grant g e .preempt

/-- R116 checks 4 to 7: a request that passed the recording check is granted, pre-empts, is queued or is refused. A QUEUED
event says waiting (DEDUCED, notes/assumptions/15.md). -/
def State.placeTalk (s : State) (g : GroupNo) (e : TalkEntry) : State :=
  let r := s.group g
  if r.talkers.length < r.cfg.talkerLimit then s.grant g e .request
  else match (if e.cls = .override then r.talkers.find? (fun t => t.cls = .normal) else none) with
    | some q => s.preempt g q e
    | none =>
      if 0 < s.poolFree then
        (s.setGroup g { r with waits := queueBack e r.waits }).talkEvent .queued g e none true
      else s.raiseRunning (.talkRefused g e.pos e.cls .queueFull)

/-- R125: everything that the positions `ps` have in one group is removed, with cause OFFLINE: the talkers in grant order,
then the wait entries in queue order (DESIGN CHOICE, notes/assumptions/10.md). -/
def State.dropOffline (ps : List PosNo) (s : State) (g : GroupNo) : State :=
  let r := s.group g
  let s := s.setGroup g { r with
    talkers := r.talkers.filter (fun e => !ps.contains e.pos)
    waits := r.waits.filter (fun e => !ps.contains e.pos)
    marks := r.marks.filter (fun q => !ps.contains q) }
  let s := (r.talkers.filter (fun e => ps.contains e.pos)).foldl
    (fun s e => s.talkEvent .removed g e (some .offline) false) s
  (r.waits.filter (fun e => ps.contains e.pos)).foldl (fun s e => s.talkEvent .removed g e (some .offline) true) s

/-- R125: the positions `ps` go offline in one event: their entries and marks go in every group in ascending number, then
promotion follows in each group whose set lost an entry, then PRS is notified of those groups. So no entry of a lost port
is promoted by the loss of another (R174). -/
def State.talkOffline (s : State) (ps : List PosNo) : State :=
  let has := (List.finRange 64).filter fun g =>
    ps.any (fun p => (s.group g).talks p || (s.group g).waitsFor p || (s.group g).marks.contains p)
  let lost := (List.finRange 64).filter (fun g => ps.any (s.group g).talks)
  ((lost.foldl State.promote (has.foldl (State.dropOffline ps) s))).noticeGroups lost

/-- R125: the entry of a request that GTU takes after its position went offline is removed at once. -/
def State.dropLate (s : State) (p : PosNo) (g : GroupNo) : State :=
  if s.online p then s
  else
    let talked := (s.group g).talks p
    let s := State.dropOffline [p] s g
    if talked then s.promote g else s

/-- R116, R119: GTU takes a talk request of position `p` with class `cls`, made by key `k`. The TALK REFUSED occurrence of a
denied request comes before its DENY (DESIGN CHOICE, notes/assumptions/10.md). -/
def State.talkRequest (s : State) (p : PosNo) (g : GroupNo) (cls : TalkClass) (k : KeyNo) : State :=
  let r := s.group g
  if !r.cfg.enabled then
    (s.raiseRunning (.talkRefused g p cls .disabled)).deny p k .disabled (.group g)
  else if r.talks p || r.waitsFor p || r.marks.contains p then s
  else match s.talkCheck g p with
    | none => (s.raiseRunning (.talkRefused g p cls .noRecorder)).deny p k .noRecorder (.group g)
    | some s => ((s.placeTalk g { pos := p, cls := cls, stamp := s.now }).dropLate p g).noticeGroups [g]

/-- R120: GTU takes a talk release. -/
def State.talkRelease (s : State) (p : PosNo) (g : GroupNo) : State :=
  let r := s.group g
  match r.talkers.find? (fun e => e.pos = p) with
  | some e =>
    let s := (s.setGroup g { r with talkers := r.talkers.erase e }).talkEvent .removed g e (some .release) false
    (s.promote g).noticeGroups [g]
  | none => match r.waits.find? (fun e => e.pos = p) with
    | some e => (s.setGroup g { r with waits := r.waits.erase e }).talkEvent .removed g e (some .release) true
    | none => s.setGroup g { r with marks := r.marks.filter (fun q => q ≠ p) }

/-- R122: the talkers of a group that have talked for max_talk. -/
def State.timedOut (s : State) (g : GroupNo) : List TalkEntry :=
  let r := s.group g
  if r.cfg.maxTalk = 0 then []
  else r.talkers.filter (fun e => r.cfg.maxTalk * 100 ≤ (s.now - e.stamp).toNat)

/-- R122: the removals and the promotion of one group at a step. The talkers that go together are named in grant order
(DESIGN CHOICE, notes/assumptions/10.md). -/
def State.timeOutGroup (s : State) (g : GroupNo) : State :=
  let es := s.timedOut g
  let r := s.group g
  let s := s.setGroup g { r with
    talkers := r.talkers.filter (fun e => !es.contains e)
    marks := es.foldl (fun ms e => insertMark e.pos ms) r.marks }
  (es.foldl (fun s e => s.talkEvent .removed g e (some .talkTimeout) false) s).promote g

/-- R122, R126: a timeout step over the groups `gs`: group by group, each group's removals and promotion whole before the
next group's, then the notices of the whole step as one trigger of PRS. -/
def State.timeoutStep (s : State) (gs : List GroupNo) : State :=
  let due := gs.filter (fun g => !(s.timedOut g).isEmpty)
  (due.foldl State.timeOutGroup s).noticeGroups due

/-- R122: the timeout of one group at a step. -/
def State.talkTimeout (s : State) (g : GroupNo) : State := s.timeoutStep [g]

/-- R122, R126: the timeouts of one cadence step, which are one event of GTU, group by group in ascending number. -/
def State.talkTimeouts (s : State) : State := s.timeoutStep (List.finRange 64)

/-- R123: the most recently granted talker beyond a lowered limit leaves the set. -/
def State.lowerOnce (g : GroupNo) (s : State) : State :=
  match (s.group g).talkers.getLast? with
  | some e => (s.setGroup g { s.group g with talkers := (s.group g).talkers.dropLast }).requeue g e .limit
  | none => s

/-- R123: lowering takes the talkers beyond the limit in turn. -/
def State.lowerBy (g : GroupNo) : Nat → State → State
  | 0, s => s
  | n + 1, s => State.lowerBy g n (s.lowerOnce g)

/-- R123: a taken write of talker_limit, already stored, acts at once. The write that carries it sends the notice (R126). -/
def State.limitChanged (s : State) (g : GroupNo) (old : Nat) : State :=
  let r := s.group g
  if old = r.cfg.talkerLimit then s
  else
    let s := State.lowerBy g (r.talkers.length - r.cfg.talkerLimit) s
    if old < r.cfg.talkerLimit then s.promote g else s

/-- The HOOT_LEG lines of a group in a state, in ascending number, the order in which the legs of one group change state
(DESIGN CHOICE, notes/assumptions/10.md). -/
def State.legLines (s : State) (g : GroupNo) (st : LineState) : List LineNo :=
  (List.finRange 512).filter fun l =>
    decide ((s.line l).cfg.kind = .hootLeg) && decide ((s.line l).cfg.group = g) && decide ((s.line l).state = st)

/-- R115: a group is enabled while the switching blocks are running: its IDLE legs enter ACTIVE with cause GROUP, in
ascending line number (DESIGN CHOICE, notes/assumptions/10.md). -/
def State.groupEnabled (s : State) (g : GroupNo) : State :=
  (s.legLines g .idle).foldl (fun s l => s.moveLine l .active .group) s

/-- R124: a group is disabled while the switching blocks are running, its ACTIVE legs in ascending line number (DESIGN CHOICE,
notes/assumptions/10.md). The write that disables it sends the notice (R126). -/
def State.groupDisabled (s : State) (g : GroupNo) : State :=
  let r := s.group g
  let s := s.setGroup g { r with talkers := [], waits := [], marks := [] }
  let s := r.talkers.foldl (fun s e => s.talkEvent .removed g e (some .disabled) false) s
  let s := r.waits.foldl (fun s e => s.talkEvent .removed g e (some .disabled) true) s
  (s.legLines g .active).foldl (fun s l => s.moveLine l .idle .group) s

end Sys2Proof.Machine
end

