-- ==== Sys2Proof/Machine/Positions.lean ====
section
/-! DEFINITION. The Position Controller (spec/02): online and offline, console cells, keys, lamp images and ring lines. -/

namespace Sys2Proof.Machine

/-! ### Online and offline (R29, R30) -/

/-- R29, R30: the live fields that a console's loss or arrival sets: hooks on, no pressed talk keys, no denial. -/
def PositionRec.quiet (r : PositionRec) : PositionRec :=
  { r with hookLeft := false, hookRight := false, pressed := [], denial := none }

/-- R29: PSC's own part of a position's going offline. -/
def State.quietPosition (s : State) (p : PosNo) : State := (s.setPosition p (s.position p).quiet).raise (.offline p)

/-- R29, R174: the positions `ps`, whose online values have just become no, go offline together: CXM's removal as one
request, GTU's as one event, then PSC's part position by position in the order of `ps`. So the OFFLINE occurrence of a
position comes after those of its removals (DESIGN CHOICE, notes/assumptions/10.md). -/
def State.goOffline (s : State) (ps : List PosNo) : State :=
  ps.foldl State.quietPosition ((s.removePositions ps).talkOffline ps)

/-- R30: a position, whose online value has just become yes, comes online. Its monitors are made while the switching blocks
are running. The ONLINE occurrence comes before the LINE and RECORD occurrences that the monitors bring (DESIGN CHOICE,
notes/assumptions/10.md). -/
def State.goOnline (s : State) (p : PosNo) : State :=
  ((s.setPosition p (s.position p).quiet).raise (.online p)).makePositionMonitors p

/-! ### Talk keys (R41, R42) -/

/-- Whether a key is among the pressed talk keys (R36). -/
def PositionRec.holds (r : PositionRec) (k : KeyNo) : Bool := r.pressed.any (fun e => e.key = k)

/-- A key joins the pressed talk keys (R28). -/
def State.press (s : State) (p : PosNo) (k : KeyNo) (t : PressedTarget) : State :=
  s.setPosition p { s.position p with pressed := (s.position p).pressed ++ [{ key := k, target := t }] }

/-- A key leaves the pressed talk keys. -/
def State.unpress (s : State) (p : PosNo) (k : KeyNo) : State :=
  s.setPosition p { s.position p with pressed := (s.position p).pressed.filter (fun e => e.key ≠ k) }

/-- R41: a talk key for group `g` goes down. -/
def State.talkKeyDown (s : State) (p : PosNo) (k : KeyNo) (g : GroupNo) : State :=
  (s.press p k (.group g)).talkRequest p g (s.position p).cfg.talkClass k

/-- R42: a TALK_SPEAKER key goes down. -/
def State.speakerKeyDown (s : State) (p : PosNo) (k : KeyNo) (c : SpkNo) : State :=
  match s.assign p c with
  | .group g => s.talkKeyDown p k g
  | .line _ =>
    if (s.connAt p (.spk c)).isSome then (s.press p k (.lineSpeaker c)).speakerTalk p c true else s
  | .none => s

/-! ### Keys (R36 to R42) -/

/-- R40: a RING key, judged by PSC against the connection at the selected handset. -/
def State.ringKey (s : State) (p : PosNo) (k : KeyNo) : State :=
  match s.connAt p (handsetPlace (s.position p).selected) with
  | none => s.deny p k .noLine .none
  | some c =>
    if (s.line c.line).cfg.kind = .mrd then s.ringRequest c.line else s.deny p k .wrongKind (.line c.line)

/-- R40: a RECORD key. -/
def State.recordKey (s : State) (p : PosNo) (k : KeyNo) : State :=
  match s.connAt p (handsetPlace (s.position p).selected) with
  | none => s.deny p k .noLine .none
  | some c => s.toggleDemand c.line

/-- R31, R36: the action of a key at KEY_DOWN. A talk key already pressed is not taken again. -/
def State.keyAction (s : State) (p : PosNo) (k : KeyNo) : State :=
  let h := (s.position p).selected
  match (s.key p k).action with
  | .none => s
  | .line l => s.lineRequest p h l k
  | .release => s.releaseKey p h k
  | .hold => s.holdKey p h k
  | .ring => s.ringKey p k
  | .privacy => s.privacyKey p h k
  | .talkGroup g => if (s.position p).holds k then s else s.talkKeyDown p k g
  | .talkSpeaker c => if (s.position p).holds k then s else s.speakerKeyDown p k c
  | .record => s.recordKey p k
  | .host => s.raiseRunning (.key p k false)

/-- R36, R41, R42: a pressed talk key goes up: the release is made against the remembered target. -/
def State.releasePressed (s : State) (p : PosNo) (k : KeyNo) (t : PressedTarget) : State :=
  match t with
  | .group g => (s.unpress p k).talkRelease p g
  | .lineSpeaker c => (s.unpress p k).speakerTalk p c false

/-- R36: a KEY_UP. -/
def State.keyRelease (s : State) (p : PosNo) (k : KeyNo) : State :=
  match (s.position p).pressed.find? (fun e => e.key = k) with
  | some e => s.releasePressed p k e.target
  | none => if (s.key p k).action = .host then s.raiseRunning (.key p k true) else s

/-- R34, R199: the key a key cell names; 48 and above are not taken. -/
def keyOfByte (b : Byte) : Option KeyNo := if h : b.toNat < 48 then some ⟨b.toNat, h⟩ else none

/-- R34: whether the key cells of a position are taken. -/
def State.takesKeys (s : State) (p : PosNo) : Bool := s.running && s.online p

/-- R34: whether the HOOK and LEVEL cells of a position are taken. -/
def State.takesLevels (s : State) (p : PosNo) : Bool := decide (s.mga.phase ≠ .init) && s.online p

/-- A KEY_DOWN cell (R34, R36). -/
def State.keyDown (s : State) (p : PosNo) (b : Byte) : State :=
  match keyOfByte b with
  | some k => if s.takesKeys p then s.keyAction p k else s
  | none => s

/-- A KEY_UP cell (R34, R36). -/
def State.keyUp (s : State) (p : PosNo) (b : Byte) : State :=
  match keyOfByte b with
  | some k => if s.takesKeys p then s.keyRelease p k else s
  | none => s

/-! ### Hooks and levels (R35) -/

/-- The hook of a handset, `true` while it is off. -/
def PositionRec.hook (r : PositionRec) : Handset → Bool
  | .left => r.hookLeft
  | .right => r.hookRight

/-- Set the hook of a handset. -/
def PositionRec.setHook (r : PositionRec) (h : Handset) (off : Bool) : PositionRec :=
  match h with
  | .left => { r with hookLeft := off }
  | .right => { r with hookRight := off }

/-- R199: the handset a HOOK cell names. -/
def handsetOfByte (b : Byte) : Option Handset := if b = 0 then some .left else if b = 1 then some .right else none

/-- R35: HOOK(h, off) lifts and selects a handset. -/
def State.lift (s : State) (p : PosNo) (h : Handset) : State :=
  s.setPosition p { (s.position p).setHook h true with selected := h }

/-- R35: HOOK(h, on) puts a handset down; when its hook was off and the switching blocks are running, CXM is asked for a
hook release. -/
def State.putDown (s : State) (p : PosNo) (h : Handset) : State :=
  let wasOff := (s.position p).hook h
  let s := s.setPosition p ((s.position p).setHook h false)
  if wasOff && s.running then s.hookRelease p h else s

/-- A HOOK cell (R34, R35, R199): hook byte 0 is on, 1 is off. -/
def State.hookCell (s : State) (p : PosNo) (hb v : Byte) : State :=
  match handsetOfByte hb with
  | none => s
  | some h =>
    if !s.takesLevels p then s
    else if v = 1 then s.lift p h
    else if v = 0 then s.putDown p h
    else s

/-- A LEVEL cell (R34, R35, R199). -/
def State.levelCell (s : State) (p : PosNo) (e : Byte) (v : U16) : State :=
  if h : e.toNat < 10 then
    if s.takesLevels p then
      let r := s.position p
      s.setPosition p { r with cfg := { r.cfg with
        volumes := r.cfg.volumes.set e.toNat (min v.toNat Config.unity) } }
    else s
  else s

/-! ### Lamps (R44 to R47) -/

/-- The row of a relation in the lamp style map (R46). -/
def Relation.idx : Relation → Fin 16
  | .idle => 0 | .ringing => 1 | .unanswered => 2 | .callingOutMine => 3 | .activeMine => 4 | .activeOther => 5
  | .heldMine => 6 | .heldOther => 7 | .privateOther => 8 | .fault => 9 | .denied => 10 | .talking => 11
  | .talkWaiting => 12 | .recordOn => 13 | .farCleared => 14 | .disabled => 15

/-- Whether a position's denial indicator names a key. -/
def State.denied (s : State) (p : PosNo) (k : KeyNo) : Bool :=
  match (s.position p).denial with
  | some d => decide (d.key = k)
  | none => false

/-- R44, rows 2 to 13: the relation of a line key. -/
def State.lineRelation (s : State) (p : PosNo) (l : LineNo) : Relation :=
  let r := s.line l
  let mine := (s.bridge l).any (fun c => decide (c.pos = p) && c.place.isUnheld)
  let other := (s.bridge l).any (fun c => decide (c.pos ≠ p) && c.place.isUnheld)
  if r.state = .disabled then .disabled
  else if r.state = .fault then .fault
  else if mine && decide (r.state = .callingOut) then .callingOutMine
  else if mine && decide (r.state = .active) && decide (r.far = .idle) then .farCleared
  else if mine then .activeMine
  else if (s.bridge l).any (fun c => decide (c.pos = p) && c.place.isHold) then .heldMine
  else if r.state = .ringingIn then .ringing
  else if r.state = .unanswered then .unanswered
  else match s.share l with
    | .exclusive _ => .privateOther
    | _ =>
      if other || (decide (r.cfg.kind = .hootLeg) && decide (r.state = .active)) then .activeOther
      else if !(s.bridge l).isEmpty then .heldOther
      else .idle

/-- R45, rows 2 and 3: the relation of a talk key for a group. -/
def State.talkRelation (s : State) (p : PosNo) (g : GroupNo) : Relation :=
  if (s.group g).talks p then .talking
  else if (s.group g).waitsFor p then .talkWaiting
  else .idle

/-- R45, row 5: the relation of a RECORD key. -/
def State.recordRelation (s : State) (p : PosNo) : Relation :=
  match s.connAt p (handsetPlace (s.position p).selected) with
  | some c => if s.demand c.line then .recordOn else .idle
  | none => .idle

/-- R44, R45: the relation of a key. -/
def State.relation (s : State) (p : PosNo) (k : KeyNo) : Relation :=
  if s.denied p k then .denied
  else match (s.key p k).action with
    | .line l => s.lineRelation p l
    | .talkGroup g => s.talkRelation p g
    | .talkSpeaker c => match s.assign p c with
      | .group g => s.talkRelation p g
      | .line _ => match s.connAt p (.spk c) with
        | some x => if x.talk then .talking else .idle
        | none => .idle
      | .none => .idle
    | .record => s.recordRelation p
    | .none => .idle
    | .release => .idle
    | .hold => .idle
    | .ring => .idle
    | .privacy => .idle
    | .host => .idle

/-- R46: the colour a style shows for a key with a colour base. -/
def StyleColour.resolve (base : Colour) : StyleColour → Colour
  | .fixed c => c
  | .key => base

/-- R46: the lamp state of a key from its relation's style. -/
def State.lampOf (s : State) (p : PosNo) (k : KeyNo) : Lamp :=
  let style := s.psc.lampStyle[(s.relation p k).idx]
  let colour := style.colour.resolve (s.key p k).colour
  match style.pattern with
  | .off => .off
  | .steady => .lit colour
  | .follow n => if s.delivered n then .lit colour else .off

/-- R47: the lamp image of a position; all lamps off while it is offline and while the switching blocks are held. -/
def State.lampImage (s : State) (p : PosNo) : Vector Lamp 48 :=
  if s.running && s.online p then Vector.ofFn (fun k => s.lampOf p k) else Vector.replicate 48 .off

/-- The lower of two lines. -/
def lowerLine (a : Option LineNo) (l : LineNo) : Option LineNo :=
  match a with
  | some x => some (min x l)
  | none => some l

/-- R47: the position's ring line: the lowest-numbered line in RINGING_IN that is the target of one of its LINE keys. -/
def State.ringLine (s : State) (p : PosNo) : Option LineNo :=
  if s.running && s.online p then
    ((List.finRange 48).filterMap fun k =>
      match (s.key p k).action with
      | .line l => if (s.line l).state = .ringingIn then some l else none
      | _ => none).foldl lowerLine none
  else none

end Sys2Proof.Machine
end

