-- ==== Sys2Proof/Machine/ConsoleCommands.lean ====
section
/-! DEFINITION. The meanings of the console cells and of the requests that the Position Controller passes to the blocks that
own the matter. A request reaches its owner while the switching blocks are running; at any other time it changes nothing
(R34, R72, R130). -/

namespace Sys2Proof.Machine

/-- Take an effect while the switching blocks are running. -/
def whileRunning (f : State → State) (s : State) : State := if s.running then f s else s

/-- KEY_DOWN (R36). -/
def execKeyDown (p : PosNo) (k : Byte) (s : State) : Host.Outcome State Fault Refusal := live (fun s => s.keyDown p k) s

/-- KEY_UP (R36). -/
def execKeyUp (p : PosNo) (k : Byte) (s : State) : Host.Outcome State Fault Refusal := live (fun s => s.keyUp p k) s

/-- HOOK (R35). -/
def execHook (p : PosNo) (h v : Byte) (s : State) : Host.Outcome State Fault Refusal :=
  live (fun s => s.hookCell p h v) s

/-- LEVEL (R35). -/
def execLevel (p : PosNo) (e : Byte) (v : U16) (s : State) : Host.Outcome State Fault Refusal :=
  live (fun s => s.levelCell p e v) s

/-- LINE_REQUEST (R37). -/
def execLineRequest (p : PosNo) (h : Handset) (l : LineNo) (k : KeyNo) (s : State) : Host.Outcome State Fault Refusal :=
  live (whileRunning fun s => s.lineRequest p h l k) s

/-- RELEASE_REQUEST (R66). -/
def execReleaseRequest (p : PosNo) (h : Handset) (k : KeyNo) (s : State) : Host.Outcome State Fault Refusal :=
  live (whileRunning fun s => s.releaseKey p h k) s

/-- HOOK_RELEASE (R66). -/
def execHookRelease (p : PosNo) (h : Handset) (s : State) : Host.Outcome State Fault Refusal :=
  live (whileRunning fun s => s.hookRelease p h) s

/-- HOLD_REQUEST (R65). -/
def execHoldRequest (p : PosNo) (h : Handset) (k : KeyNo) (s : State) : Host.Outcome State Fault Refusal :=
  live (whileRunning fun s => s.holdKey p h k) s

/-- PRIVACY_TOGGLE (R58). -/
def execPrivacyToggle (p : PosNo) (h : Handset) (k : KeyNo) (s : State) : Host.Outcome State Fault Refusal :=
  live (whileRunning fun s => s.privacyKey p h k) s

/-- SPEAKER_TALK_SET (R71). -/
def execSpeakerTalkSet (p : PosNo) (c : SpkNo) (talk : Bool) (s : State) : Host.Outcome State Fault Refusal :=
  live (whileRunning fun s => s.speakerTalk p c talk) s

/-- RING_REQUEST (R15). -/
def execRingRequest (l : LineNo) (s : State) : Host.Outcome State Fault Refusal := live (fun s => s.ringRequest l) s

/-- DEMAND_TOGGLE (R137). -/
def execDemandToggle (l : LineNo) (s : State) : Host.Outcome State Fault Refusal :=
  live (whileRunning fun s => s.toggleDemand l) s

/-- TALK_REQUEST (R116). -/
def execTalkRequest (p : PosNo) (g : GroupNo) (c : TalkClass) (k : KeyNo) (s : State) :
    Host.Outcome State Fault Refusal :=
  live (whileRunning fun s => s.talkRequest p g c k) s

/-- TALK_RELEASE (R120). -/
def execTalkRelease (p : PosNo) (g : GroupNo) (s : State) : Host.Outcome State Fault Refusal :=
  live (whileRunning fun s => s.talkRelease p g) s

end Sys2Proof.Machine
end

