-- ==== Sys2Proof/Machine/Service.lean ====
section
/-! DEFINITION. What the Recorder Channel Unit does when channels free, when ready indications change and when the
recorder port comes and goes (spec/08, sections 8.3 and 8.6 to 8.8). -/

namespace Sys2Proof.Machine

/-- R161: the head of the wait list is bound to the lowest STOPPED channel, while there are both. -/
def State.serveOnce (s : State) : State :=
  match s.waitList, s.allocatable with
  | e :: _, some c => s.bindTo c e.target .wait
  | _, _ => s

/-- R161: at most `n` bindings of a service. -/
def State.serveUpTo : Nat → State → State
  | 0, s => s
  | n + 1, s => State.serveUpTo n s.serveOnce

/-- R161: RCU serves the record wait list, and reports a channel that is still allocatable to GTU. -/
def State.serve (s : State) : State :=
  let s := State.serveUpTo s.rcu.waiting.length s
  if s.allocatable.isSome then s.tryPromotions else s

/-- R159: a CLOSING channel's close count reaches 0. -/
def State.closeExpiry (s : State) (c : ChanNo) : State :=
  if (s.chan c).state = .closing then
    let s := s.setChan c { s.chan c with state := .stopped, target := none, closeCount := 0 }
    if s.portUp recPort then s.serve else s
  else s

/-- R158: one mix frame of a closing. -/
def Chan.closeStep (r : Chan) : Chan :=
  if r.state = .closing then { r with closeCount := r.closeCount - 1 } else r

/-- R158, R159: the end of a mix frame for the closing channels: the counts fall, then each channel whose count has
reached 0 expires, in ascending number. -/
def State.closeSteps (s : State) : State :=
  let s := { s with rcu := { s.rcu with chans := s.rcu.chans.map Chan.closeStep } }
  ((List.finRange 128).filter (fun c => decide ((s.chan c).state = .closing) && decide ((s.chan c).closeCount = 0))).foldl
    State.closeExpiry s

/-- R156: a RECORDING channel is suspended, with a RECORD_GAP event. -/
def State.suspend (cause : RecordCause) (s : State) (c : ChanNo) : State :=
  match (s.chan c).target with
  | some t => (s.setChan c { s.chan c with state := .suspended }).raiseRunning (.recordGap c t (s.chan c).segment cause)
  | none => s.setChan c { s.chan c with state := .suspended }

/-- R156: a SUSPENDED channel resumes, with a RECORD_RESUME event. -/
def State.resume (cause : RecordCause) (s : State) (c : ChanNo) : State :=
  match (s.chan c).target with
  | some t => (s.setChan c { s.chan c with state := .recording }).raiseRunning (.recordResume c t (s.chan c).segment cause)
  | none => s.setChan c { s.chan c with state := .recording }

/-- R149, R156: a channel's ready has gone from `old` to its present value. -/
def State.readyChange (s : State) (c : ChanNo) (old : Bool) : State :=
  if !s.running || old == s.chanReady c then s
  else match (s.chan c).state with
    | .recording => if s.chanReady c then s else s.suspend .ready c
    | .suspended => if s.chanReady c && s.portUp recPort then s.resume .ready c else s
    | .stopped => s
    | .closing => s

/-- R149: RCU compares one slot's ready indication with the one it keeps. -/
def State.slotReadyIn (s : State) (slot : ChanNo) (ready : Bool) : State :=
  let c := s.slotChan slot
  let old := s.chanReady c
  ({ s with rcu := { s.rcu with slotReady := s.rcu.slotReady.set slot ready } }).readyChange c old

/-- R149, R169: the ready indications of a recorder frame taken, slot by slot in ascending number (DESIGN CHOICE,
notes/assumptions/27.md). -/
def State.readiesIn (s : State) (ready : Vector Bool 128) : State :=
  ((List.finRange 128).filter (fun i => ready[i] != s.rcu.slotReady[i])).foldl (fun s i => s.slotReadyIn i ready[i]) s

/-- R157: the recorder port leaves UP. -/
def State.recorderLost (s : State) : State :=
  (s.channels.filter (fun c => (s.chan c).state = .recording)).foldl (State.suspend .port) s

/-- R157: the recorder port reaches UP: suspended channels that are ready resume, in ascending number (DESIGN CHOICE,
notes/assumptions/27.md), then the wait list is served. While the switching blocks are held nothing follows (R163). -/
def State.recorderBack (s : State) : State :=
  if s.running then
    ((s.channels.filter (fun c => decide ((s.chan c).state = .suspended) && s.chanReady c)).foldl (State.resume .port) s).serve
  else s

end Sys2Proof.Machine
end

