-- ==== Sys2Proof/Machine/Formats.lean ====
section
/-! DEFINITION. The byte layouts of what the part sends (spec/11): numbers and codes (R195), table entries (section 11.3),
response data (R198), event and response cells (R196, R198), and the recorder tag (section 11.2). -/

namespace Sys2Proof.Machine

/-! ### Numbers (R195) -/

/-- A number in one byte. -/
def byte1 (n : Nat) : List Byte := [BitVec.ofNat 8 n]

/-- A number in two bytes, the most significant first. -/
def byte2 (n : Nat) : List Byte := [BitVec.ofNat 8 (n / 256), BitVec.ofNat 8 n]

/-- A number in four bytes, the most significant first. -/
def byte4 (n : Nat) : List Byte := byte2 (n / 65536) ++ byte2 n

/-- "None" in one byte. -/
def none1 : List Byte := byte1 255

/-- "None" in two bytes. -/
def none2 : List Byte := byte2 65535

/-- A flag: off 0, on 1. -/
def flag1 (b : Bool) : List Byte := byte1 (if b then 1 else 0)

/-- A list: a one-byte count, then its entries (R198). -/
def counted {α : Type} (f : α → List Byte) (xs : List α) : List Byte := byte1 xs.length ++ xs.flatMap f

/-! ### Codes: the position of a value in the list that defines it (R195) -/

/-- R2. -/
def LineKind.code : LineKind → Nat
  | .unused => 0 | .ard => 1 | .mrd => 2 | .hootLeg => 3

/-- R2. -/
def FaultMode.code : FaultMode → Nat
  | .follow => 0 | .latched => 1

/-- R3. -/
def LineState.code : LineState → Nat
  | .disabled => 0 | .idle => 1 | .ringingIn => 2 | .unanswered => 3
  | .callingOut => 4 | .active => 5 | .held => 6 | .fault => 7

/-- R3. -/
def farCode : FarSignal → Nat
  | .idle => 0 | .calling => 1 | .answer => 2 | .loss => 3

/-- R3. -/
def OutSignal.code : OutSignal → Nat
  | .idle => 0 | .calling => 1 | .answer => 2

/-- R27. -/
def RecordMode.code : RecordMode → Nat
  | .normal => 0 | .compliance => 1 | .exempt => 2

/-- R27. -/
def talkClassCode : TalkClass → Nat
  | .normal => 0 | .supervisor => 1 | .override => 2

/-- HL 0, HR 1. -/
def handsetCode : Handset → Nat
  | .left => 0 | .right => 1

/-- Section 11.3. -/
def Colour.code : Colour → Nat
  | .green => 0 | .red => 1 | .amber => 2

/-- R198: HL 0, HR 1, S0–S7 2–9, HOLD 10. -/
def Place.code : Place → Nat
  | .left => 0
  | .right => 1
  | .spk c => 2 + c.val
  | .hold => 10

/-- spec/00_scope.md, Denial reasons. -/
def DenyReason.code : DenyReason → Nat
  | .fault => 0 | .disabled => 1 | .privateLine => 2 | .bridgeFull => 3 | .noRecorder => 4
  | .wrongKind => 5 | .bridged => 6 | .noLine => 7 | .holdFull => 8

/-- spec/00_scope.md, Result codes. -/
def ResultCode.code : ResultCode → Nat
  | .ok => 0 | .okClamped => 1 | .notReady => 2 | .badRequest => 3 | .badTable => 4
  | .badIndex => 5 | .badValue => 6 | .busy => 7 | .modeLocked => 8 | .held => 9

/-- Section 11.3. -/
def PolicyCode.code : PolicyCode → Nat
  | .never => 0 | .onDemand => 1 | .best => 2 | .mandatory => 3

/-- R139, R195: a need by its place in the list NONE, BEST, MANDATORY; NONE is one of the three codes and is 0, not a field
that is absent (DEDUCED, notes/assumptions/14.md). -/
def Need.code : Need → Nat
  | .none => 0 | .best => 1 | .mandatory => 2

/-- R198. -/
def Rank.code : Rank → Nat
  | .best => 0 | .mandatory => 1

/-- R73. -/
def CgMode.code : CgMode → Nat
  | .free => 0 | .follow => 1 | .oneshot => 2

/-- R146. -/
def RecMode.code : RecMode → Nat
  | .mono => 0 | .stereo => 1

/-- R147. -/
def ChanState.code : ChanState → Nat
  | .stopped => 0 | .recording => 1 | .suspended => 2 | .closing => 3

/-- Section 11.2. -/
def Indicator.code : Indicator → Nat
  | .idle => 0 | .audio => 1 | .gap => 2 | .ending => 3

/-- R198. -/
def Align.code : Align → Nat
  | .down => 0 | .aligning => 1 | .up => 2

/-- Section 11.1. -/
def DeliveryMode.code : DeliveryMode → Nat
  | .off => 0 | .each => 1 | .latched => 2 | .rearm => 3

/-- The share states in the order of spec/00_scope.md, Terms (DEDUCED, notes/assumptions/13.md). -/
def ShareState.code : ShareState → Nat
  | .none => 0 | .sole => 1 | .bridged => 2 | .exclusive _ => 3

/-- R23, numbered by R198. -/
def LineCause.code : LineCause → Nat
  | .config => 0 | .farCall => 1 | .ringTimeout => 2 | .abandoned => 3 | .answered => 4 | .seized => 5
  | .monitor => 6 | .farAnswer => 7 | .hold => 8 | .retrieve => 9 | .cleared => 10 | .callTimeout => 11
  | .loss => 12 | .port => 13 | .guard => 14 | .clear => 15 | .group => 16 | .release => 17

/-- R198. -/
def ConnectKind.code : ConnectKind → Nat
  | .added => 0 | .removed => 1 | .held => 2 | .retrieved => 3 | .moved => 4 | .privacyOn => 5 | .privacyOff => 6

/-- R198. -/
def ConnectCause.code : ConnectCause → Nat
  | .connect => 0 | .pickup => 1 | .release => 2 | .hook => 3 | .displaced => 4 | .fault => 5 | .disabled => 6
  | .callTimeout => 7 | .forced => 8 | .offline => 9 | .hold => 10 | .retrieve => 11 | .move => 12 | .key => 13
  | .byDefault => 14 | .left => 15

/-- R128. -/
def TalkKind.code : TalkKind → Nat
  | .granted => 0 | .queued => 1 | .requeued => 2 | .removed => 3

/-- R128. -/
def TalkCause.code : TalkCause → Nat
  | .request => 0 | .preempt => 1 | .promoted => 2 | .preempted => 3 | .limit => 4 | .release => 5
  | .talkTimeout => 6 | .disabled => 7 | .offline => 8

/-- R198. -/
def TalkRefusal.code : TalkRefusal → Nat
  | .disabled => 0 | .noRecorder => 1 | .queueFull => 2

/-- R162. -/
def RecordCause.code : RecordCause → Nat
  | .need => 0 | .admission => 1 | .wait => 2 | .noChannel => 3 | .port => 4 | .rank => 5 | .ready => 6

/-- R177. -/
def PortCause.code : PortCause → Nat
  | .marker => 0 | .aligned => 1 | .lost => 2

/-! ### Parts of records -/

/-- A generator number, or none. -/
def cgBytes : Option CgNo → List Byte
  | some n => byte1 n.val
  | none => none1

/-- A target: its kind, none 0, line 1, group 2, and its number. -/
def targetBytes : Option Target → List Byte
  | some (.line l) => byte1 1 ++ byte2 l.val
  | some (.group g) => byte1 2 ++ byte2 g.val
  | none => byte1 0 ++ none2

/-- A timer: its status, and its remaining steps when it runs (R198). -/
def Timer.bytes : Timer → List Byte
  | .stopped => byte1 0
  | .running n => byte1 1 ++ byte4 n
  | .expired => byte1 2

/-- A connection record with all its fields (R50, R53). -/
def Conn.bytes (c : Conn) : List Byte :=
  byte2 c.line.val ++ byte1 c.pos.val ++ byte1 c.place.code ++ byte1 (if c.place.isHandset then 0 else 1) ++
    flag1 c.talk ++ byte4 c.joined.toNat

/-- A share state with its EXCLUSIVE holder (R198). -/
def ShareState.bytes (s : ShareState) : List Byte :=
  byte1 s.code ++ match s with
    | .exclusive p => byte1 p.val
    | _ => none1

/-- A talker or wait entry (R112). -/
def TalkEntry.bytes (e : TalkEntry) : List Byte :=
  byte1 e.pos.val ++ byte1 (talkClassCode e.cls) ++ byte4 e.stamp.toNat

/-- A line-side source (R198). -/
def LineSource.bytes : LineSource → List Byte
  | .default => byte1 0 ++ none1
  | .fixed b => byte1 1 ++ byte1 b.val
  | .range r => byte1 2 ++ byte1 r.val

/-- The place of a target on the record wait list, counting from 1 at the head, with its rank (R147). -/
def State.waitPlace (s : State) (t : Target) : Option (Nat × Rank) :=
  (s.waitList.find? (fun e => e.target = t)).map fun e => (s.waitList.idxOf e + 1, e.rank)

/-- A binding: its kind, channel, rank and place (R147, R198). -/
def State.bindingBytes (s : State) (t : Target) : List Byte :=
  match s.boundChan t with
  | some c => byte1 1 ++ byte1 c.val ++ none1 ++ none2
  | none => match s.waitPlace t with
    | some (k, r) => byte1 2 ++ none1 ++ byte1 r.code ++ byte2 k
    | none => byte1 0 ++ none1 ++ none1 ++ none2

/-- A list of positions padded to four with none (section 11.2). -/
def partyBytes (ps : List PosNo) : List Byte :=
  ((ps.map (fun p : PosNo => BitVec.ofNat 8 p.val)) ++ List.replicate (4 - ps.length) 255).take 4

/-- A recorder tag: 16 bytes (section 11.2). The target number is 0 when the kind is NONE. -/
def Tag.bytes (t : Tag) : List Byte :=
  byte1 t.indicator.code ++
    (match t.target with
      | some x => targetBytes (some x)
      | none => byte1 0 ++ byte2 0) ++
    byte2 t.segment.toNat ++ byte1 (min t.parties.length 4) ++ partyBytes t.parties ++ List.replicate 5 0

/-! ### Table entries (section 11.3) -/

/-- LINE_CFG: 14 bytes. -/
def LineCfg.bytes (c : LineCfg) : List Byte :=
  byte1 c.kind.code ++ flag1 c.privacyDefault ++ byte2 c.rxGain ++ byte2 c.txGain ++ byte1 c.ringCg.val ++
    byte1 c.burstCg.val ++ byte1 c.ringTimeout ++ byte1 c.answerTimeout ++ byte1 c.ringHang ++
    byte1 c.faultMode.code ++ byte1 c.faultGuard ++ byte1 c.group.val

/-- POSITION_CFG: 27 bytes. -/
def PositionCfg.bytes (c : PositionCfg) : List Byte :=
  byte1 c.recordMode.code ++ byte1 (talkClassCode c.talkClass) ++ flag1 c.autoHold ++ byte2 c.duck ++
    byte1 c.ringSpeaker.val ++ byte1 c.ringTone.val ++ c.volumes.toList.flatMap byte2

/-- A key action's code and target, NONE 0 to HOST 9 (R31). -/
def KeyAction.bytes : KeyAction → List Byte
  | .none => byte1 0 ++ none2
  | .line l => byte1 1 ++ byte2 l.val
  | .release => byte1 2 ++ none2
  | .hold => byte1 3 ++ none2
  | .ring => byte1 4 ++ none2
  | .privacy => byte1 5 ++ none2
  | .talkGroup g => byte1 6 ++ byte2 g.val
  | .talkSpeaker c => byte1 7 ++ byte2 c.val
  | .record => byte1 8 ++ none2
  | .host => byte1 9 ++ none2

/-- KEY_MAP: 4 bytes. -/
def Key.bytes (k : Key) : List Byte := k.action.bytes ++ byte1 k.colour.code

/-- SPEAKER_ASSIGN: 3 bytes. -/
def Assign.bytes : Assign → List Byte
  | .none => byte1 0 ++ none2
  | .line l => byte1 1 ++ byte2 l.val
  | .group g => byte1 2 ++ byte2 g.val

/-- LAMP_STYLE: 2 bytes. -/
def LampStyle.bytes (x : LampStyle) : List Byte :=
  (match x.colour with
    | .fixed c => byte1 c.code
    | .key => byte1 3) ++
  (match x.pattern with
    | .off => byte1 0
    | .steady => byte1 1
    | .follow n => byte1 (16 + n.val))

/-- GROUP_CFG: 9 bytes. -/
def GroupCfg.bytes (c : GroupCfg) : List Byte :=
  flag1 c.enabled ++ byte1 c.talkerLimit ++ byte2 c.maxTalk ++ byte2 c.groupGain ++ byte2 c.legGain ++
    byte1 c.recordCode.code

/-- CG_CFG: 10 bytes; the period, rise and fall are the pending copies (R73). -/
def Gen.cfgBytes (g : Gen) : List Byte :=
  flag1 g.enable ++ byte1 g.mode.code ++ cgBytes g.source ++ byte2 g.pending.period ++ byte2 g.pending.rise ++
    byte2 g.pending.fall ++ flag1 g.pair

/-- POLICY_CTRL: 3 bytes. -/
def Prs.ctrlBytes (p : Prs) : List Byte := flag1 p.tablesEnabled ++ flag1 p.fixedEnabled ++ byte1 p.defaultCode.code

/-- POLICY_FIXED: 1 byte; INHERIT is 4. -/
def fixedBytes : Option PolicyCode → List Byte
  | some c => byte1 c.code
  | none => byte1 4

/-- POLICY_RANGE: 6 bytes. -/
def PolicyRange.bytes (r : PolicyRange) : List Byte :=
  flag1 r.enabled ++ byte1 r.code.code ++ byte2 r.first.val ++ byte2 r.last.val

/-! ### Live state (R183, R198) -/

/-- R1, R3, R53, R139, R147: a line's response. -/
def State.lineBytes (s : State) (l : LineNo) : List Byte :=
  let r := s.line l
  byte1 r.state.code ++ byte1 (farCode r.far) ++ byte1 (s.outSignal l).code ++ cgBytes r.ringPending ++
    flag1 r.faultClear ++ r.ring.bytes ++ r.answer.bytes ++ r.hang.bytes ++ r.guard.bytes ++
    byte1 r.totals.unheld ++ byte1 r.totals.held ++ byte1 r.totals.speaker ++
    (s.share l).bytes ++ counted Conn.bytes (s.bridge l) ++
    byte1 (s.lineSide l).1.code ++ (s.lineSide l).2.bytes ++ byte1 (s.linePolicy l).code ++ flag1 (s.demand l) ++
    byte1 (s.keptNeed (.line l)).code ++ s.bindingBytes (.line l)

/-- A pressed talk key (R28). -/
def Pressed.bytes (e : Pressed) : List Byte :=
  byte1 e.key.val ++ match e.target with
    | .group g => byte1 0 ++ byte1 g.val
    | .lineSpeaker c => byte1 1 ++ byte1 c.val

/-- A denial indicator (R28). -/
def denialBytes : Option Denial → List Byte
  | some d => byte1 d.key.val ++ byte1 d.reason.code ++ byte1 d.left
  | none => none1 ++ none1 ++ none1

/-- R28: a position's response. The pressed talk keys, a set with no order of its own, are listed in the order in which they
were pressed (DESIGN CHOICE, notes/assumptions/14.md). -/
def State.positionBytes (s : State) (p : PosNo) : List Byte :=
  let r := s.position p
  flag1 (s.online p) ++ flag1 r.hookLeft ++ flag1 r.hookRight ++ byte1 (handsetCode r.selected) ++
    byte1 (s.holdSlots p) ++ counted Pressed.bytes r.pressed ++ denialBytes r.denial

/-- R53: a line's SPEAKER records in ascending position and speaker channel. -/
def State.monitorsSorted (s : State) (l : LineNo) : List Conn :=
  (speakerPlaces.map (fun pc => (s.monitors l).filter (fun c => decide (c.pos = pc.1) && decide (c.place = .spk pc.2)))).flatten

/-- R53: a line's connection list. -/
def State.connectionBytes (s : State) (l : LineNo) : List Byte :=
  (s.share l).bytes ++ byte1 (s.bridge l).length ++ byte1 (s.monitors l).length ++
    counted Conn.bytes (s.bridge l) ++ counted Conn.bytes (s.monitorsSorted l)

/-- R112, R139: a group's response. -/
def State.groupBytes (s : State) (g : GroupNo) : List Byte :=
  let r := s.group g
  r.cfg.bytes ++ counted TalkEntry.bytes r.talkers ++ counted TalkEntry.bytes r.waits ++
    counted (fun l => byte2 l.val) (s.legs g) ++ counted (fun p => byte1 p.val) r.marks ++ byte1 s.poolFree ++
    (match s.groupPolicy g with
      | some p => byte1 p.code
      | none => none1) ++
    byte1 (s.keptNeed (.group g)).code ++ s.bindingBytes (.group g)

/-- R75: a generator's response. -/
def State.generatorBytes (s : State) (n : CgNo) : List Byte :=
  let g := s.gen n
  g.cfgBytes ++ byte2 g.active.period ++ byte2 g.active.rise ++ byte2 g.active.fall ++ byte2 g.phase ++
    flag1 g.running ++ flag1 g.own ++ flag1 (s.delivered n) ++ byte4 s.now.toNat

/-- R146: the slots of a channel in the present mode. -/
def State.chanSlots (s : State) (c : ChanNo) : List ChanNo := (List.finRange 128).filter (fun i => s.slotChan i = c)

/-- R147, R154: a channel's response. The tag is the one the last mix frame formed for the channel's first slot. -/
def State.channelBytes (s : State) (c : ChanNo) : List Byte :=
  let r := s.chan c
  let tag := match s.chanSlots c with
    | i :: _ => s.lif.prepared.tags[i]
    | [] => Tag.idle
  byte1 r.state.code ++ targetBytes r.target ++ byte2 r.segment.toNat ++ flag1 (s.chanReady c) ++
    byte1 r.closeCount ++ tag.bytes ++ counted (fun i => flag1 s.rcu.slotReady[i]) (s.chanSlots c) ++
    flag1 (s.portUp recPort) ++ byte2 (s.rcu.waiting.filter (fun e => e.rank = .mandatory)).length ++
    byte2 (s.rcu.waiting.filter (fun e => e.rank = .best)).length

/-- The position slots of a port (R168). -/
def portPositions (n : PortNo) : List PosNo := (List.finRange 32).filter (fun p => posPort p = n)

/-- R177: a port's response. -/
def State.portBytes (s : State) (n : PortNo) : List Byte :=
  let r := s.port n
  byte1 r.align.code ++ byte1 r.good ++ byte1 r.miss ++ byte1 s.lif.mgmtLink.val ++
    (if n.val < 4 then []
     else if n.val < 8 then counted (fun p => flag1 s.lif.present[p]) (portPositions n)
     else counted flag1 s.rcu.slotReady.toList)

/-- R106: a clip counter's response. -/
def State.clipBytes (s : State) (i : OutNo) : List Byte := byte2 s.mix.clips[i]

/-! ### Summaries (R185, R198) -/

/-- The size of a class's object bitmap in bytes. -/
def EventClass.mapSize : EventClass → Nat
  | .line => 64 | .connect => 4 | .deny => 4 | .talk => 8 | .record => 16
  | .port => 2 | .clip => 120 | .key => 4 | .system => 0

/-- One byte of a bitmap: object k in bit k mod 8 of byte ⌊k/8⌋. -/
def mapByte (objects : List Nat) (k : Nat) : Byte :=
  BitVec.ofNat 8 (((List.range 8).filter (fun b => objects.contains (8 * k + b))).map (fun b => 2 ^ b)).sum

/-- R185, R198: a class's summary, mode and marks. -/
def ClassRec.bytes (r : ClassRec) (c : EventClass) : List Byte :=
  byte1 r.mode.code ++ flag1 r.pending ++ flag1 r.lost ++ flag1 r.miss ++ byte2 r.count ++
    (List.range c.mapSize).map (mapByte r.objects)

/-! ### Cells (R196, R198) -/

/-- R196: a cell in its slot of 512 bytes. The bytes beyond the cell, which the far side ignores, are sent as 0 (DESIGN
CHOICE, notes/assumptions/28.md). -/
def padCell (bs : List Byte) : List Byte := bs ++ List.replicate (512 - bs.length) 0

/-- R196: a response cell. -/
def Response.bytes (r : Response) : List Byte :=
  padCell ([r.kind] ++ byte1 r.code.code ++ byte2 r.tag.toNat ++ byte2 r.data.length ++ flag1 r.overrun ++ [0] ++ r.data)

/-- The kind number of an occurrence within its class (R198). -/
def Occurrence.kindCode : Occurrence → Nat
  | .line _ _ _ _ => 0
  | .farCleared _ _ => 1
  | .connect k _ _ _ _ _ => k.code
  | .offline _ => 7
  | .online _ => 8
  | .deny _ _ _ _ => 0
  | .talk k _ _ _ _ _ => k.code
  | .talkRefused _ _ _ _ => 4
  | .recordStart _ _ _ _ _ => 0
  | .recordStop _ _ _ => 1
  | .recordMiss _ _ _ => 2
  | .recordGap _ _ _ _ => 3
  | .recordResume _ _ _ _ => 4
  | .port _ _ _ _ => 0
  | .clip _ => 0
  | .key _ _ up => if up then 1 else 0
  | .ready => 0
  | .switchingHeld => 1
  | .switchingReleased => 2

/-- The cause byte of an occurrence, 255 for none (R198). RECORD_STOP has the one cause NEED (R162). -/
def Occurrence.causeCode : Occurrence → Nat
  | .line _ _ _ c => c.code
  | .farCleared _ _ => 255
  | .connect _ _ _ _ c _ => c.code
  | .offline _ => 255
  | .online _ => 255
  | .deny _ _ r _ => r.code
  | .talk _ _ _ _ (some c) _ => c.code
  | .talk _ _ _ _ none _ => 255
  | .talkRefused _ _ _ r => r.code
  | .recordStart _ _ _ _ c => c.code
  | .recordStop _ _ _ => RecordCause.need.code
  | .recordMiss _ _ c => c.code
  | .recordGap _ _ _ c => c.code
  | .recordResume _ _ _ c => c.code
  | .port _ _ _ c => c.code
  | .clip _ => 255
  | .key _ _ _ => 255
  | .ready => 255
  | .switchingHeld => 255
  | .switchingReleased => 255

/-- A denied target: none 0, line 1, group 2, and its number (R198). -/
def DenyTarget.bytes : DenyTarget → List Byte
  | .none => byte1 0 ++ none2
  | .line l => byte1 1 ++ byte2 l.val
  | .group g => byte1 2 ++ byte2 g.val

/-- The object fields of an event cell, from byte 10 (R198). Byte 16 of a RECORD cell is given by the table for RECORD_START
and RECORD_MISS alone: RECORD_STOP, RECORD_GAP and RECORD_RESUME end before it here and so carry 0 in it, the model's choice
(DESIGN CHOICE, notes/assumptions/15.md, which names the other bytes that R198 leaves open). -/
def Occurrence.objectBytes : Occurrence → List Byte
  | .line l prev new _ => byte2 l.val ++ byte1 prev.code ++ byte1 new.code
  | .farCleared l st => byte2 l.val ++ byte1 st.code ++ byte1 st.code
  | .connect _ p l place _ j => byte1 p.val ++ byte2 l.val ++ byte1 place.code ++ byte4 j.toNat
  | .offline p => byte1 p.val ++ none2 ++ none1 ++ byte4 0
  | .online p => byte1 p.val ++ none2 ++ none1 ++ byte4 0
  | .deny p k _ t => byte1 p.val ++ byte1 k.val ++ t.bytes
  | .talk _ g p c _ w => byte1 g.val ++ byte1 p.val ++ byte1 (talkClassCode c) ++ flag1 w
  | .talkRefused g p c _ => byte1 g.val ++ byte1 p.val ++ byte1 (talkClassCode c) ++ byte1 0
  | .recordStart c t seg st _ => targetBytes (some t) ++ byte1 c.val ++ byte2 seg.toNat ++ byte1 st.code
  | .recordStop c t seg => targetBytes (some t) ++ byte1 c.val ++ byte2 seg.toNat
  | .recordMiss t r _ => targetBytes (some t) ++ none1 ++ byte2 0 ++ byte1 r.code
  | .recordGap c t seg _ => targetBytes (some t) ++ byte1 c.val ++ byte2 seg.toNat
  | .recordResume c t seg _ => targetBytes (some t) ++ byte1 c.val ++ byte2 seg.toNat
  | .port n prev new _ => byte1 n.val ++ byte1 prev.code ++ byte1 new.code
  | .clip i => byte2 i.val
  | .key p k _ => byte1 p.val ++ byte1 k.val
  | .ready => []
  | .switchingHeld => []
  | .switchingReleased => []

/-- R196, R198: an event cell, 24 bytes of its slot. The object bytes that a class does not use are 0 (R198), and so is byte
16 of RECORD_STOP, RECORD_GAP and RECORD_RESUME (DESIGN CHOICE, notes/assumptions/15.md). -/
def EventCell.bytes (e : EventCell) : List Byte :=
  padCell (byte1 128 ++ byte1 e.what.cls.idx.val ++ byte2 e.what.kindCode ++ byte1 e.what.causeCode ++ flag1 e.lost ++
    byte4 e.stamp.toNat ++ e.what.objectBytes ++ List.replicate (14 - e.what.objectBytes.length) 0)

/-- R196: the bytes of a cell the lane sends. -/
def OutCell.bytes : OutCell → List Byte
  | .response r => r.bytes
  | .event e => e.bytes

end Sys2Proof.Machine
end

