-- ==== Sys2Proof/Machine/Operands.lean ====
section
/-! DEFINITION. The operand forms: how the owners read the code, reference and numeric bytes of a request (R195, R197,
R200), and which numeric fields clamp (R182). A code byte beyond its list and a reference that names no object read as
`none`; the owner turns that into the refusal that its check names. -/

namespace Sys2Proof.Machine

/-- A reference to one of `n` objects numbered from 0 (R200). -/
def numOf (n k : Nat) : Option (Fin n) := if h : k < n then some ⟨k, h⟩ else none

/-- A flag byte: off 0, on 1 (spec/11, section 11.3). -/
def flagOf (b : Byte) : Option Bool :=
  match b.toNat with
  | 0 => some false
  | 1 => some true
  | _ => none

/-- A line kind code (R2). -/
def lineKindOf (b : Byte) : Option LineKind :=
  match b.toNat with
  | 0 => some .unused
  | 1 => some .ard
  | 2 => some .mrd
  | 3 => some .hootLeg
  | _ => none

/-- A fault_mode code (R2). -/
def faultModeOf (b : Byte) : Option FaultMode :=
  match b.toNat with
  | 0 => some .follow
  | 1 => some .latched
  | _ => none

/-- A record_mode code (R27). -/
def recordModeOf (b : Byte) : Option RecordMode :=
  match b.toNat with
  | 0 => some .normal
  | 1 => some .compliance
  | 2 => some .exempt
  | _ => none

/-- A talk_class code (R27). -/
def talkClassOf (b : Byte) : Option TalkClass :=
  match b.toNat with
  | 0 => some .normal
  | 1 => some .supervisor
  | 2 => some .override
  | _ => none

/-- A colour base code (R31). -/
def colourOf (b : Byte) : Option Colour :=
  match b.toNat with
  | 0 => some .green
  | 1 => some .red
  | 2 => some .amber
  | _ => none

/-- A lamp style colour code, KEY being 3 (R46). -/
def styleColourOf (b : Byte) : Option StyleColour :=
  if b = 3 then some .key else (colourOf b).map .fixed

/-- A lamp style pattern code: OFF 0, STEADY 1, following CG n 16 + n (R46, R200). -/
def patternOf (b : Byte) : Option Pattern :=
  if b = 0 then some .off
  else if b = 1 then some .steady
  else if 16 ≤ b.toNat then (numOf 16 (b.toNat - 16)).map .follow
  else none

/-- A key action code, NONE 0 to HOST 9, with the target it takes; the inner `none` is a target beyond its range (R31). -/
def keyActionOf (b : Byte) (target : U16) : Option (Option KeyAction) :=
  match b.toNat with
  | 0 => some (some .none)
  | 1 => some ((numOf 512 target.toNat).map .line)
  | 2 => some (some .release)
  | 3 => some (some .hold)
  | 4 => some (some .ring)
  | 5 => some (some .privacy)
  | 6 => some ((numOf 64 target.toNat).map .talkGroup)
  | 7 => some ((numOf 8 target.toNat).map .talkSpeaker)
  | 8 => some (some .record)
  | 9 => some (some .host)
  | _ => none

/-- An assignment kind code with its target; the inner `none` is a target beyond its range (R32). -/
def assignOf (b : Byte) (target : U16) : Option (Option Assign) :=
  match b.toNat with
  | 0 => some (some .none)
  | 1 => some ((numOf 512 target.toNat).map .line)
  | 2 => some ((numOf 64 target.toNat).map .group)
  | _ => none

/-- A generator mode code (R73). -/
def cgModeOf (b : Byte) : Option CgMode :=
  match b.toNat with
  | 0 => some .free
  | 1 => some .follow
  | 2 => some .oneshot
  | _ => none

/-- A generator source byte: CG 0–15, or 255 for none (R200). -/
def sourceOf (b : Byte) : Option (Option CgNo) :=
  if b = 255 then some none else (numOf 16 b.toNat).map some

/-- A policy code other than INHERIT (R200). -/
def policyOf (b : Byte) : Option PolicyCode :=
  match b.toNat with
  | 0 => some .never
  | 1 => some .onDemand
  | 2 => some .best
  | 3 => some .mandatory
  | _ => none

/-- A fixed block's code; INHERIT is 4 (R132). -/
def fixedCodeOf (b : Byte) : Option (Option PolicyCode) :=
  if b = 4 then some none else (policyOf b).map some

/-- A recorder mode code (R146). -/
def recModeOf (b : Byte) : Option RecMode :=
  match b.toNat with
  | 0 => some .mono
  | 1 => some .stereo
  | _ => none

/-- An event class code (spec/11, section 11.1). -/
def classOf (b : Byte) : Option EventClass :=
  match b.toNat with
  | 0 => some .line
  | 1 => some .connect
  | 2 => some .deny
  | 3 => some .talk
  | 4 => some .record
  | 5 => some .port
  | 6 => some .clip
  | 7 => some .key
  | 8 => some .system
  | _ => none

/-- A delivery mode code (spec/11, section 11.1). -/
def deliveryOf (b : Byte) : Option DeliveryMode :=
  match b.toNat with
  | 0 => some .off
  | 1 => some .each
  | 2 => some .latched
  | 3 => some .rearm
  | _ => none

/-- A number clamped into a range (spec/00_scope.md, Clamping and refusal). -/
def clampTo (lo hi n : Nat) : Nat := max lo (min n hi)

/-- Whether a number lies beyond its range. -/
def beyond (lo hi n : Nat) : Bool := decide (n < lo) || decide (hi < n)

/-- A gain, 0–32767. -/
def gainOf (v : U16) : Nat := clampTo 0 Config.gainMax v.toNat

/-- Whether a gain clamps. -/
def gainClamps (v : U16) : Bool := beyond 0 Config.gainMax v.toNat

/-- A volume or duck level, 0–16384. -/
def levelOf (v : U16) : Nat := clampTo 0 Config.unity v.toNat

/-- Whether a volume or duck level clamps. -/
def levelClamps (v : U16) : Bool := beyond 0 Config.unity v.toNat

end Sys2Proof.Machine
end

