-- ==== Sys2Proof/Machine/Mixer.lean ====
section
/-! DEFINITION. The Mixer (spec/05): mix lists, the arithmetic of one output, clip counters, tone sources, and the tags that
go with the recorder slots (R154). -/

namespace Sys2Proof.Machine

/-- One contribution of a mix list: the source sample, the gain, and whether it is ducked (spec/05, section 5.3). -/
structure Contribution where
  sample : Int
  gain : Nat
  ducked : Bool
deriving DecidableEq, Repr

/-- A microphone of the near set of a line, with the position it belongs to (R93). -/
structure Voice where
  pos : PosNo
  sample : Int
deriving DecidableEq, Repr

/-- The far sample of a line (R90). -/
def State.farSample (s : State) (l : LineNo) : Int := (s.lif.far[l]).toInt

/-- The speaker microphone of a position. -/
def State.speakerMic (s : State) (p : PosNo) : Int := (s.lif.mics[p]).speaker.toInt

/-- R90: the input store of a slot whose present indicator is clear enters no list. -/
def State.micsIn (s : State) (p : PosNo) : Bool := (s.lif.mics[p]).present

/-- R93: the microphone that an unheld handset connection puts into its line's near set. -/
def State.handsetVoice (s : State) (c : Conn) : Option Voice :=
  if !s.micsIn c.pos then none
  else match c.place with
  | .left => some { pos := c.pos, sample := (s.lif.mics[c.pos]).left.toInt }
  | .right => some { pos := c.pos, sample := (s.lif.mics[c.pos]).right.toInt }
  | .hold => none
  | .spk _ => none

/-- R93: whether a position's speaker microphone is in the near set of a line. -/
def State.speaksOn (s : State) (l : LineNo) (q : PosNo) : Bool :=
  (s.monitors l).any (fun c => decide (c.pos = q) && c.talk) && !s.privateFrom l q &&
    decide ((s.line l).cfg.kind ≠ .hootLeg) && s.micsIn q

/-- R93: the near set of a line. -/
def State.near (s : State) (l : LineNo) : List Voice :=
  (s.bridge l).filterMap s.handsetVoice ++
    ((List.finRange 32).filter (s.speaksOn l)).map (fun q => { pos := q, sample := s.speakerMic q })

/-- R93: the near set of a line without a position's own microphones. -/
def State.nearWithout (s : State) (l : LineNo) (p : PosNo) : List Voice := (s.near l).filter (fun v => v.pos ≠ p)

/-- A line as a listener hears it: the far sample at rx_gain and the near set without the listener at 16384 (R94, R95). -/
def State.hearLine (s : State) (l : LineNo) (p : PosNo) (ducked : Bool) : List Contribution :=
  { sample := s.farSample l, gain := (s.line l).cfg.rxGain, ducked := ducked } ::
    (s.nearWithout l p).map (fun v => { sample := v.sample, gain := Config.unity, ducked := ducked })

/-- R94: the ear of a handset. -/
def State.earList (s : State) (p : PosNo) (h : Handset) : List Contribution :=
  if s.online p then
    match s.connAt p (handsetPlace h) with
    | some c => s.hearLine c.line p false
    | none => []
  else []

/-- The speaker microphones of a group's talkers other than `p` (R96). -/
def State.talkersHeard (s : State) (g : GroupNo) (p : Option PosNo) (gain : Nat) : List Contribution :=
  ((entryPositions (s.group g).talkers).filter (fun q => decide (p ≠ some q) && s.micsIn q)).map
    (fun q => { sample := s.speakerMic q, gain := gain, ducked := false })

/-- The far samples of a group's legs other than `l` (R96, R98). -/
def State.legsHeard (s : State) (g : GroupNo) (l : Option LineNo) (gain : Nat) : List Contribution :=
  ((s.legs g).filter (fun x => l ≠ some x)).map (fun x => { sample := s.farSample x, gain := gain, ducked := false })

/-- R95, R96: what a speaker channel carries from its line or group. -/
def State.channelList (s : State) (p : PosNo) (c : SpkNo) : List Contribution :=
  match s.assign p c with
  | .none => []
  | .line _ => match s.connAt p (.spk c) with
    | some x =>
      if s.privateFrom x.line p then []
      else s.hearLine x.line p ((s.bridge x.line).any (fun y => decide (y.pos = p) && y.place.isUnheld))
    | none => []
  | .group g =>
    if (s.group g).cfg.enabled then
      s.talkersHeard g (some p) (s.group g).cfg.groupGain ++ s.legsHeard g none (s.group g).cfg.legGain
    else []

/-- R108: the current sample of a tone source. -/
def Tone.current (t : Tone) : Int := if h : t.index < 256 then (t.samples[t.index]).toInt else 0

/-- R100: the ring contribution of a position, when it is present. -/
def State.ringContribution (s : State) (p : PosNo) : List Contribution :=
  match s.ringLine p with
  | some r =>
    if s.delivered (s.line r).cfg.ringCg then
      let t := s.mix.tones[(s.position p).cfg.ringTone]
      [{ sample := t.current, gain := t.level, ducked := false }]
    else []
  | none => []

/-- R95, R96, R100: the list of a speaker channel. -/
def State.speakerList (s : State) (p : PosNo) (c : SpkNo) : List Contribution :=
  if s.online p then
    s.channelList p c ++ (if (s.position p).cfg.ringSpeaker = c then s.ringContribution p else [])
  else []

/-- R97, R98: the list of a line's outbound sample. -/
def State.lineOutList (s : State) (l : LineNo) : List Contribution :=
  let r := s.line l
  match r.cfg.kind with
  | .unused => []
  | .ard => (s.near l).map (fun v => { sample := v.sample, gain := r.cfg.txGain, ducked := false })
  | .mrd => (s.near l).map (fun v => { sample := v.sample, gain := r.cfg.txGain, ducked := false })
  | .hootLeg =>
    if r.state = .active then
      s.talkersHeard r.cfg.group none (s.group r.cfg.group).cfg.groupGain ++
        s.legsHeard r.cfg.group (some l) (s.group r.cfg.group).cfg.legGain
    else []

/-- The far side of a recorder target's audio, at 16384 (R99). R114 has a leg contribute to the recording at leg_gain, which
cannot hold beside R99; the model follows R99, the rule to which the recorder and link chapters refer for the recorder's
samples (DEDUCED, notes/assumptions/26.md). -/
def State.recordFar (s : State) : Target → List Contribution
  | .line l => [{ sample := s.farSample l, gain := Config.unity, ducked := false }]
  | .group g => s.legsHeard g none Config.unity

/-- The near side of a recorder target's audio (R99). -/
def State.recordNear (s : State) : Target → List Contribution
  | .line l => (s.near l).map (fun v => { sample := v.sample, gain := Config.unity, ducked := false })
  | .group g => s.talkersHeard g none Config.unity

/-- R99: whether a slot carries the near side: a STEREO right slot does not carry the far side, a STEREO left slot not the
near side, a MONO slot carries both. For a group the left slot carries the legs and the right slot the talkers. -/
def State.slotList (s : State) (slot : ChanNo) : List Contribution :=
  let r := s.chan (s.slotChan slot)
  match r.state, r.target with
  | .recording, some t =>
    match s.rcu.mode with
    | .mono => s.recordFar t ++ s.recordNear t
    | .stereo => if slot.val % 2 = 0 then s.recordFar t else s.recordNear t
  | _, _ => []

/-- The outputs of R92. -/
inductive Output where
  | ear (p : PosNo) (h : Handset)
  | speaker (p : PosNo) (c : SpkNo)
  | lineOut (l : LineNo)
  | slot (n : ChanNo)
deriving DecidableEq, Repr

/-- R92: the output that has an index. -/
def outputAt (i : OutNo) : Output :=
  if h : i.val < 320 then
    let p : PosNo := ⟨i.val / 10, by omega⟩
    if i.val % 10 = 0 then .ear p .left
    else if i.val % 10 = 1 then .ear p .right
    else .speaker p ⟨(i.val % 10 - 2) % 8, by omega⟩
  else if h' : i.val < 832 then .lineOut ⟨i.val - 320, by omega⟩
  else .slot ⟨i.val - 832, by omega⟩

/-- The mix list of an output; every list is empty while INIT runs and while the switching blocks are held (R91). -/
def State.mixList (s : State) (o : Output) : List Contribution :=
  if s.running then
    match o with
    | .ear p h => s.earList p h
    | .speaker p c => s.speakerList p c
    | .lineOut l => s.lineOutList l
    | .slot n => s.slotList n
  else []

/-- R92: an output's volume. -/
def State.volumeOf (s : State) : Output → Nat
  | .ear p .left => (s.position p).cfg.volumes[0]
  | .ear p .right => (s.position p).cfg.volumes[1]
  | .speaker p c => (s.position p).cfg.volumes[2 + c.val]
  | .lineOut _ => Config.unity
  | .slot _ => Config.unity

/-- The duck level of the position an output belongs to (R102). -/
def State.duckOf (s : State) : Output → Nat
  | .ear p _ => (s.position p).cfg.duck
  | .speaker p _ => (s.position p).cfg.duck
  | .lineOut _ => Config.unity
  | .slot _ => Config.unity

/-! ### The computation of one output (R102 to R105) -/

/-- R102: the effective gain of a contribution under duck level `d`. -/
def effectiveGain (c : Contribution) (d : Nat) : Nat :=
  if c.ducked then (c.gain * d + 8192) / 16384 else c.gain

/-- R103: the exact sum of the products of a list. -/
def mixSum (cs : List Contribution) (d : Nat) : Int :=
  (cs.map (fun c => c.sample * (effectiveGain c d : Int))).sum

/-- Rounding by adding half the divisor 16384 and taking the floor (spec/05, section 5.4). -/
def roundScale (a : Int) : Int := (a + 8192) / 16384

/-- R103, R104: the value of an output before saturation. -/
def mixValue (cs : List Contribution) (d v : Nat) : Int := roundScale (roundScale (mixSum cs d) * (v : Int))

/-- R105: the clamp to the sample range. -/
def clampSample (z : Int) : Int := max (-32768) (min z 32767)

/-- R105: whether an output is clamped; an empty list is not computed and never clamped. -/
def mixClips (cs : List Contribution) (d v : Nat) : Bool :=
  !cs.isEmpty && decide (clampSample (mixValue cs d v) ≠ mixValue cs d v)

/-- R105: the output sample of a list, as a number. -/
def mixSample (cs : List Contribution) (d v : Nat) : Int :=
  if cs.isEmpty then 0 else clampSample (mixValue cs d v)

/-- The output sample of an output (R90, R105). -/
def State.outputSample (s : State) (o : Output) : Sample :=
  BitVec.ofInt 16 (mixSample (s.mixList o) (s.duckOf o) (s.volumeOf o))

/-- Whether an output is clamped in this frame. -/
def State.outputClips (s : State) (o : Output) : Bool :=
  mixClips (s.mixList o) (s.duckOf o) (s.volumeOf o)

/-! ### Tags (R154) -/

/-- R154: the parties of a target. -/
def State.targetParties (s : State) : Target → List PosNo
  | .line l => (s.bridge l).map (·.pos)
  | .group g => entryPositions (s.group g).talkers

/-- R154, R155: the tag of a channel's slots. -/
def State.chanTag (s : State) (c : ChanNo) : Tag :=
  let r := s.chan c
  if s.running then
    match r.state with
    | .stopped => { indicator := .idle, target := none, segment := r.segment, parties := [] }
    | .recording =>
      { indicator := .audio, target := r.target, segment := r.segment
        parties := match r.target with
          | some t => s.targetParties t
          | none => [] }
    | .suspended =>
      { indicator := .gap, target := r.target, segment := r.segment
        parties := match r.target with
          | some t => s.targetParties t
          | none => [] }
    | .closing => { indicator := .ending, target := r.target, segment := r.segment, parties := [] }
  else Tag.idle

/-! ### The mix frame (R90) -/

/-- R90, R155: what the mix frame hands to LIF. -/
def State.mixed (s : State) : Mixed :=
  if s.running then
    { samples := Vector.ofFn (fun i => s.outputSample (outputAt i))
      tags := Vector.ofFn (fun i => s.chanTag (s.slotChan i)) }
  else Mixed.quiet

/-- R106: one clamp of an output: its counter rises, stopping at 65535, and a counter that goes from 0 to 1 raises a CLIP
occurrence. -/
def State.countClip (s : State) (i : OutNo) : State :=
  let n := s.mix.clips[i]
  let s := { s with mix := { s.mix with clips := s.mix.clips.set i (min (n + 1) Config.countMax) } }
  if n = 0 then s.raiseRunning (.clip i) else s

/-- The outputs clamped in this frame, in ascending index. -/
def State.clipped (s : State) : List OutNo :=
  if s.running then (List.finRange 960).filter (fun i => s.outputClips (outputAt i)) else []

/-- R108: a tone source's read index after a running frame. -/
def Tone.advance (t : Tone) : Tone := { t with index := if t.length ≤ t.index + 1 then 0 else t.index + 1 }

/-- R108: the tone indexes advance in every frame taken while the switching blocks are running. -/
def State.advanceTones (s : State) : State :=
  if s.running then { s with mix := { s.mix with tones := s.mix.tones.map Tone.advance } } else s

/-- R90: one mix frame: every output is computed from the state as it stands, handed to LIF with the tags, the clamps are
counted, the tone indexes advance, and the closing channels count the frame (R158). The CLIP occurrences come in ascending
output index, and before the occurrences of the closings that end (DESIGN CHOICE, notes/assumptions/10.md). -/
def State.mixFrame (s : State) : State :=
  let clips := s.clipped
  let s := { s with lif := { s.lif with prepared := s.mixed } }
  let s := clips.foldl State.countClip s
  s.advanceTones.closeSteps

end Sys2Proof.Machine
end

