-- ==== Sys2Proof/Machine/System.lean ====
section
/-! DEFINITION. Start-up, the shelf hold and hold release as every block takes them (R191 to R194), and the cadence step
(R76). -/

namespace Sys2Proof.Machine

/-! ### Hard reset and INIT (R191, R194) -/

/-- R191: the release of hard reset with the MSEL pins at `msel`. The waiting commands are no part of the part and stay. -/
def State.hardReset (s : State) (msel : QuadNo) : State := { State.atReset msel with pending := s.pending }

/-- R191: INIT ends: the phase becomes HELD and READY is raised. -/
def State.endInit (s : State) : State :=
  if s.mga.phase = .init then ({ s with mga := { s.mga with phase := .held } }).raise .ready else s

/-- R194: RST goes low: the cells waiting in the queues are lost, and the part is held in reset. -/
def State.resetLow (s : State) : State :=
  { s with
    lif := { s.lif with rstLow := true }
    mga := { s.mga with responses := [], events := [] } }

/-! ### The shelf hold (R192) -/

/-- R25: LNC at the hold. -/
def Lnc.hold (b : Lnc) : Lnc := { lines := b.lines.map LineRec.hold }

/-- R49: a position at the hold. -/
def PositionRec.hold (r : PositionRec) : PositionRec := { r with pressed := [], denial := none }

/-- R49: PSC at the hold. -/
def Psc.hold (b : Psc) : Psc := { b with positions := b.positions.map PositionRec.hold }

/-- R67, R72: CXM at the hold: no connection and no privacy flag is left. -/
def Cxm.hold (_ : Cxm) : Cxm := { conns := [], privacy := Vector.replicate 512 false }

/-- R88: a generator at the hold. -/
def Gen.hold (g : Gen) : Gen := { g with running := false, phase := 0 }

/-- R88: CDU at the hold; the floor clock goes on. -/
def Cdu.hold (b : Cdu) : Cdu := { b with gens := b.gens.map Gen.hold }

/-- R110: MIX at the hold. -/
def Mix.hold (b : Mix) : Mix := { b with tones := b.tones.map (fun t => { t with index := 0 }) }

/-- R130: a group at the hold. -/
def GroupRec.hold (r : GroupRec) : GroupRec := { r with talkers := [], waits := [], marks := [] }

/-- R130: GTU at the hold. -/
def Gtu.hold (b : Gtu) : Gtu := { groups := b.groups.map GroupRec.hold }

/-- R145: PRS at the hold. -/
def Prs.hold (b : Prs) : Prs :=
  { b with
    demand := Vector.replicate 512 false
    lineNeed := Vector.replicate 512 .none
    groupNeed := Vector.replicate 64 .none }

/-- R163: a channel at the hold; its segment is kept. -/
def Chan.hold (r : Chan) : Chan := { r with state := .stopped, target := none, closeCount := 0 }

/-- R163: RCU at the hold; segments, ready indications, the entry count and the mode are kept. -/
def Rcu.hold (b : Rcu) : Rcu := { b with chans := b.chans.map Chan.hold, waiting := [] }

/-- R192: every switching block takes the hold, with no occurrence. -/
def State.holdBlocks (s : State) : State :=
  { s with
    lnc := s.lnc.hold
    psc := s.psc.hold
    cxm := s.cxm.hold
    cdu := s.cdu.hold
    mix := s.mix.hold
    gtu := s.gtu.hold
    prs := s.prs.hold
    rcu := s.rcu.hold }

/-- R192: HOLD by the phase: the blocks are held, MGA enters HELD and raises SWITCHING_HELD; while HELD nothing changes. -/
def State.holdShelf (s : State) : State :=
  if s.running then
    let s := s.holdBlocks
    ({ s with mga := { s.mga with phase := .held } }).raise .switchingHeld
  else s

/-! ### Hold release (R193) -/

/-- R89: a generator at hold release. -/
def Gen.release (g : Gen) : Gen := { g.load with running := g.enable && decide (g.mode ≠ .oneshot) }

/-- R89: CDU at hold release. -/
def Cdu.release (b : Cdu) : Cdu := { b with gens := b.gens.map Gen.release }

/-- R193: HOLD_RELEASE by the phase: MGA enters RUNNING and raises SWITCHING_RELEASED, the generators start, the lines are
evaluated, and the monitors are made after that evaluation; while RUNNING nothing changes. -/
def State.releaseShelf (s : State) : State :=
  if s.mga.phase = .held then
    let s := ({ s with mga := { s.mga with phase := .running } }).raise .switchingReleased
    let s := { s with cdu := s.cdu.release }
    s.evaluateAll.makeAllMonitors
  else s

/-! ### The cadence step (R76) -/

/-- R76: one cadence step: the floor clock rises by one; while the switching blocks are running the generators advance
(R79) and the step reaches LNC's timers (R6), PSC's denial displays (R43) and GTU's timeouts (R122). The order in which
the blocks take the step is the model's (notes/assumptions/8.md). -/
def State.cadenceStep (s : State) : State :=
  let s := { s with cdu := { s.cdu with clock := s.cdu.clock + 1 } }
  if s.running then s.stepGens.lineTimers.denialSteps.talkTimeouts else s

end Sys2Proof.Machine
end

