-- ==== Sys2Proof/WellFormed.lean ====
section
/-! DEFINITION. Which commands are well formed: what the operand types leave open and the frame and cell formats fix
(R167, R168, R196, R197). An ill-formed command stands for nothing that can reach the part. -/

namespace Sys2Proof

/-- A line port frame has 4 cell slots (R167) of 512 bytes each (R196). -/
def LineFrame.wellFormed (f : LineFrame) : Bool :=
  f.cells.length == 4 && f.cells.all (·.length == 512)

/-- A position slot has 2 cell slots (R168) of 4 bytes each (spec/11, section 11.2). -/
def SlotIn.wellFormed (f : SlotIn) : Bool :=
  f.cells.length == 2 && f.cells.all (·.length == 4)

/-- Every frame of the period has its cell slots. -/
def Inbound.wellFormed (f : Inbound) : Bool :=
  f.lines.toList.all LineFrame.wellFormed &&
    f.positions.toList.all (fun p => p.slots.toList.all SlotIn.wellFormed)

/-- A TONE write of 2 bytes names an index 0–1023 and one of 4 bytes any other index (R197). -/
def ToneEntry.fits (index : U16) : ToneEntry → Bool
  | .sample _ => decide (index.toNat ≤ 1023)
  | .control _ _ => decide (1023 < index.toNat)

/-- The checks on a command. A cell slot whose byte 0 is 0 holds no cell (R196), so no malformed cell begins with 0;
UNKNOWN_TABLE_WRITE names a table byte of 12 or above (R197). -/
def Instr.wellFormed : Instr → Bool
  | .framePeriod f => f.wellFormed
  | .writeTone _ index e => e.fits index
  | .malformedRequest kind _ => decide (kind ≠ 0)
  | .unknownTableWrite _ table => decide (12 ≤ table.toNat)
  | .hardReset _ => true
  | .initEnd => true
  | .cadenceStep => true
  | .generatorWrap _ => true
  | .oneshotCompletion _ => true
  | .ringTimerExpiry _ => true
  | .answerTimerExpiry _ => true
  | .hangTimerExpiry _ => true
  | .guardTimerExpiry _ => true
  | .denialExpiry _ => true
  | .talkTimeout _ => true
  | .closeCountExpiry _ => true
  | .keyDown _ _ => true
  | .keyUp _ _ => true
  | .hook _ _ _ => true
  | .level _ _ _ => true
  | .lineRequest _ _ _ _ => true
  | .releaseRequest _ _ _ => true
  | .hookRelease _ _ => true
  | .holdRequest _ _ _ => true
  | .privacyToggle _ _ _ => true
  | .speakerTalkSet _ _ _ => true
  | .ringRequest _ => true
  | .demandToggle _ => true
  | .talkRequest _ _ _ _ => true
  | .talkRelease _ _ => true
  | .readEntry _ _ _ => true
  | .writeLineCfg _ _ _ => true
  | .writePositionCfg _ _ _ => true
  | .writeKeyMap _ _ _ => true
  | .writeSpeakerAssign _ _ _ => true
  | .writeLampStyle _ _ _ => true
  | .writeGroupCfg _ _ _ => true
  | .writeCgCfg _ _ _ => true
  | .writePolicyCtrl _ _ _ => true
  | .writePolicyFixed _ _ _ => true
  | .writePolicyRange _ _ _ => true
  | .writeRecMode _ _ _ => true
  | .readState _ _ _ _ => true
  | .clearFault _ _ => true
  | .trigger _ _ => true
  | .forceRelease _ _ => true
  | .setEventMode _ _ _ => true
  | .readSummary _ _ => true
  | .ackClass _ _ => true
  | .setLaneRatio _ _ => true
  | .hold _ => true
  | .holdRelease _ => true
  | .rstLow => true

end Sys2Proof
end

