-- ==== Sys2Proof/Machine/Management.lean ====
section
/-! DEFINITION. The Management Agent's requests (spec/10): for each request kind the checks of its owner in their order and
the effect of a request that is taken. A `judge` answers for a request that has passed checks 1 and 2 of R180. -/

namespace Sys2Proof.Machine

/-! ### READ_ENTRY (R182) -/

/-- The entry of tone source memory at an index (R107). -/
def State.toneBytes (s : State) (i : Nat) : Option (List Byte) :=
  if h : i < 1024 then
    some (byte2 ((s.mix.tones[i / 256]).samples[i % 256]'(Nat.mod_lt _ (by decide))).toNat)
  else if h : i - 1024 < 4 then
    some (byte2 (s.mix.tones[i - 1024]).length ++ byte2 (s.mix.tones[i - 1024]).level)
  else none

/-- R182: the entry a READ_ENTRY returns. `none` is an unknown table, `some none` an index beyond the table's range. -/
def State.entryBytes (s : State) (table i : Nat) : Option (Option (List Byte)) :=
  match table with
  | 0 => some ((numOf 512 i).map fun l => (s.line l).cfg.bytes)
  | 1 => some ((numOf 32 i).map fun p => (s.position p).cfg.bytes)
  | 2 => some ((numOf 1536 i).map fun k => (s.psc.keyMap[k]).bytes)
  | 3 => some ((numOf 256 i).map fun a => (s.psc.assigns[a]).bytes)
  | 4 => some ((numOf 16 i).map fun x => (s.psc.lampStyle[x]).bytes)
  | 5 => some ((numOf 64 i).map fun g => (s.group g).cfg.bytes)
  | 6 => some ((numOf 16 i).map fun n => (s.gen n).cfgBytes)
  | 7 => some (s.toneBytes i)
  | 8 => some (if i = 0 then some s.prs.ctrlBytes else none)
  | 9 => some ((numOf 64 i).map fun b => fixedBytes s.prs.fixed[b])
  | 10 => some ((numOf 8 i).map fun r => (s.prs.ranges[r]).bytes)
  | 11 => some (if i = 0 then some (byte1 s.rcu.mode.code) else none)
  | _ => none

/-- R182: READ_ENTRY checks the table and the index. -/
def State.judgeReadEntry (s : State) (table : Byte) (index : U16) : Verdict :=
  match s.entryBytes table.toNat index.toNat with
  | none => s.refuse .badTable
  | some none => s.refuse .badIndex
  | some (some bs) => s.answerData bs

/-! ### WRITE_ENTRY -/

/-- R21 check 4: whether a line's state forbids a change of kind or group. -/
def LineState.inUse : LineState → Bool
  | .disabled => false
  | .idle => false
  | .fault => false
  | .ringingIn => true
  | .unanswered => true
  | .callingOut => true
  | .active => true
  | .held => true

/-- R21 check 5: the lines other than `l` that are of kind HOOT_LEG naming group `g`, in any state. -/
def State.otherLegs (s : State) (l : LineNo) (g : GroupNo) : Nat :=
  ((List.finRange 512).filter fun x =>
    decide (x ≠ l) && decide ((s.line x).cfg.kind = .hootLeg) && decide ((s.line x).cfg.group = g)).length

/-- R21 check 5: whether the write would make a fifth HOOT_LEG of its group. -/
def State.fifthLeg (s : State) (l : LineNo) (kind : LineKind) (g : GroupNo) : Bool :=
  let old := (s.line l).cfg
  decide (kind = .hootLeg) && !(decide (old.kind = .hootLeg) && decide (old.group = g)) &&
    decide (Config.legRoom ≤ s.otherLegs l g)

/-- R2: the configuration that a LINE_CFG entry stands for; the caller has read its codes and references. -/
def lineConfig (e : LineEntry) (kind : LineKind) (priv : Bool) (fault : FaultMode) (ring burst : CgNo)
    (group : GroupNo) : LineCfg :=
  { kind := kind, privacyDefault := priv, rxGain := gainOf e.rxGain, txGain := gainOf e.txGain
    ringCg := ring, burstCg := burst, ringTimeout := e.ringTimeout.toNat, answerTimeout := e.answerTimeout.toNat
    ringHang := e.ringHang.toNat, faultMode := fault, faultGuard := e.faultGuard.toNat, group := group }

/-- R21 checks 4 and 5, and the taking of the write (R22). -/
def State.storeLineCfg (s : State) (l : LineNo) (cfg : LineCfg) (clamped : Bool) : Verdict :=
  let old := (s.line l).cfg
  if (decide (old.kind ≠ cfg.kind) || decide (old.group ≠ cfg.group)) && (s.line l).state.inUse then s.refuse .busy
  else if s.fifthLeg l cfg.kind cfg.group then s.refuse .busy
  else (s.lineCfgWritten l cfg).accept clamped

/-- R21: a WRITE_ENTRY on LINE_CFG. -/
def State.judgeLineCfg (s : State) (index : U16) (e : LineEntry) : Verdict :=
  match numOf 512 index.toNat with
  | none => s.refuse .badIndex
  | some l =>
    match lineKindOf e.kind, flagOf e.privacyDefault, faultModeOf e.faultMode with
    | some kind, some priv, some fault =>
      match numOf 16 e.ringCg.toNat, numOf 16 e.burstCg.toNat, numOf 64 e.group.toNat with
      | some ring, some burst, some group =>
        s.storeLineCfg l (lineConfig e kind priv fault ring burst group) (gainClamps e.rxGain || gainClamps e.txGain)
      | _, _, _ => s.refuse .badIndex
    | _, _, _ => s.refuse .badValue

/-- R27: a taken POSITION_CFG write; a change of record_mode re-resolves (R140). -/
def State.storePositionCfg (s : State) (p : PosNo) (cfg : PositionCfg) : State :=
  let old := (s.position p).cfg.recordMode
  let s := s.setPosition p { s.position p with cfg := cfg }
  if old ≠ cfg.recordMode then s.reResolvePosition p else s

/-- R27: a WRITE_ENTRY on POSITION_CFG. -/
def State.judgePositionCfg (s : State) (index : U16) (e : PositionEntry) : Verdict :=
  match numOf 32 index.toNat with
  | none => s.refuse .badIndex
  | some p =>
    match recordModeOf e.recordMode, talkClassOf e.talkClass, flagOf e.autoHold with
    | some mode, some cls, some hold =>
      match numOf 8 e.ringSpeaker.toNat, numOf 4 e.ringTone.toNat with
      | some spk, some tone =>
        (s.storePositionCfg p
          { recordMode := mode, talkClass := cls, autoHold := hold, duck := levelOf e.duck
            ringSpeaker := spk, ringTone := tone, volumes := e.volumes.map levelOf }).accept
          (levelClamps e.duck || e.volumes.toList.any levelClamps)
      | _, _ => s.refuse .badIndex
    | _, _, _ => s.refuse .badValue

/-- R31: a WRITE_ENTRY on KEY_MAP. -/
def State.judgeKeyMap (s : State) (index : U16) (e : KeyEntry) : Verdict :=
  match numOf 1536 index.toNat with
  | none => s.refuse .badIndex
  | some k =>
    match keyActionOf e.action e.target, colourOf e.colour with
    | some action, some colour =>
      match action with
      | some a =>
        ({ s with psc := { s.psc with keyMap := s.psc.keyMap.set k { action := a, colour := colour } } }).accept false
      | none => s.refuse .badIndex
    | _, _ => s.refuse .badValue

/-- R32 check 4: the speaker assignments of the shelf that name a line. -/
def State.assignments (s : State) (l : LineNo) : Nat := (s.psc.assigns.toList.filter (fun a => a = .line l)).length

/-- R32 check 4: whether the write would be a seventeenth assignment of a line. -/
def State.assignFull (s : State) (i : Fin 256) (a : Assign) : Bool :=
  match a with
  | .line l => decide (s.psc.assigns[i] ≠ .line l) && decide (Config.assignRoom ≤ s.assignments l)
  | .none => false
  | .group _ => false

/-- The place of a SPEAKER_ASSIGN index (R32). -/
def assignPos (i : Fin 256) : PosNo := ⟨i.val / 8, by omega⟩

/-- The speaker channel of a SPEAKER_ASSIGN index (R32). -/
def assignSpk (i : Fin 256) : SpkNo := ⟨i.val % 8, by omega⟩

/-- R33: a write that changes an assignment: the old line's connection at the place is removed as one request, the new
assignment is stored, and the new monitor is made by one request (R70). -/
def State.changeAssign (s : State) (i : Fin 256) (a : Assign) : State :=
  let p := assignPos i
  let c := assignSpk i
  let s := match s.psc.assigns[i] with
    | .line _ => s.removeConns (fun x => decide (x.pos = p) && decide (x.place = Place.spk c)) .release
    | .none => s
    | .group _ => s
  ({ s with psc := { s.psc with assigns := s.psc.assigns.set i a } }).makeMonitors [(p, c)]

/-- R32: a WRITE_ENTRY on SPEAKER_ASSIGN. -/
def State.judgeSpeakerAssign (s : State) (index : U16) (e : AssignEntry) : Verdict :=
  match numOf 256 index.toNat with
  | none => s.refuse .badIndex
  | some i =>
    match assignOf e.kind e.target with
    | none => s.refuse .badValue
    | some none => s.refuse .badIndex
    | some (some a) =>
      if s.assignFull i a then s.refuse .busy
      else if s.psc.assigns[i] = a then s.accept false
      else (s.changeAssign i a).accept false

/-- R46: a WRITE_ENTRY on LAMP_STYLE. -/
def State.judgeLampStyle (s : State) (index : U16) (e : LampEntry) : Verdict :=
  match numOf 16 index.toNat with
  | none => s.refuse .badIndex
  | some i =>
    match styleColourOf e.colour, patternOf e.pattern with
    | some colour, some pattern =>
      ({ s with psc := { s.psc with
        lampStyle := s.psc.lampStyle.set i { colour := colour, pattern := pattern } } }).accept false
    | _, _ => s.refuse .badValue

/-- Store a group's configuration. -/
def State.setGroupCfg (s : State) (g : GroupNo) (cfg : GroupCfg) : State := s.setGroup g { s.group g with cfg := cfg }

/-- R111: the record_code of a taken GROUP_CFG write. -/
def State.storeRecordCode (s : State) (g : GroupNo) (code : PolicyCode) : State :=
  s.setGroupCfg g { (s.group g).cfg with recordCode := code }

/-- R111, R115, R124: the enabled field of a taken GROUP_CFG write; a change acts while the switching blocks are running. -/
def State.storeEnabled (s : State) (g : GroupNo) (on : Bool) : State :=
  let cfg := (s.group g).cfg
  let s := s.setGroupCfg g { cfg with enabled := on }
  if !s.running || cfg.enabled == on then s
  else if on then s.groupEnabled g
  else s.groupDisabled g

/-- R123, R124, R126, R140: whether a GROUP_CFG write sends PRS a notice: it changes the limit or the record_code, or it
disables the group while the switching blocks are running. -/
def State.groupWriteNotices (s : State) (old new : GroupCfg) : Bool :=
  decide (old.talkerLimit ≠ new.talkerLimit) || decide (old.recordCode ≠ new.recordCode) ||
    (s.running && old.enabled && !new.enabled)

/-- R111, R126: a taken GROUP_CFG write, one event of GTU: the gains and max_talk are stored, then the effects follow in the
order talker_limit, record_code, enabled, and one notice to PRS ends it. The LINE occurrences of the legs that a write of
enabled moves so come before the RECORD occurrences of the notice: R126 lists the two without an order, and the order is the
model's (DESIGN CHOICE, notes/assumptions/10.md). -/
def State.storeGroupCfg (s : State) (g : GroupNo) (cfg : GroupCfg) : State :=
  let old := (s.group g).cfg
  let t := s.setGroupCfg g { cfg with recordCode := old.recordCode, enabled := old.enabled }
  let t := ((t.limitChanged g old.talkerLimit).storeRecordCode g cfg.recordCode).storeEnabled g cfg.enabled
  if s.groupWriteNotices old cfg then t.noticeGroups [g] else t

/-- R111: a WRITE_ENTRY on GROUP_CFG. -/
def State.judgeGroupCfg (s : State) (index : U16) (e : GroupEntry) : Verdict :=
  match numOf 64 index.toNat with
  | none => s.refuse .badIndex
  | some g =>
    match flagOf e.enabled, policyOf e.recordCode with
    | some on, some code =>
      (s.storeGroupCfg g
        { enabled := on, talkerLimit := clampTo 1 4 e.talkerLimit.toNat, maxTalk := clampTo 0 600 e.maxTalk.toNat
          groupGain := gainOf e.groupGain, legGain := gainOf e.legGain, recordCode := code }).accept
        (beyond 1 4 e.talkerLimit.toNat || beyond 0 600 e.maxTalk.toNat || gainClamps e.groupGain ||
          gainClamps e.legGain)
    | _, _ => s.refuse .badValue

/-- R74 check 5: whether following stored sources from generator `m`, over at most `k` links, returns to generator `n`. -/
def State.returnsTo (s : State) (n : CgNo) : Nat → CgNo → Bool
  | 0, m => decide (m = n)
  | k + 1, m => decide (m = n) || match (s.gen m).source with
    | some m' => State.returnsTo s n k m'
    | none => false

/-- R74 checks 4 and 5: whether a source names the generator itself or closes a cycle. -/
def State.closesCycle (s : State) (n : CgNo) : Option CgNo → Bool
  | some m => s.returnsTo n 16 m
  | none => false

/-- R74: a taken CG_CFG write: the fields are stored, then enabling or disabling follows (R84, R85). -/
def State.storeGen (s : State) (n : CgNo) (enable : Bool) (mode : CgMode) (source : Option CgNo) (shape : Shape)
    (pair : Bool) : State :=
  let old := s.gen n
  let s := s.setGen n { old with enable := enable, mode := mode, source := source, pending := shape, pair := pair }
  if !old.enable && enable then s.enableGen n
  else if old.enable && !enable then s.disableGen n
  else s

/-- R73: the pending copies of a CG_CFG entry, clamped. -/
def cgShape (e : CgEntry) : Shape :=
  { period := clampTo 1 1000 e.period.toNat, rise := clampTo 0 1000 e.rise.toNat, fall := clampTo 0 1000 e.fall.toNat }

/-- R74: whether a CG_CFG entry clamps. -/
def cgClamps (e : CgEntry) : Bool :=
  beyond 1 1000 e.period.toNat || beyond 0 1000 e.rise.toNat || beyond 0 1000 e.fall.toNat

/-- R74: a WRITE_ENTRY on CG_CFG. -/
def State.judgeCgCfg (s : State) (index : U16) (e : CgEntry) : Verdict :=
  match numOf 16 index.toNat with
  | none => s.refuse .badIndex
  | some n =>
    match flagOf e.enable, cgModeOf e.mode, flagOf e.pair with
    | some enable, some mode, some pair =>
      match sourceOf e.source with
      | none => s.refuse .badIndex
      | some source =>
        if s.closesCycle n source then s.refuse .badValue
        else if (s.gen n).enable && enable && (decide ((s.gen n).mode ≠ mode) || decide ((s.gen n).source ≠ source)) then
          s.refuse .busy
        else (s.storeGen n enable mode source (cgShape e) pair).accept (cgClamps e)
    | _, _, _ => s.refuse .badValue

/-- R107: a tone sample write. -/
def State.storeToneSample (s : State) (t : ToneNo) (k : Fin 256) (v : Sample) : State :=
  let r := s.mix.tones[t]
  { s with mix := { s.mix with tones := s.mix.tones.set t { r with samples := r.samples.set k v } } }

/-- R107, R108: a tone control write; an index at or beyond the new length becomes 0. -/
def State.storeToneControl (s : State) (t : ToneNo) (length level : Nat) : State :=
  let r := s.mix.tones[t]
  { s with mix := { s.mix with tones := s.mix.tones.set t { r with
      length := length
      level := level
      index := if length ≤ r.index then 0 else r.index } } }

/-- The tone source and the sample of a TONE index below 1024 (R107). -/
def toneSampleAt (i : Nat) : ToneNo × Fin 256 := (⟨i / 256 % 4, by omega⟩, ⟨i % 256, by omega⟩)

/-- R107: a WRITE_ENTRY on TONE whose body fits its index. -/
def State.judgeTone (s : State) (index : U16) (e : ToneEntry) : Verdict :=
  match e with
  | .sample v => (s.storeToneSample (toneSampleAt index.toNat).1 (toneSampleAt index.toNat).2 v).accept false
  | .control length level =>
    match numOf 4 (index.toNat - 1024) with
    | none => s.refuse .badIndex
    | some t =>
      (s.storeToneControl t (clampTo 8 256 length.toNat) (gainOf level)).accept
        (beyond 8 256 length.toNat || gainClamps level)

/-- R131: a WRITE_ENTRY on POLICY_CTRL. -/
def State.judgePolicyCtrl (s : State) (index : U16) (e : PolicyCtrlEntry) : Verdict :=
  if index ≠ 0 then s.refuse .badIndex
  else match flagOf e.tablesEnabled, flagOf e.fixedEnabled, policyOf e.defaultCode with
    | some tables, some fixed, some code =>
      ({ s with prs := { s.prs with
        tablesEnabled := tables, fixedEnabled := fixed, defaultCode := code } }).reResolveTables.accept false
    | _, _, _ => s.refuse .badValue

/-- R132: a WRITE_ENTRY on POLICY_FIXED. -/
def State.judgePolicyFixed (s : State) (index : U16) (code : Byte) : Verdict :=
  match numOf 64 index.toNat with
  | none => s.refuse .badIndex
  | some b =>
    match fixedCodeOf code with
    | some c => ({ s with prs := { s.prs with fixed := s.prs.fixed.set b c } }).reResolveTables.accept false
    | none => s.refuse .badValue

/-- R133: a WRITE_ENTRY on POLICY_RANGE. -/
def State.judgePolicyRange (s : State) (index : U16) (e : PolicyRangeEntry) : Verdict :=
  match numOf 8 index.toNat with
  | none => s.refuse .badIndex
  | some r =>
    match flagOf e.enabled, policyOf e.code with
    | some on, some code =>
      match numOf 512 e.first.toNat, numOf 512 e.last.toNat with
      | some first, some last =>
        if last < first then s.refuse .badValue
        else
          let range : PolicyRange := { enabled := on, code := code, first := first, last := last }
          ({ s with prs := { s.prs with ranges := s.prs.ranges.set r range } }).reResolveTables.accept false
      | _, _ => s.refuse .badIndex
    | _, _ => s.refuse .badValue

/-- R146: a WRITE_ENTRY on REC_MODE. The channels, their slots and their ready values are those of the new mode from the
write on, in READ_STATE too, though R146 speaks of them from hold release (DESIGN CHOICE, notes/assumptions/29.md). -/
def State.judgeRecMode (s : State) (index : U16) (mode : Byte) : Verdict :=
  if index ≠ 0 then s.refuse .badIndex
  else match recModeOf mode with
    | none => s.refuse .badValue
    | some m =>
      if s.running then s.refuse .modeLocked
      else ({ s with rcu := { s.rcu with mode := m } }).accept false

/-! ### READ_STATE (R183) -/

/-- R183: the live state of an object. `none` is an unknown kind, `some none` an index beyond the kind's range. -/
def State.stateBytes (s : State) (kind i : Nat) : Option (Option (List Byte)) :=
  match kind with
  | 0 => some ((numOf 512 i).map s.lineBytes)
  | 1 => some ((numOf 32 i).map s.positionBytes)
  | 2 => some ((numOf 512 i).map s.connectionBytes)
  | 3 => some ((numOf 64 i).map s.groupBytes)
  | 4 => some ((numOf 16 i).map s.generatorBytes)
  | 5 => some (if i < s.rcu.mode.channels then (numOf 128 i).map s.channelBytes else none)
  | 6 => some ((numOf 9 i).map s.portBytes)
  | 7 => some ((numOf 960 i).map s.clipBytes)
  | _ => none

/-- R106: the clear option sets a clip counter to 0 after its value is read. -/
def State.clearClip (s : State) (i : Nat) : State :=
  if h : i < 960 then { s with mix := { s.mix with clips := s.mix.clips.set i 0 } } else s

/-- R183: READ_STATE; the clear option acts on a clip counter alone. -/
def State.judgeReadState (s : State) (clear : Bool) (kind : Byte) (index : U16) : Verdict :=
  match s.stateBytes kind.toNat index.toNat with
  | none => s.refuse .badValue
  | some none => s.refuse .badIndex
  | some (some bs) => (if clear && decide (kind = 7) then s.clearClip index.toNat else s).answerData bs

/-! ### Requests on objects -/

/-- R19: CLEAR_FAULT. -/
def State.judgeClearFault (s : State) (line : U16) : Verdict :=
  match numOf 512 line.toNat with
  | none => s.refuse .badIndex
  | some l => if (s.line l).state = .fault then (s.clearFault l).accept false else s.refuse .busy

/-- R83: TRIGGER. -/
def State.judgeTrigger (s : State) (cg : Byte) : Verdict :=
  match numOf 16 cg.toNat with
  | none => s.refuse .badIndex
  | some n =>
    if !s.running then s.refuse .held
    else if !(s.gen n).enable then s.refuse .busy
    else (s.triggerGen n).accept false

/-- R68: FORCE_RELEASE. -/
def State.judgeForceRelease (s : State) (line : U16) : Verdict :=
  match numOf 512 line.toNat with
  | none => s.refuse .badIndex
  | some l => if s.running then (s.clearLineConns l .forced).accept false else s.refuse .held

/-! ### MGA's own requests -/

/-- R188: a class takes a new delivery mode. -/
def ClassRec.setMode (r : ClassRec) (m : DeliveryMode) : ClassRec :=
  match m with
  | .off => { r with mode := .off, pending := false, withheld := none }
  | .each => { r with mode := .each, pending := false, withheld := none }
  | .latched => { r with mode := .latched, withheld := none }
  | .rearm => { r with mode := .rearm, withheld := if r.mode = .rearm then r.withheld else none }

/-- R188: SET_EVENT_MODE. -/
def State.judgeEventMode (s : State) (cls mode : Byte) : Verdict :=
  match classOf cls with
  | none => s.refuse .badValue
  | some c =>
    match deliveryOf mode with
    | none => s.refuse .badValue
    | some m =>
      if c = .system then (if m = .each then s.accept false else s.refuse .badValue)
      else ({ s with mga := s.mga.setCls c ((s.mga.cls c).setMode m) }).accept false

/-- R185: READ_SUMMARY. -/
def State.judgeSummary (s : State) (cls : Byte) : Verdict :=
  match classOf cls with
  | none => s.refuse .badValue
  | some c => s.answerData ((s.mga.cls c).bytes c)

/-- R187 step 2: a class whose summary and pending mark are cleared. -/
def ClassRec.cleared (r : ClassRec) : ClassRec := { r with pending := false, objects := [], miss := false, count := 0 }

/-- R187: the acknowledgement of a class other than SYSTEM. -/
def Mga.acknowledge (m : Mga) (c : EventClass) : Mga :=
  let r := m.cls c
  let m := m.setCls c r.cleared
  match r.mode, r.withheld with
  | .rearm, some (o, stamp) =>
    let m := m.setCls c { m.cls c with withheld := none }
    m.makePendingCell o stamp
  | _, _ => m

/-- R187: ACK_CLASS; that of SYSTEM changes nothing. -/
def State.judgeAck (s : State) (cls : Byte) : Verdict :=
  match classOf cls with
  | none => s.refuse .badValue
  | some c =>
    let data := (s.mga.cls c).bytes c
    if c = .system then s.answerData data
    else ({ s with mga := s.mga.acknowledge c }).answerData data

/-- R190: SET_LANE_RATIO; a run count above the new ratio is taken as equal to it. -/
def State.judgeLaneRatio (s : State) (ratio : Byte) : Verdict :=
  let n := clampTo 1 8 ratio.toNat
  ({ s with mga := { s.mga with ratio := n, run := min s.mga.run n } }).accept (beyond 1 8 ratio.toNat)

/-- R192: HOLD. -/
def State.judgeHold (s : State) : Verdict := s.holdShelf.accept false

/-- R193: HOLD_RELEASE. -/
def State.judgeHoldRelease (s : State) : Verdict := s.releaseShelf.accept false

/-! ### Requests as MGA takes them (R179 to R181), with the request kinds of section 11.1 -/

/-- READ_ENTRY. -/
def State.takeReadEntry (s : State) (tag : U16) (table : Byte) (index : U16) : State :=
  s.request 1 tag (fun s => s.judgeReadEntry table index)

/-- WRITE_ENTRY on LINE_CFG. -/
def State.takeLineCfg (s : State) (tag index : U16) (e : LineEntry) : State :=
  s.request 2 tag (fun s => s.judgeLineCfg index e)

/-- WRITE_ENTRY on POSITION_CFG. -/
def State.takePositionCfg (s : State) (tag index : U16) (e : PositionEntry) : State :=
  s.request 2 tag (fun s => s.judgePositionCfg index e)

/-- WRITE_ENTRY on KEY_MAP. -/
def State.takeKeyMap (s : State) (tag index : U16) (e : KeyEntry) : State :=
  s.request 2 tag (fun s => s.judgeKeyMap index e)

/-- WRITE_ENTRY on SPEAKER_ASSIGN. -/
def State.takeSpeakerAssign (s : State) (tag index : U16) (e : AssignEntry) : State :=
  s.request 2 tag (fun s => s.judgeSpeakerAssign index e)

/-- WRITE_ENTRY on LAMP_STYLE. -/
def State.takeLampStyle (s : State) (tag index : U16) (e : LampEntry) : State :=
  s.request 2 tag (fun s => s.judgeLampStyle index e)

/-- WRITE_ENTRY on GROUP_CFG. -/
def State.takeGroupCfg (s : State) (tag index : U16) (e : GroupEntry) : State :=
  s.request 2 tag (fun s => s.judgeGroupCfg index e)

/-- WRITE_ENTRY on CG_CFG. -/
def State.takeCgCfg (s : State) (tag index : U16) (e : CgEntry) : State :=
  s.request 2 tag (fun s => s.judgeCgCfg index e)

/-- WRITE_ENTRY on TONE; a body that does not fit the index makes the cell malformed (R197). -/
def State.takeTone (s : State) (tag index : U16) (e : ToneEntry) : State :=
  if ToneEntry.fits index e then s.request 2 tag (fun s => s.judgeTone index e) else s.badRequest 2 tag

/-- WRITE_ENTRY on POLICY_CTRL. -/
def State.takePolicyCtrl (s : State) (tag index : U16) (e : PolicyCtrlEntry) : State :=
  s.request 2 tag (fun s => s.judgePolicyCtrl index e)

/-- WRITE_ENTRY on POLICY_FIXED. -/
def State.takePolicyFixed (s : State) (tag index : U16) (code : Byte) : State :=
  s.request 2 tag (fun s => s.judgePolicyFixed index code)

/-- WRITE_ENTRY on POLICY_RANGE. -/
def State.takePolicyRange (s : State) (tag index : U16) (e : PolicyRangeEntry) : State :=
  s.request 2 tag (fun s => s.judgePolicyRange index e)

/-- WRITE_ENTRY on REC_MODE. -/
def State.takeRecMode (s : State) (tag index : U16) (mode : Byte) : State :=
  s.request 2 tag (fun s => s.judgeRecMode index mode)

/-- READ_STATE. -/
def State.takeReadState (s : State) (tag : U16) (clear : Bool) (kind : Byte) (index : U16) : State :=
  s.request 3 tag (fun s => s.judgeReadState clear kind index)

/-- CLEAR_FAULT. -/
def State.takeClearFault (s : State) (tag line : U16) : State := s.request 4 tag (fun s => s.judgeClearFault line)

/-- TRIGGER. -/
def State.takeTrigger (s : State) (tag : U16) (cg : Byte) : State := s.request 5 tag (fun s => s.judgeTrigger cg)

/-- FORCE_RELEASE. -/
def State.takeForceRelease (s : State) (tag line : U16) : State := s.request 6 tag (fun s => s.judgeForceRelease line)

/-- SET_EVENT_MODE. -/
def State.takeEventMode (s : State) (tag : U16) (cls mode : Byte) : State :=
  s.request 7 tag (fun s => s.judgeEventMode cls mode)

/-- READ_SUMMARY. -/
def State.takeSummary (s : State) (tag : U16) (cls : Byte) : State := s.request 8 tag (fun s => s.judgeSummary cls)

/-- ACK_CLASS. -/
def State.takeAck (s : State) (tag : U16) (cls : Byte) : State := s.request 9 tag (fun s => s.judgeAck cls)

/-- SET_LANE_RATIO. -/
def State.takeLaneRatio (s : State) (tag : U16) (ratio : Byte) : State :=
  s.request 10 tag (fun s => s.judgeLaneRatio ratio)

/-- HOLD. -/
def State.takeHold (s : State) (tag : U16) : State := s.request 11 tag State.judgeHold

/-- HOLD_RELEASE. -/
def State.takeHoldRelease (s : State) (tag : U16) : State := s.request 12 tag State.judgeHoldRelease

/-- A malformed cell (R197); a received byte 0 of 128 is answered with 255. -/
def State.takeMalformed (s : State) (kind : Byte) (tag : U16) : State :=
  s.badRequest (if kind = 128 then 255 else kind) tag

/-- A WRITE_ENTRY that names no table (R180 check 3). -/
def State.takeUnknownTable (s : State) (tag : U16) : State := s.request 2 tag (fun s => s.refuse .badTable)

end Sys2Proof.Machine
end

