-- ==== Sys2Proof/Machine/HostCommands.lean ====
section
/-! DEFINITION. The meanings of the host's requests (spec/10, Request kinds), one for each row, and of the cells that MGA
refuses. -/

namespace Sys2Proof.Machine

/-- READ_ENTRY (R182). -/
def execReadEntry (tag : U16) (table : Byte) (index : U16) (s : State) : Host.Outcome State Fault Refusal :=
  live (fun s => s.takeReadEntry tag table index) s

/-- WRITE_LINE_CFG (R21, R22). -/
def execWriteLineCfg (tag index : U16) (e : LineEntry) (s : State) : Host.Outcome State Fault Refusal :=
  live (fun s => s.takeLineCfg tag index e) s

/-- WRITE_POSITION_CFG (R27). -/
def execWritePositionCfg (tag index : U16) (e : PositionEntry) (s : State) : Host.Outcome State Fault Refusal :=
  live (fun s => s.takePositionCfg tag index e) s

/-- WRITE_KEY_MAP (R31). -/
def execWriteKeyMap (tag index : U16) (e : KeyEntry) (s : State) : Host.Outcome State Fault Refusal :=
  live (fun s => s.takeKeyMap tag index e) s

/-- WRITE_SPEAKER_ASSIGN (R32, R33). -/
def execWriteSpeakerAssign (tag index : U16) (e : AssignEntry) (s : State) : Host.Outcome State Fault Refusal :=
  live (fun s => s.takeSpeakerAssign tag index e) s

/-- WRITE_LAMP_STYLE (R46). -/
def execWriteLampStyle (tag index : U16) (e : LampEntry) (s : State) : Host.Outcome State Fault Refusal :=
  live (fun s => s.takeLampStyle tag index e) s

/-- WRITE_GROUP_CFG (R111). -/
def execWriteGroupCfg (tag index : U16) (e : GroupEntry) (s : State) : Host.Outcome State Fault Refusal :=
  live (fun s => s.takeGroupCfg tag index e) s

/-- WRITE_CG_CFG (R74). -/
def execWriteCgCfg (tag index : U16) (e : CgEntry) (s : State) : Host.Outcome State Fault Refusal :=
  live (fun s => s.takeCgCfg tag index e) s

/-- WRITE_TONE (R107, R108). -/
def execWriteTone (tag index : U16) (e : ToneEntry) (s : State) : Host.Outcome State Fault Refusal :=
  live (fun s => s.takeTone tag index e) s

/-- WRITE_POLICY_CTRL (R131). -/
def execWritePolicyCtrl (tag index : U16) (e : PolicyCtrlEntry) (s : State) : Host.Outcome State Fault Refusal :=
  live (fun s => s.takePolicyCtrl tag index e) s

/-- WRITE_POLICY_FIXED (R132). -/
def execWritePolicyFixed (tag index : U16) (code : Byte) (s : State) : Host.Outcome State Fault Refusal :=
  live (fun s => s.takePolicyFixed tag index code) s

/-- WRITE_POLICY_RANGE (R133). -/
def execWritePolicyRange (tag index : U16) (e : PolicyRangeEntry) (s : State) : Host.Outcome State Fault Refusal :=
  live (fun s => s.takePolicyRange tag index e) s

/-- WRITE_REC_MODE (R146). -/
def execWriteRecMode (tag index : U16) (mode : Byte) (s : State) : Host.Outcome State Fault Refusal :=
  live (fun s => s.takeRecMode tag index mode) s

/-- READ_STATE (R183). -/
def execReadState (tag : U16) (clear : Bool) (kind : Byte) (index : U16) (s : State) :
    Host.Outcome State Fault Refusal :=
  live (fun s => s.takeReadState tag clear kind index) s

/-- CLEAR_FAULT (R19). -/
def execClearFault (tag line : U16) (s : State) : Host.Outcome State Fault Refusal :=
  live (fun s => s.takeClearFault tag line) s

/-- TRIGGER (R83). -/
def execTrigger (tag : U16) (cg : Byte) (s : State) : Host.Outcome State Fault Refusal :=
  live (fun s => s.takeTrigger tag cg) s

/-- FORCE_RELEASE (R68). -/
def execForceRelease (tag line : U16) (s : State) : Host.Outcome State Fault Refusal :=
  live (fun s => s.takeForceRelease tag line) s

/-- SET_EVENT_MODE (R188). -/
def execSetEventMode (tag : U16) (cls mode : Byte) (s : State) : Host.Outcome State Fault Refusal :=
  live (fun s => s.takeEventMode tag cls mode) s

/-- READ_SUMMARY (R185). -/
def execReadSummary (tag : U16) (cls : Byte) (s : State) : Host.Outcome State Fault Refusal :=
  live (fun s => s.takeSummary tag cls) s

/-- ACK_CLASS (R187). -/
def execAckClass (tag : U16) (cls : Byte) (s : State) : Host.Outcome State Fault Refusal :=
  live (fun s => s.takeAck tag cls) s

/-- SET_LANE_RATIO (R190). -/
def execSetLaneRatio (tag : U16) (ratio : Byte) (s : State) : Host.Outcome State Fault Refusal :=
  live (fun s => s.takeLaneRatio tag ratio) s

/-- HOLD (R192). -/
def execHold (tag : U16) (s : State) : Host.Outcome State Fault Refusal := live (fun s => s.takeHold tag) s

/-- HOLD_RELEASE (R193). -/
def execHoldRelease (tag : U16) (s : State) : Host.Outcome State Fault Refusal := live (fun s => s.takeHoldRelease tag) s

/-- MALFORMED_REQUEST (R180 check 1, R197). -/
def execMalformedRequest (kind : Byte) (tag : U16) (s : State) : Host.Outcome State Fault Refusal :=
  live (fun s => s.takeMalformed kind tag) s

/-- UNKNOWN_TABLE_WRITE (R180 check 3); the table byte has no further bearing. -/
def execUnknownTableWrite (tag : U16) (_table : Byte) (s : State) : Host.Outcome State Fault Refusal :=
  live (fun s => s.takeUnknownTable tag) s

end Sys2Proof.Machine
end

