-- ==== Sys2Proof/Machine/Frames.lean ====
section
/-! DEFINITION. The Link Interface (spec/09): what one frame period sends, stores and takes at the nine ports, and the lane
that divides the management cells (R190). -/

namespace Sys2Proof.Machine

/-! ### Sending (R165, R166, R190) -/

/-- R190: the cell chosen for one outbound cell slot, and MGA after it. -/
def Mga.pick (m : Mga) : Option OutCell × Mga :=
  match m.responses, m.events with
  | r :: rs, [] => (some (.response r), { m with responses := rs, run := min (m.run + 1) m.ratio })
  | r :: rs, e :: es =>
    if m.run < m.ratio then (some (.response r), { m with responses := rs, run := m.run + 1 })
    else (some (.event e), { m with events := es, run := 0 })
  | [], e :: es => (some (.event e), { m with events := es, run := 0 })
  | [], [] => (none, m)

/-- R170, R190: the cells of up to `n` slots, from the first slot onward. -/
def Mga.lane : Nat → Mga → List OutCell × Mga
  | 0, m => ([], m)
  | n + 1, m =>
    match m.pick with
    | (some c, m') => (c :: (Mga.lane n m').1, (Mga.lane n m').2)
    | (none, m') => ([], m')

/-- R168 and R177: the port of the management link. -/
def State.mgmtPort (s : State) : PortNo := ⟨s.lif.mgmtLink.val, by omega⟩

/-- Whether MGA gives cells to LIF: the management link is UP (R176) and INIT is over (R191). -/
def State.laneOpen (s : State) : Bool := decide (s.mga.phase ≠ .init) && s.portUp s.mgmtPort

/-- R165, R166: the start of a frame period: the nine outbound frames carry what the last mix frame gave, the out signals
and lamps as they stand at the end of the period before, and the cells chosen by the lane. The samples and
tags prepared before a line, a position or a recorder port was lost are still sent, one period later, as R90 and R165 have it,
though R166, R168 and the worked sequence of section 9.6 speak of samples 0 from the loss on (DEDUCED,
notes/assumptions/30.md). -/
def State.sendFrames (s : State) : State :=
  let lane := if s.laneOpen then Mga.lane Config.laneSlots s.mga else ([], s.mga)
  { s with
    lif := { s.lif with
      frames := s.lif.frames + 1
      sent :=
        { samples := s.lif.prepared.samples
          outSignals := Vector.ofFn (fun l => s.outSignal l)
          lamps := Vector.ofFn (fun p => s.lampImage p)
          tags := s.lif.prepared.tags
          cells := lane.1 } }
    mga := lane.2 }

/-! ### Alignment (R171) -/

/-- R171: a port judges one inbound marker. -/
def Port.judge (p : Port) (good : Bool) : Port :=
  match p.align, good with
  | .down, true => { align := .aligning, good := 1, miss := 0 }
  | .down, false => p
  | .aligning, true =>
    if 8 ≤ p.good + 1 then { align := .up, good := 8, miss := 0 } else { p with good := p.good + 1, miss := 0 }
  | .aligning, false =>
    if 4 ≤ p.miss + 1 then { align := .down, good := 0, miss := 0 } else { p with good := 0, miss := p.miss + 1 }
  | .up, true => { p with miss := 0 }
  | .up, false =>
    if 4 ≤ p.miss + 1 then { align := .down, good := 0, miss := 0 } else { p with miss := p.miss + 1 }

/-- R177: the cause of a PORT event, by the state entered. -/
def Align.cause : Align → PortCause
  | .aligning => .marker
  | .up => .aligned
  | .down => .lost

/-- Put record `r` at port `n`. -/
def State.setPort (s : State) (n : PortNo) (r : Port) : State :=
  { s with lif := { s.lif with ports := s.lif.ports.set n r } }

/-- R171, R177: port `n` judges its inbound marker, and a change of state raises a PORT event, before the occurrences of what
the change does (DESIGN CHOICE, notes/assumptions/10.md). -/
def State.judgePort (s : State) (n : PortNo) (good : Bool) : State :=
  let old := s.port n
  let new := old.judge good
  let s := s.setPort n new
  if old.align = new.align then s else s.raise (.port n old.align new.align new.align.cause)

/-- R172: whether the frame that port `n` receives with this marker is taken. -/
def State.takes (s : State) (n : PortNo) (good : Bool) : Bool :=
  good && decide (((s.port n).judge good).align = .up)

/-! ### The input store (R167, R168, R172) -/

/-- R168: the three microphone samples of a slot go into the input store with its present indicator, whatever that says. -/
def SlotIn.mics (x : SlotIn) : Mics :=
  { left := x.micLeft, right := x.micRight, speaker := x.micSpeaker, present := x.present }

/-- The samples of a frame period's inbound frames, 0 for each frame that is not taken (R172). A frame that is not taken
brings no indicator, and the present value that LIF keeps stands for it (DEDUCED, notes/assumptions/17.md). -/
def State.storeSamples (s : State) (f : Inbound) : State :=
  { s with lif := { s.lif with
    far := Vector.ofFn (fun l : LineNo =>
      let m : QuadNo := ⟨l.val / 128, by omega⟩
      if s.takes (linePort l) (f.lines[m]).good then ((f.lines[m]).channels[l.val % 128]'(by omega)).sample else 0)
    mics := Vector.ofFn (fun p : PosNo =>
      let m : QuadNo := ⟨p.val / 8, by omega⟩
      if s.takes (posPort p) (f.positions[m]).good then
        SlotIn.mics ((f.positions[m]).slots[p.val % 8]'(by omega))
      else { left := 0, right := 0, speaker := 0, present := s.lif.present[p] }) } }

/-! ### Management cells (R170, R179) -/

/-- R179: MGA takes one request. A command that is no request does nothing here. -/
def State.takeRequest (s : State) (i : Instr) : State :=
  match i with
  | .readEntry tag table index => s.takeReadEntry tag table index
  | .writeLineCfg tag index e => s.takeLineCfg tag index e
  | .writePositionCfg tag index e => s.takePositionCfg tag index e
  | .writeKeyMap tag index e => s.takeKeyMap tag index e
  | .writeSpeakerAssign tag index e => s.takeSpeakerAssign tag index e
  | .writeLampStyle tag index e => s.takeLampStyle tag index e
  | .writeGroupCfg tag index e => s.takeGroupCfg tag index e
  | .writeCgCfg tag index e => s.takeCgCfg tag index e
  | .writeTone tag index e => s.takeTone tag index e
  | .writePolicyCtrl tag index e => s.takePolicyCtrl tag index e
  | .writePolicyFixed tag index code => s.takePolicyFixed tag index code
  | .writePolicyRange tag index e => s.takePolicyRange tag index e
  | .writeRecMode tag index mode => s.takeRecMode tag index mode
  | .readState tag clear kind index => s.takeReadState tag clear kind index
  | .clearFault tag line => s.takeClearFault tag line
  | .trigger tag cg => s.takeTrigger tag cg
  | .forceRelease tag line => s.takeForceRelease tag line
  | .setEventMode tag cls mode => s.takeEventMode tag cls mode
  | .readSummary tag cls => s.takeSummary tag cls
  | .ackClass tag cls => s.takeAck tag cls
  | .setLaneRatio tag ratio => s.takeLaneRatio tag ratio
  | .hold tag => s.takeHold tag
  | .holdRelease tag => s.takeHoldRelease tag
  | .malformedRequest kind tag => s.takeMalformed kind tag
  | .unknownTableWrite tag _ => s.takeUnknownTable tag
  | _ => s

/-- MGA takes the cell of one non-empty slot as a request (R196, R197). -/
def State.takeCell (s : State) (c : List Byte) : State :=
  match requestOf c with
  | some i => s.takeRequest i
  | none => s

/-- R179: MGA takes up to `n` requests from the hand-over, in arrival order. -/
def State.takeHandOver : Nat → State → State
  | 0, s => s
  | n + 1, s =>
    match s.lif.handOver with
    | [] => s
    | c :: cs => State.takeHandOver n (({ s with lif := { s.lif with handOver := cs } }).takeCell c)

/-- R170: the cells of a taken frame of the management link reach MGA by the hand-over, in slot order; on the other line
ports they are not taken. -/
def State.mgmtCells (s : State) (m : QuadNo) (cells : List (List Byte)) : State :=
  if s.lif.mgmtLink = m then
    let cs := cells.filter (fun c => c.headD 0 ≠ 0)
    State.takeHandOver cs.length { s with lif := { s.lif with handOver := cs } }
  else s

/-! ### Line port frames (R167, R173) -/

/-- The line of a channel of a line port (R167). -/
def channelLine (m : QuadNo) (k : Fin 128) : LineNo := ⟨128 * m.val + k.val, by omega⟩

/-- R4: the far signals of a taken frame, in ascending channel. -/
def State.farSignals (s : State) (m : QuadNo) (channels : Vector ChannelIn 128) : State :=
  ((List.finRange 128).filter (fun k => (s.line (channelLine m k)).far ≠ (channels[k]).far)).foldl
    (fun s k => s.farSignal .loss (channelLine m k) (channels[k]).far) s

/-- The port of a line port number, in the order of R177. -/
def lpPort (m : QuadNo) : PortNo := ⟨m.val, by omega⟩

/-- R167, R171 to R173: one frame period at a line port. -/
def State.lineFrame (s : State) (m : QuadNo) (f : LineFrame) : State :=
  let up := s.portUp (lpPort m)
  let taken := s.takes (lpPort m) f.good
  let s := s.judgePort (lpPort m) f.good
  if up && !s.portUp (lpPort m) then s.linePortLost m
  else if taken then (s.farSignals m f.channels).mgmtCells m f.cells
  else s

/-! ### Position port frames (R168, R174) -/

/-- PSC takes one console cell (R34, R199). -/
def State.takeConsole (s : State) (p : PosNo) (c : List Byte) : State :=
  match consoleOf p c with
  | some (.keyDown q k) => s.keyDown q k
  | some (.keyUp q k) => s.keyUp q k
  | some (.hook q h v) => s.hookCell q h v
  | some (.level q e v) => s.levelCell q e v
  | _ => s

/-- Set the present value LIF keeps for a slot (R174). -/
def State.setPresent (s : State) (p : PosNo) (b : Bool) : State :=
  { s with lif := { s.lif with present := s.lif.present.set p b } }

/-- R174: one slot of a taken up frame: the present indicator is compared, then the cells of a present slot pass. -/
def State.slotFrame (s : State) (p : PosNo) (x : SlotIn) : State :=
  let was := s.lif.present[p]
  let s := s.setPresent p x.present
  let s := if x.present && !was then s.goOnline p else if was && !x.present then s.goOffline [p] else s
  if x.present then x.cells.foldl (fun s c => s.takeConsole p c) s else s

/-- The port of a position port number, in the order of R177. -/
def ppPort (m : QuadNo) : PortNo := ⟨4 + m.val, by omega⟩

/-- The position of a slot of a position port (R168). -/
def slotPos (m : QuadNo) (k : Fin 8) : PosNo := ⟨8 * m.val + k.val, by omega⟩

/-- R174: a position port leaves UP: its present values are cleared, and the positions that were present go offline together,
as one change of the port. They are named in ascending number (DESIGN CHOICE, notes/assumptions/10.md). -/
def State.positionPortLost (s : State) (m : QuadNo) : State :=
  let gone := ((List.finRange 8).map (slotPos m)).filter (fun p => s.lif.present[p])
  (gone.foldl (fun s p => s.setPresent p false) s).goOffline gone

/-- R168, R171, R172, R174: one frame period at a position port. -/
def State.positionFrame (s : State) (m : QuadNo) (f : PositionFrame) : State :=
  let up := s.portUp (ppPort m)
  let taken := s.takes (ppPort m) f.good
  let s := s.judgePort (ppPort m) f.good
  if up && !s.portUp (ppPort m) then s.positionPortLost m
  else if taken then (List.finRange 8).foldl (fun s k => s.slotFrame (slotPos m k) f.slots[k]) s
  else s

/-! ### Recorder port frames (R169, R175) -/

/-- R169, R171, R172, R175: one frame period at the recorder port. -/
def State.recorderFrame (s : State) (f : RecorderFrame) : State :=
  let up := s.portUp recPort
  let taken := s.takes recPort f.good
  let s := s.judgePort recPort f.good
  if up && !s.portUp recPort then s.recorderLost
  else if taken then (if up then s else s.recorderBack).readiesIn f.ready
  else s

/-! ### The frame period (R165) -/

/-- The inbound frames of a period, taken port by port in the order of R177 (notes/assumptions/9.md). -/
def State.takeFrames (s : State) (f : Inbound) : State :=
  let s := (List.finRange 4).foldl (fun s m => s.lineFrame m f.lines[m]) s
  let s := (List.finRange 4).foldl (fun s m => s.positionFrame m f.positions[m]) s
  s.recorderFrame f.recorder

/-- R76: every 80th frame period is one cadence step. -/
def State.periodStep (s : State) : State := if s.lif.frames % Config.cadenceFrames = 0 then s.cadenceStep else s

/-- R191: INIT ends at the latest with the 32nd frame period after the release of hard reset. -/
def State.initBound (s : State) : State := if Config.initFrames ≤ s.lif.frames then s.endInit else s

/-- R90, R165: one frame period. The outbound frames leave, the inbound frames' samples are stored, the mix frame is taken
before or after the period's inbound signals and cells as the command says (R91), then the cadence step and the bound on
INIT follow. -/
def State.framePeriod (s : State) (f : Inbound) : State :=
  let s := s.sendFrames.storeSamples f
  let s := if f.mixFirst then s.mixFrame.takeFrames f else (s.takeFrames f).mixFrame
  s.periodStep.initBound

end Sys2Proof.Machine
end

