-- ==== Sys2Proof/Machine/TimeCommands.lean ====
section
/-! DEFINITION. The meanings of the commands that time, pins and the links' frames make: reset, frame periods, cadence
steps, period ends, timer expiries and close counts. An expiry or a period end that cannot occur in the state changes
nothing. -/

namespace Sys2Proof.Machine

/-- HARD_RESET (R176, R191). -/
def execHardReset (msel : QuadNo) (s : State) : Host.Outcome State Fault Refusal := .next (s.hardReset msel)

/-- INIT_END (R191). -/
def execInitEnd (s : State) : Host.Outcome State Fault Refusal := live State.endInit s

/-- FRAME_PERIOD (R165). -/
def execFramePeriod (f : Inbound) (s : State) : Host.Outcome State Fault Refusal := live (fun s => s.framePeriod f) s

/-- CADENCE_STEP (R76, R79). -/
def execCadenceStep (s : State) : Host.Outcome State Fault Refusal := live State.cadenceStep s

/-- GENERATOR_WRAP (R79, R81). -/
def execGeneratorWrap (n : CgNo) (s : State) : Host.Outcome State Fault Refusal := live (fun s => s.wrapGen n) s

/-- ONESHOT_COMPLETION (R82). -/
def execOneshotCompletion (n : CgNo) (s : State) : Host.Outcome State Fault Refusal := live (fun s => s.completeGen n) s

/-- RING_TIMER_EXPIRY (R10). -/
def execRingTimerExpiry (l : LineNo) (s : State) : Host.Outcome State Fault Refusal := live (fun s => s.ringExpiry l) s

/-- ANSWER_TIMER_EXPIRY (R12). -/
def execAnswerTimerExpiry (l : LineNo) (s : State) : Host.Outcome State Fault Refusal :=
  live (fun s => s.answerExpiry l) s

/-- HANG_TIMER_EXPIRY (R11). -/
def execHangTimerExpiry (l : LineNo) (s : State) : Host.Outcome State Fault Refusal := live (fun s => s.hangExpiry l) s

/-- GUARD_TIMER_EXPIRY (R19). -/
def execGuardTimerExpiry (l : LineNo) (s : State) : Host.Outcome State Fault Refusal :=
  live (fun s => s.guardExpiry l) s

/-- DENIAL_EXPIRY (R43). -/
def execDenialExpiry (p : PosNo) (s : State) : Host.Outcome State Fault Refusal := live (fun s => s.endDenial p) s

/-- TALK_TIMEOUT (R122). -/
def execTalkTimeout (g : GroupNo) (s : State) : Host.Outcome State Fault Refusal :=
  live (fun s => if s.running then s.talkTimeout g else s) s

/-- CLOSE_COUNT_EXPIRY (R159). -/
def execCloseCountExpiry (c : ChanNo) (s : State) : Host.Outcome State Fault Refusal :=
  live (fun s => if s.running then s.closeExpiry c else s) s

/-- RST_LOW (R194). -/
def execRstLow (s : State) : Host.Outcome State Fault Refusal := .next s.resetLow

end Sys2Proof.Machine
end

