-- ==== Sys2Proof/Machine/Dispatch.lean ====
section
/-! DEFINITION. The dispatch: one arm for each row of spec/opcode_table.json, in the table's order. -/

namespace Sys2Proof.Machine

def exec (i : Instr) (s : State) : Host.Outcome State Fault Refusal :=
  match i with
  | .hardReset msel => Sys2Proof.Machine.execHardReset msel s
  | .initEnd => Sys2Proof.Machine.execInitEnd s
  | .framePeriod inbound => Sys2Proof.Machine.execFramePeriod inbound s
  | .cadenceStep => Sys2Proof.Machine.execCadenceStep s
  | .generatorWrap cg => Sys2Proof.Machine.execGeneratorWrap cg s
  | .oneshotCompletion cg => Sys2Proof.Machine.execOneshotCompletion cg s
  | .ringTimerExpiry line => Sys2Proof.Machine.execRingTimerExpiry line s
  | .answerTimerExpiry line => Sys2Proof.Machine.execAnswerTimerExpiry line s
  | .hangTimerExpiry line => Sys2Proof.Machine.execHangTimerExpiry line s
  | .guardTimerExpiry line => Sys2Proof.Machine.execGuardTimerExpiry line s
  | .denialExpiry pos => Sys2Proof.Machine.execDenialExpiry pos s
  | .talkTimeout group => Sys2Proof.Machine.execTalkTimeout group s
  | .closeCountExpiry chan => Sys2Proof.Machine.execCloseCountExpiry chan s
  | .keyDown pos key => Sys2Proof.Machine.execKeyDown pos key s
  | .keyUp pos key => Sys2Proof.Machine.execKeyUp pos key s
  | .hook pos handset hook => Sys2Proof.Machine.execHook pos handset hook s
  | .level pos endpoint volume => Sys2Proof.Machine.execLevel pos endpoint volume s
  | .lineRequest pos handset line key => Sys2Proof.Machine.execLineRequest pos handset line key s
  | .releaseRequest pos handset key => Sys2Proof.Machine.execReleaseRequest pos handset key s
  | .hookRelease pos handset => Sys2Proof.Machine.execHookRelease pos handset s
  | .holdRequest pos handset key => Sys2Proof.Machine.execHoldRequest pos handset key s
  | .privacyToggle pos handset key => Sys2Proof.Machine.execPrivacyToggle pos handset key s
  | .speakerTalkSet pos spk talk => Sys2Proof.Machine.execSpeakerTalkSet pos spk talk s
  | .ringRequest line => Sys2Proof.Machine.execRingRequest line s
  | .demandToggle line => Sys2Proof.Machine.execDemandToggle line s
  | .talkRequest pos group cls key => Sys2Proof.Machine.execTalkRequest pos group cls key s
  | .talkRelease pos group => Sys2Proof.Machine.execTalkRelease pos group s
  | .readEntry tag table index => Sys2Proof.Machine.execReadEntry tag table index s
  | .writeLineCfg tag index entry => Sys2Proof.Machine.execWriteLineCfg tag index entry s
  | .writePositionCfg tag index entry => Sys2Proof.Machine.execWritePositionCfg tag index entry s
  | .writeKeyMap tag index entry => Sys2Proof.Machine.execWriteKeyMap tag index entry s
  | .writeSpeakerAssign tag index entry => Sys2Proof.Machine.execWriteSpeakerAssign tag index entry s
  | .writeLampStyle tag index entry => Sys2Proof.Machine.execWriteLampStyle tag index entry s
  | .writeGroupCfg tag index entry => Sys2Proof.Machine.execWriteGroupCfg tag index entry s
  | .writeCgCfg tag index entry => Sys2Proof.Machine.execWriteCgCfg tag index entry s
  | .writeTone tag index entry => Sys2Proof.Machine.execWriteTone tag index entry s
  | .writePolicyCtrl tag index entry => Sys2Proof.Machine.execWritePolicyCtrl tag index entry s
  | .writePolicyFixed tag index code => Sys2Proof.Machine.execWritePolicyFixed tag index code s
  | .writePolicyRange tag index entry => Sys2Proof.Machine.execWritePolicyRange tag index entry s
  | .writeRecMode tag index mode => Sys2Proof.Machine.execWriteRecMode tag index mode s
  | .readState tag clear kind index => Sys2Proof.Machine.execReadState tag clear kind index s
  | .clearFault tag line => Sys2Proof.Machine.execClearFault tag line s
  | .trigger tag cg => Sys2Proof.Machine.execTrigger tag cg s
  | .forceRelease tag line => Sys2Proof.Machine.execForceRelease tag line s
  | .setEventMode tag cls mode => Sys2Proof.Machine.execSetEventMode tag cls mode s
  | .readSummary tag cls => Sys2Proof.Machine.execReadSummary tag cls s
  | .ackClass tag cls => Sys2Proof.Machine.execAckClass tag cls s
  | .setLaneRatio tag ratio => Sys2Proof.Machine.execSetLaneRatio tag ratio s
  | .hold tag => Sys2Proof.Machine.execHold tag s
  | .holdRelease tag => Sys2Proof.Machine.execHoldRelease tag s
  | .rstLow => Sys2Proof.Machine.execRstLow s
  | .malformedRequest kind tag => Sys2Proof.Machine.execMalformedRequest kind tag s
  | .unknownTableWrite tag table => Sys2Proof.Machine.execUnknownTableWrite tag table s

end Sys2Proof.Machine
end

