-- ==== Sys2Proof/Machine/Step.lean ====
section
/-! DEFINITION. One step of the part: the command at the front of the queue, taken with the queue's rest. -/

namespace Sys2Proof.Machine

/-- A step takes the command at the front of the queue. On an empty queue the block idles (DESIGN CHOICE,
notes/assumptions/2.md): time passes in it only by the commands FRAME_PERIOD and CADENCE_STEP. -/
def step (s : State) : Host.Outcome State Fault Refusal :=
  match s.pending with
  | [] => .next s
  | c :: rest => exec c { s with pending := rest }

/-- The state with the command that a table word spells put at the front of its queue; unchanged where the word spells none,
which is every word, since the table gives no row any bits. -/
def State.withFetchWord (s : State) (nbits w : Nat) : State :=
  match decodeTableWord nbits w with
  | some i => { s with pending := i :: s.pending }
  | none => s

end Sys2Proof.Machine
end

