-- ==== Sys2Proof/Safety.lean ====
section
/-! DEFINITION. What counts as a safe state of the part: the bounds and laws that the rules say its tables keep, whatever
commands arrive; and the conditions on a state under which the statements say what a command does. -/

namespace Sys2Proof.Machine

/-! ### Laws of the device -/

/-- The bounds of MGA's queues (R181, R189). -/
def State.queuesBounded (s : State) : Prop :=
  s.mga.responses.length ≤ Config.responseRoom ∧ s.mga.events.length ≤ Config.eventRoom

/-- R190: the lane ratio is 1–8 and the run count stays within it. -/
def State.laneBounded (s : State) : Prop := 1 ≤ s.mga.ratio ∧ s.mga.ratio ≤ 8 ∧ s.mga.run ≤ s.mga.ratio

/-- R185: the counts of the class summaries stop at 65535. -/
def State.countsBounded (s : State) : Prop := ∀ c : EventClass, (s.mga.cls c).count ≤ Config.countMax

/-- R186, R188: SYSTEM is in mode EACH always. -/
def State.systemEach (s : State) : Prop := (s.mga.cls .system).mode = .each

/-- What a run keeps at MGA: the bounds of its queues, of the lane and of the summaries, and the mode of SYSTEM. -/
def State.mgaSafe (s : State) : Prop := s.queuesBounded ∧ s.laneBounded ∧ s.countsBounded ∧ s.systemEach

/-- R8: the DISABLED lines are those of kind UNUSED. -/
def State.disabledIsUnused (s : State) : Prop :=
  ∀ l : LineNo, (s.line l).state = .disabled ↔ (s.line l).cfg.kind = .unused

/-- R51: every unheld handset place and every speaker place carries at most one connection, and a speaker place carries one
only on the line that its assignment names; a line has at most 4 handset connections and at most 16 speaker connections,
for at most 16 assignments name it (R32); a line in FAULT or DISABLED has none; a position has at most one HANDSET
connection on a line, and at most 8 HOLD entries. -/
def State.connectionsLawful (s : State) : Prop :=
  s.cxm.conns.Pairwise (fun c d => c.pos = d.pos → c.place = d.place → c.place = .hold) ∧
  s.cxm.conns.Pairwise
    (fun c d => c.pos = d.pos → c.line = d.line → c.place.isHandset = true → d.place.isHandset = false) ∧
  (∀ c ∈ s.cxm.conns, ∀ k : SpkNo, c.place = .spk k → s.assign c.pos k = .line c.line) ∧
  (∀ l : LineNo, (s.bridge l).length ≤ Config.bridgeRoom ∧ (s.monitors l).length ≤ Config.assignRoom ∧
    s.assignments l ≤ Config.assignRoom) ∧
  (∀ l : LineNo, (s.line l).state = .fault ∨ (s.line l).state = .disabled → s.lineConns l = []) ∧
  (∀ p : PosNo, s.holdSlots p ≤ Config.holdRoom)

/-- R57: a line whose privacy flag is set has exactly one handset connection, whose position holds the privacy. -/
def State.privacyLawful (s : State) : Prop := ∀ l : LineNo, s.cxm.privacy[l] = true → (s.bridge l).length = 1

/-- R111 to R113: a talker set holds no more entries than its talker_limit, which is 1–4; a position appears at most once
across a group's talker set and wait queue; a wait queue is in class order; the wait entries of all groups together never
exceed 64. -/
def State.groupsLawful (s : State) : Prop :=
  (∀ g : GroupNo,
    ((s.group g).talkers.length ≤ (s.group g).cfg.talkerLimit ∧
      1 ≤ (s.group g).cfg.talkerLimit ∧ (s.group g).cfg.talkerLimit ≤ 4) ∧
    (((s.group g).talkers ++ (s.group g).waits).map (fun e => e.pos)).Nodup ∧
    (s.group g).waits.Pairwise (fun a b => classRank b.cls ≤ classRank a.cls)) ∧
  s.poolUsed ≤ Config.poolSize

/-- R171: a port's counts stay in their ranges; a port that is UP has good count 8, and one that is DOWN has both counts 0. -/
def Port.wellFormed (p : Port) : Prop :=
  p.good ≤ 8 ∧ p.miss ≤ 3 ∧ (p.align = .up → p.good = 8) ∧ (p.align = .down → p.good = 0 ∧ p.miss = 0)

/-- R73, R80: the pending and the active copies of a generator are in range, and its phase is below its active period. -/
def Gen.wellFormed (g : Gen) : Prop :=
  1 ≤ g.pending.period ∧ g.pending.period ≤ 1000 ∧ g.pending.rise ≤ 1000 ∧ g.pending.fall ≤ 1000 ∧
  g.active.period ≤ 1000 ∧ g.active.rise ≤ 1000 ∧ g.active.fall ≤ 1000 ∧ g.phase < g.active.period

/-- The generator that `k` links of stored sources lead to from generator `n`, if there are so many. -/
def State.follow (s : State) : Nat → CgNo → Option CgNo
  | 0, n => some n
  | k + 1, n => match (s.gen n).source with
    | some m => State.follow s k m
    | none => none

/-- R74: following sources from any generator ends, after at most fifteen links, at a generator with source none. -/
def State.sourcesEnd (s : State) : Prop := ∀ n : CgNo, s.follow 16 n = none

/-- R79: the generators that have a period end in a cadence step: those that wrap or complete in it, and the FOLLOW
generators that the period end of their source syncs. -/
inductive State.EndsAt (s : State) : CgNo → Prop where
  | wrap (n : CgNo) (on : (s.gen n).enable = true) (runs : (s.gen n).running = true)
      (last : (s.gen n).active.period ≤ (s.gen n).phase + 1) : State.EndsAt s n
  | sync (n m : CgNo) (on : (s.gen n).enable = true) (follows : (s.gen n).mode = .follow)
      (source : (s.gen n).source = some m) (ends : State.EndsAt s m) : State.EndsAt s n

/-- R107, R108: a tone source's length and level are in range, and its read index lies within its loop. -/
def Tone.wellFormed (t : Tone) : Prop :=
  8 ≤ t.length ∧ t.length ≤ 256 ∧ t.level ≤ Config.gainMax ∧ t.index < t.length

/-- What the ports, the generators and the mixer keep in range (R73, R80, R106 to R108, R171). -/
def State.rangesKept (s : State) : Prop :=
  (∀ n : PortNo, (s.port n).wellFormed) ∧ (∀ n : CgNo, (s.gen n).wellFormed) ∧
  (∀ t : ToneNo, (s.mix.tones[t]).wellFormed) ∧ (∀ i : OutNo, s.mix.clips[i] ≤ Config.countMax)

/-- R7: the totals LNC keeps for a line are those of the connection table. -/
def State.totalsReported (s : State) : Prop := ∀ l : LineNo, (s.line l).totals = s.totalsNow l

/-- R139 to R142: the kept need of every target is the need that its policy gives it. -/
def State.needsSettled (s : State) : Prop := ∀ t : Target, s.keptNeed t = s.needNow t

/-- The channels of the recorder that a target is bound to (R147). -/
def State.boundChans (s : State) (t : Target) : List ChanNo :=
  (List.finRange 128).filter (fun c => (s.chan c).state.isBound && decide ((s.chan c).target = some t))

/-- The entries of the record wait list that name a target (R160). -/
def State.waitsOf (s : State) (t : Target) : List RecWait := s.rcu.waiting.filter (fun e => e.target = t)

/-- R147, R151, R152, R160: a target with a need is bound to exactly one channel or waits exactly once, and any other to
nothing and nowhere; a waiting target waits at the rank of its need; a channel has a target unless it is STOPPED; the
channels outside the recorder mode are STOPPED; and while the recorder port is UP no target waits beside a STOPPED
channel. -/
def State.recordersLawful (s : State) : Prop :=
  (∀ t : Target, (s.boundChans t).length + (s.waitsOf t).length = if s.keptNeed t = .none then 0 else 1) ∧
  (∀ e ∈ s.rcu.waiting, e.rank.need = s.keptNeed e.target) ∧
  (∀ c : ChanNo, (s.chan c).target = none ↔ (s.chan c).state = .stopped) ∧
  (∀ c : ChanNo, s.rcu.mode.channels ≤ c.val → (s.chan c).state = .stopped) ∧
  (s.portUp recPort = true → s.rcu.waiting ≠ [] → s.lowestStopped = none)

/-- R25: a line while the switching blocks are held. -/
def LineRec.quiet (r : LineRec) : Prop :=
  (r.state = .disabled ∨ r.state = .idle) ∧ r.ring = .stopped ∧ r.answer = .stopped ∧ r.hang = .stopped ∧
  r.guard = .stopped ∧ r.faultClear = false ∧ r.ringPending = none

/-- R25, R49, R72, R88, R110, R130, R145, R163: while INIT runs and while the switching blocks are held there is no call,
no connection, no talk, no need and no recording, and the generators and tone sources stand at their starts. -/
def State.quietUnlessRunning (s : State) : Prop :=
  s.mga.phase ≠ .running →
    (∀ l : LineNo, (s.line l).quiet ∧ s.cxm.privacy[l] = false ∧ s.demand l = false) ∧ s.cxm.conns = [] ∧
    (∀ p : PosNo, (s.position p).pressed = [] ∧ (s.position p).denial = none) ∧
    (∀ n : CgNo, (s.gen n).running = false ∧ (s.gen n).phase = 0) ∧ (∀ t : ToneNo, (s.mix.tones[t]).index = 0) ∧
    (∀ g : GroupNo, (s.group g).talkers = [] ∧ (s.group g).waits = [] ∧ (s.group g).marks = []) ∧
    (∀ t : Target, s.keptNeed t = .none) ∧ s.rcu.waiting = [] ∧
    (∀ c : ChanNo, (s.chan c).state = .stopped ∧ (s.chan c).target = none ∧ (s.chan c).closeCount = 0)

/-! ### Talk and recording -/

/-- R117, R138: whether the policy that a group resolves to with the positions `ps` as its talkers is MANDATORY. -/
def State.mandatoryWith (s : State) (g : GroupNo) (ps : List PosNo) : Bool :=
  ps.any fun p => decide ((s.group g).cfg.recordCode.combine (s.position p).cfg.recordMode = .mandatory)

/-- R117: whether the recording check of a group with the positions `ps` as its talkers fails: the policy is MANDATORY, the
group is not bound, and no channel is allocatable. -/
def State.checkFails (s : State) (g : GroupNo) (ps : List PosNo) : Bool :=
  s.mandatoryWith g ps && (s.boundChan (.group g)).isNone && s.allocatable.isNone

/-- R121: the talker set and the wait queue that a promotion in group `g` leaves, from the talkers `ts` and the queue: the
walk grants each entry while the set holds fewer than `limit` and the entry's recording check passes, and passes over the
others. A check that binds a channel passes, and so does every later check of the walk. -/
def State.promoted (s : State) (g : GroupNo) (limit : Nat) (ts : List TalkEntry) :
    List TalkEntry → List TalkEntry × List TalkEntry
  | [] => (ts, [])
  | e :: ws =>
    if ts.length < limit ∧ s.checkFails g ((ts ++ [e]).map (fun x => x.pos)) = false then
      State.promoted s g limit (ts ++ [{ e with stamp := s.cdu.clock }]) ws
    else
      let rest := State.promoted s g limit ts ws
      (rest.1, e :: rest.2)

/-- R150: the record of channel `c` after a bind of target `t`, close count as it stood. -/
def State.boundTo (s : State) (c : ChanNo) (t : Target) : Chan :=
  { s.chan c with
    state := if s.chanReady c then .recording else .suspended
    target := some t
    segment := (s.chan c).segment + 1 }

/-! ### Conditions -/

/-- No standing monitor of a line is called for: every place assigned to it belongs to an offline position or carries a
connection (R70). -/
def State.noMonitorDue (s : State) (l : LineNo) : Prop :=
  ∀ (p : PosNo) (c : SpkNo), s.assign p c = .line l → s.online p = false ∨ s.connAt p (.spk c) ≠ none

/-- RST is not low: commands reach the part (R194). -/
def State.awake (s : State) : Prop := s.lif.rstLow = false

/-- The switching blocks are running and commands reach the part. -/
def State.switching (s : State) : Prop := s.awake ∧ s.mga.phase = .running

/-- A request that arrives now is judged: INIT is over and its response has room (R180, R181). -/
def State.serving (s : State) : Prop :=
  s.awake ∧ s.mga.phase ≠ .init ∧ s.mga.responses.length < Config.responseRoom

end Sys2Proof.Machine

/-- Whether the far end's frame of a port is good in a frame period (R171). -/
def Sys2Proof.Inbound.good (f : Sys2Proof.Inbound) (n : Sys2Proof.PortNo) : Bool :=
  if h : n.val < 4 then (f.lines[n.val]).good
  else if h' : n.val < 8 then (f.positions[n.val - 4]'(by omega)).good
  else f.recorder.good
end

