-- ==== Sys2Proof/Certificates/Slice0/Obligations.lean ====
section
/-! DEFINITION. The statements about the part, one `Prop` each, in the order of OBLIGATIONS.json: the step and the laws that
every step keeps, the cells, start-up and the shelf hold, frame periods, time, consoles and connections, talk groups, the
host's requests, and the derived values. A statement about a command gives the next state in full where the rules fix it,
and otherwise names what the command changes and what it leaves. -/

open Sys2Proof Sys2Proof.Machine

/-! ### The step and the laws every step keeps -/

/-- A step takes the command at the front of the queue with the queue's rest. On an empty queue the block idles, which is
the model's choice (notes/assumptions/2.md). -/
def Obligations.StepTakesFrontCommand : Prop :=
  (∀ (s : State) (c : Instr) (rest : List Instr),
    s.pending = c :: rest → step s = exec c { s with pending := rest }) ∧
  ∀ s : State, s.pending = [] → step s = .next s

/-- Every command answers a next state in every state, and no command touches the queue. That the waiting commands stand
outside the part, so that HARD_RESET, RST_LOW and every other command leave them, is the model's choice
(notes/assumptions/3.md). -/
def Obligations.EveryCommandCompletes : Prop :=
  ∀ (c : Instr) (s : State), ∃ t : State, exec c s = .next t ∧ t.pending = s.pending

/-- R181, R185, R189, R190: no command breaks the bounds of MGA's queues, of the lane and of the summaries, and SYSTEM
stays in mode EACH. -/
def Obligations.MgaSafetyKept : Prop := ∀ s t : State, s.mgaSafe → step s = .next t → t.mgaSafe

/-- R8: in every run the DISABLED lines are those of kind UNUSED. -/
def Obligations.DisabledLinesAreUnusedKept : Prop :=
  ∀ s t : State, s.disabledIsUnused → step s = .next t → t.disabledIsUnused

/-- R51, R57: every step keeps the laws of the connection table, in a state in which the DISABLED lines are those of kind
UNUSED; and every step keeps a line whose privacy flag is set to exactly one handset connection. -/
def Obligations.ConnectionLawsKept : Prop :=
  (∀ s t : State, s.disabledIsUnused → s.connectionsLawful → step s = .next t → t.connectionsLawful) ∧
  ∀ s t : State, s.privacyLawful → step s = .next t → t.privacyLawful

/-- R7, R55: after every step LNC's totals are those of the connection table. -/
def Obligations.TotalsFollowConnectionsKept : Prop :=
  ∀ s t : State, s.totalsReported → step s = .next t → t.totalsReported

/-- R111 to R113: every step keeps each talker set within its limit, each position to one entry in a group, each wait queue
in class order, and the wait entries within the pool. -/
def Obligations.GroupLawsKept : Prop := ∀ s t : State, s.groupsLawful → step s = .next t → t.groupsLawful

/-- R139 to R142, R147, R151, R152, R160: after every step the kept need of every target is the need its policy gives it;
and in a state in which nothing runs unless the switching blocks do, every step keeps each target with a need bound to
exactly one channel or waiting exactly once, at the rank of its need, and every other target to nothing; no target waits
beside a STOPPED channel while the recorder port is UP. -/
def Obligations.NeedsSettledKept : Prop :=
  (∀ s t : State, s.needsSettled → step s = .next t → t.needsSettled) ∧
  ∀ s t : State, s.quietUnlessRunning → s.recordersLawful → step s = .next t → t.recordersLawful

/-- R73, R74, R80, R106 to R108, R171: every step keeps the ports' counts, the generators, the tone sources and the clip
counters in range, and the sources of the generators without a cycle. -/
def Obligations.RangesKept : Prop :=
  (∀ s t : State, s.rangesKept → step s = .next t → t.rangesKept) ∧
  ∀ s t : State, s.sourcesEnd → step s = .next t → t.sourcesEnd

/-- R25, R72, R88, R110, R130, R145, R163: nothing starts while the switching blocks are not running. -/
def Obligations.QuietUnlessRunningKept : Prop :=
  ∀ s t : State, s.quietUnlessRunning → step s = .next t → t.quietUnlessRunning

/-- The state right after reset meets every one of these laws. -/
def Obligations.ResetMeetsTheLaws : Prop :=
  State.reset.mgaSafe ∧ State.reset.disabledIsUnused ∧ State.reset.connectionsLawful ∧ State.reset.totalsReported ∧
  State.reset.groupsLawful ∧ State.reset.needsSettled ∧ State.reset.rangesKept ∧ State.reset.quietUnlessRunning ∧
  State.reset.privacyLawful ∧ State.reset.sourcesEnd ∧ State.reset.recordersLawful

/-! ### Cells -/

/-- R196, R197: the cell that spells a well-formed request of the host reads back as that request, with every field at
every value. -/
def Obligations.RequestCellsReadBack : Prop :=
  ∀ i : Instr, i.wellFormed = true → i.isRequest = true → requestOf (encodeRequest i) = some i

/-- R196, R197, R199: cells written out byte by byte from the formats read as the commands they stand for. -/
def Obligations.WrittenCellsRead : Prop :=
  requestOf ([2, 0, 0x12, 0x34, 0, 7, 0, 0, 2, 0x01, 0x05, 1, 0x01, 0x2C, 2] ++ List.replicate 497 0) =
    some (.writeKeyMap 0x1234 0x0105 { action := 1, target := 300, colour := 2 }) ∧
  requestOf ([3, 1, 0xAB, 0xCD, 0, 3, 0, 0, 7, 0x02, 0x6C] ++ List.replicate 501 0) =
    some (.readState 0xABCD true 7 620) ∧
  requestOf ([11, 0, 0, 9] ++ List.replicate 508 0) = some (.hold 9) ∧
  requestOf ([11, 0, 0, 9, 0, 1] ++ List.replicate 506 0) = some (.malformedRequest 11 9) ∧
  requestOf ([10, 0, 0, 9, 0, 1, 0, 1, 4] ++ List.replicate 503 0) = some (.malformedRequest 10 9) ∧
  requestOf ([128, 0, 0, 9] ++ List.replicate 508 0) = some (.malformedRequest 128 9) ∧
  requestOf ([2, 0, 0, 9, 0, 3, 0, 0, 12, 0, 0] ++ List.replicate 501 0) = some (.unknownTableWrite 9 12) ∧
  requestOf (List.replicate 512 0) = none ∧
  (∀ p : PosNo, consoleOf p [1, 47, 0, 0] = some (.keyDown p 47) ∧ consoleOf p [2, 48, 9, 9] = some (.keyUp p 48) ∧
    consoleOf p [3, 1, 1, 0] = some (.hook p 1 1) ∧ consoleOf p [4, 9, 0x40, 0x01] = some (.level p 9 16385) ∧
    consoleOf p [0, 1, 1, 1] = none ∧ consoleOf p [5, 1, 1, 1] = none) ∧
  ∀ nbits w : Nat, decodeTableWord nbits w = none

/-! ### Reset, INIT and the shelf hold -/

/-- R24, R48, R72, R87, R109, R129, R144, R163, R178, R191, R194: the values after hard reset. The MSEL pins name the
management link (R176). -/
def Obligations.HardResetLoadsResetValues : Prop :=
  ∀ (msel : QuadNo) (s : State), ∃ t : State, exec (.hardReset msel) s = .next t ∧
    t.lif.rstLow = false ∧ t.lif.frames = 0 ∧ t.lif.mgmtLink = msel ∧ t.lif.handOver = [] ∧
    (∀ n : PortNo, t.port n = { align := .down, good := 0, miss := 0 }) ∧ (∀ p : PosNo, t.lif.present[p] = false) ∧
    (∀ l : LineNo, t.lif.far[l] = 0) ∧ (∀ p : PosNo, t.lif.mics[p] = { left := 0, right := 0, speaker := 0, present := false }) ∧
    t.mga.phase = .init ∧ t.mga.responses = [] ∧ t.mga.events = [] ∧ t.mga.overrun = false ∧ t.mga.ratio = 4 ∧
    t.mga.run = 0 ∧
    (∀ c : EventClass, t.mga.cls c =
      { mode := if c = .clip then .latched else .each, pending := false, withheld := none, lost := false, objects := []
        miss := false, count := 0 }) ∧
    (∀ l : LineNo, t.line l =
      { cfg := { kind := .unused, privacyDefault := false, rxGain := 16384, txGain := 16384, ringCg := 0, burstCg := 1
                 ringTimeout := 30, answerTimeout := 0, ringHang := 0, faultMode := .follow, faultGuard := 50
                 group := 0 }
        state := .disabled, far := .loss, ringPending := none, faultClear := false, ring := .stopped
        answer := .stopped, hang := .stopped, guard := .stopped, totals := { unheld := 0, held := 0, speaker := 0 } }) ∧
    (∀ l : LineNo, t.outSignal l = .idle ∧ t.cxm.privacy[l] = false ∧ t.share l = .none ∧ t.demand l = false ∧
      t.lineSide l = (.best, .default)) ∧
    (∀ p : PosNo, t.position p =
      { cfg := { recordMode := .normal, talkClass := .normal, autoHold := false, duck := 8192, ringSpeaker := 0
                 ringTone := 0, volumes := Vector.replicate 10 16384 }
        hookLeft := false, hookRight := false, selected := .left, pressed := [], denial := none }) ∧
    (∀ p : PosNo, t.online p = false ∧ t.holdSlots p = 0) ∧
    (∀ (p : PosNo) (k : KeyNo), t.key p k = { action := .none, colour := .green }) ∧
    (∀ (p : PosNo) (c : SpkNo), t.assign p c = .none) ∧
    (∀ i : Fin 16, t.psc.lampStyle[i] = { colour := .fixed .green, pattern := .off }) ∧
    t.cxm.conns = [] ∧ t.cdu.clock = 0 ∧
    (∀ n : CgNo, t.gen n =
      { enable := false, mode := .free, source := none, pending := { period := 100, rise := 0, fall := 50 }
        pair := false, active := { period := 100, rise := 0, fall := 50 }, phase := 0, running := false }) ∧
    (∀ i : OutNo, t.mix.clips[i] = 0) ∧
    (∀ n : ToneNo, t.mix.tones[n] = { length := 8, level := 0, samples := Vector.replicate 256 0, index := 0 }) ∧
    (∀ g : GroupNo, t.group g =
      { cfg := { enabled := false, talkerLimit := 1, maxTalk := 0, groupGain := 16384, legGain := 16384
                 recordCode := .never }
        talkers := [], waits := [], marks := [] }) ∧
    t.poolFree = 64 ∧
    t.prs.tablesEnabled = true ∧ t.prs.fixedEnabled = true ∧ t.prs.defaultCode = .best ∧
    (∀ b : Fin 64, t.prs.fixed[b] = none) ∧
    (∀ r : Fin 8, t.prs.ranges[r] = { enabled := false, code := .best, first := 0, last := 0 }) ∧
    (∀ x : Target, t.keptNeed x = .none) ∧
    t.rcu.mode = .mono ∧ t.rcu.waiting = [] ∧ t.rcu.entryCount = 0 ∧
    (∀ c : ChanNo, t.chan c = { state := .stopped, target := none, segment := 0, closeCount := 0 } ∧
      t.rcu.slotReady[c] = false)

/-- R191: at the end of INIT the phase is HELD and READY is raised, and nothing else changes. A command INIT_END at any
other time, which the part does not make, changes nothing (notes/assumptions/4.md). -/
def Obligations.InitEndRaisesReady : Prop :=
  ∀ s : State, s.awake →
    (s.mga.phase = .init →
      exec .initEnd s = .next { s with mga := ({ s.mga with phase := .held }).take .ready s.cdu.clock }) ∧
    (s.mga.phase ≠ .init → exec .initEnd s = .next s)

/-- R194: RST going low loses the cells of both queues. That the rest of the state stays as it stood while RST is low, and
that no command but RST_LOW and HARD_RESET, its release, acts then, is the model's choice (notes/assumptions/5.md). -/
def Obligations.RstLowLosesCells : Prop :=
  (∀ s : State, exec .rstLow s =
    .next { s with lif := { s.lif with rstLow := true }, mga := { s.mga with responses := [], events := [] } }) ∧
  ∀ (c : Instr) (s : State), s.lif.rstLow = true → (∀ m : QuadNo, c ≠ .hardReset m) → c ≠ .rstLow →
    exec c s = .next s

/-- R25, R49, R67, R72, R88, R110, R130, R145, R163, R192: the shelf hold at every block, the SWITCHING_HELD occurrence
and the response; HOLD while HELD has no effect. -/
def Obligations.HoldStopsTheBlocks : Prop :=
  ∀ (tag : U16) (s : State), s.serving →
    (s.mga.phase = .running →
      exec (.hold tag) s = .next
        { s with
          lnc := { lines := s.lnc.lines.map fun r => { r with
            state := if r.state = .disabled then .disabled else .idle
            ring := .stopped, answer := .stopped, hang := .stopped, guard := .stopped, faultClear := false
            ringPending := none, totals := { unheld := 0, held := 0, speaker := 0 } } }
          psc := { s.psc with positions := s.psc.positions.map fun r => { r with pressed := [], denial := none } }
          cxm := { conns := [], privacy := Vector.replicate 512 false }
          cdu := { s.cdu with gens := s.cdu.gens.map fun g => { g with running := false, phase := 0 } }
          mix := { s.mix with tones := s.mix.tones.map fun r => { r with index := 0 } }
          gtu := { groups := s.gtu.groups.map fun r => { r with talkers := [], waits := [], marks := [] } }
          prs := { s.prs with
            demand := Vector.replicate 512 false, lineNeed := Vector.replicate 512 .none
            groupNeed := Vector.replicate 64 .none }
          rcu := { s.rcu with
            chans := s.rcu.chans.map fun r => { r with state := .stopped, target := none, closeCount := 0 }
            waiting := [] }
          mga := (({ s.mga with phase := .held }).take .switchingHeld s.cdu.clock).respond 11 tag .ok [] }) ∧
    (s.mga.phase = .held → exec (.hold tag) s = .next (s.respond 11 tag .ok []))

/-- R26, R89, R193: hold release, in a held state that the laws of R7 and R25 admit. The generators load and start, every
line in service is evaluated with the standing monitors after it, and the response follows; HOLD_RELEASE while RUNNING has
no effect. -/
def Obligations.HoldReleaseStartsTheBlocks : Prop :=
  ∀ (tag : U16) (s : State), s.serving →
    (s.mga.phase = .held → s.quietUnlessRunning → s.totalsReported → ∃ t : State, exec (.holdRelease tag) s = .next t ∧
      t.mga.phase = .running ∧
      t.mga.responses = s.mga.responses ++
        [{ kind := 12, tag := tag, code := .ok, overrun := s.mga.overrun, data := [] }] ∧
      t.lif = s.lif ∧ t.psc = s.psc ∧ t.mix = s.mix ∧ t.gtu = s.gtu ∧ t.cdu.clock = s.cdu.clock ∧
      (∀ n : CgNo, t.gen n = { s.gen n with
        active := (s.gen n).pending, phase := 0
        running := (s.gen n).enable && decide ((s.gen n).mode ≠ .oneshot) }) ∧
      (∀ l : LineNo, (s.line l).state = .disabled → t.line l = s.line l) ∧
      (∀ l : LineNo, (s.line l).state = .idle →
        (t.line l).cfg = (s.line l).cfg ∧ (t.line l).far = (s.line l).far ∧
        (s.faultCondition l = true →
          (t.line l).state = .fault ∧ (t.line l).guard = .stopped ∧ t.lineConns l = []) ∧
        (s.faultCondition l = false → (s.line l).cfg.kind = .hootLeg →
          (t.line l).state =
            if (s.group (s.line l).cfg.group).cfg.enabled then .active else .idle) ∧
        (s.faultCondition l = false → (s.line l).cfg.kind.isWire = true → (t.lineConns l ≠ []) →
          (t.line l).state = .active) ∧
        (s.faultCondition l = false → (s.line l).cfg.kind.isWire = true → (t.lineConns l = []) →
          ((s.line l).far = .idle → (t.line l).state = .idle) ∧
          ((s.line l).far = .calling ∨ (s.line l).far = .answer →
            (t.line l).state = .ringingIn ∧
            (t.line l).ring = if (s.line l).cfg.ringTimeout = 0 then .stopped
              else .running ((s.line l).cfg.ringTimeout * 100)))) ∧
      (∀ (l : LineNo) (p : PosNo) (c : SpkNo), (s.line l).state = .idle → s.faultCondition l = false →
        s.online p = true → s.assign p c = .line l →
        ({ line := l, pos := p, place := .spk c, talk := false, joined := s.cdu.clock } : Conn) ∈ t.cxm.conns) ∧
      (∀ x ∈ t.cxm.conns, ∃ c : SpkNo, x.place = .spk c ∧ s.assign x.pos c = .line x.line)) ∧
    (s.mga.phase = .running → exec (.holdRelease tag) s = .next (s.respond 12 tag .ok []))

/-! ### Frame periods -/

/-- R5, R12, R16, R44 to R47, R76, R165, R166, R190, R191: what a frame period sends, and the counts it makes: the outbound
frames carry the samples and tags of the last mix frame, the out signals and lamps as they stood, and the cells of the lane;
every 80th period is a cadence step; the 32nd period ends INIT. The out signals are pinned by the table of R5, the expired
answer timer of R12 and the burst of R16. The lamps are pinned: the relation of every key by the rows of R44 and R45, its
style by R46, and all lamps off at an offline position and while the switching blocks are not running. That INIT
ends with exactly the 32nd period rests on notes/assumptions/6.md, and that samples and tags prepared before a HOLD are still
sent after it on notes/assumptions/19.md. That the samples, tags and out signals of the last mix frame and frame period are
sent also in and right after the period in which a line port, a position or the recorder port is lost, where R166, R168 and
section 9.6 have 0 and IDLE, rests on notes/assumptions/30.md. That the FAR_CLEARED relation needs far_signal IDLE, against
the worked sequence of chapter 2, rests on notes/assumptions/18.md. All four are inferences of the model. -/
def Obligations.FramePeriodSendsAndCounts : Prop :=
  (∀ (f : Inbound) (s : State), s.awake → ∃ t : State, exec (.framePeriod f) s = .next t ∧
    t.lif.frames = s.lif.frames + 1 ∧ t.lif.mgmtLink = s.lif.mgmtLink ∧ t.lif.rstLow = false ∧
    t.lif.sent.samples = s.lif.prepared.samples ∧ t.lif.sent.tags = s.lif.prepared.tags ∧
    (∀ l : LineNo, t.lif.sent.outSignals[l] = s.outSignal l) ∧
    (∀ p : PosNo, t.lif.sent.lamps[p] = s.lampImage p) ∧
    (s.mga.phase = .init ∨ s.portUp s.mgmtPort = false → t.lif.sent.cells = []) ∧
    (s.mga.phase ≠ .init → s.portUp s.mgmtPort = true → t.lif.sent.cells = (Mga.lane 4 s.mga).1) ∧
    t.cdu.clock = s.cdu.clock + (if (s.lif.frames + 1) % 80 = 0 then 1 else 0) ∧
    (s.mga.phase = .init → t.mga.phase = if 32 ≤ s.lif.frames + 1 then .held else .init)) ∧
  ([Relation.idle, .ringing, .unanswered, .callingOutMine, .activeMine, .activeOther, .heldMine, .heldOther, .privateOther,
    .fault, .denied, .talking, .talkWaiting, .recordOn, .farCleared, .disabled].map Relation.idx = List.finRange 16) ∧
  (∀ (s : State) (l : LineNo),
    let r := s.line l
    let quiet := r.ringPending = none ∨ ∃ n : CgNo, r.ringPending = some n ∧ s.delivered n = false
    (s.mga.phase ≠ .running → s.outSignal l = .idle) ∧
    (s.mga.phase = .running →
      (∀ n : CgNo, r.ringPending = some n → s.delivered n = true → s.outSignal l = .calling) ∧
      (quiet → r.state = .active ∨ r.state = .held → s.outSignal l = .answer) ∧
      (quiet → r.state = .disabled ∨ r.state = .idle ∨ r.state = .ringingIn ∨ r.state = .unanswered ∨ r.state = .fault →
        s.outSignal l = .idle) ∧
      (r.ringPending = none → r.state = .callingOut →
        (r.answer = .expired → s.outSignal l = .idle) ∧ (r.answer ≠ .expired → s.outSignal l = .calling)))) ∧
  ∀ (s : State) (p : PosNo) (k : KeyNo),
    let key := s.key p k
    let denied := ∃ d : Denial, (s.position p).denial = some d ∧ d.key = k
    (s.mga.phase ≠ .running ∨ s.online p = false → (s.lampImage p)[k] = .off) ∧
    (s.mga.phase = .running → s.online p = true →
      let style := s.psc.lampStyle[(s.relation p k).idx]
      let colour := match style.colour with
        | .fixed c => c
        | .key => key.colour
      (s.lampImage p)[k] = match style.pattern with
        | .off => .off
        | .steady => .lit colour
        | .follow n => if s.delivered n then .lit colour else .off) ∧
    (denied → s.relation p k = .denied) ∧
    (¬ denied →
      (∀ l : LineNo, key.action = .line l →
        let r := s.line l
        let mine := ∃ c ∈ s.cxm.conns, c.line = l ∧ c.pos = p ∧ (c.place = .left ∨ c.place = .right)
        let other := ∃ c ∈ s.cxm.conns, c.line = l ∧ c.pos ≠ p ∧ (c.place = .left ∨ c.place = .right)
        s.relation p k =
          if r.state = .disabled then .disabled
          else if r.state = .fault then .fault
          else if mine ∧ r.state = .callingOut then .callingOutMine
          else if mine ∧ r.state = .active ∧ r.far = .idle then .farCleared
          else if mine then .activeMine
          else if ∃ c ∈ s.cxm.conns, c.line = l ∧ c.pos = p ∧ c.place = .hold then .heldMine
          else if r.state = .ringingIn then .ringing
          else if r.state = .unanswered then .unanswered
          else if (s.bridge l).length = 1 ∧ s.cxm.privacy[l] = true then .privateOther
          else if other ∨ (r.cfg.kind = .hootLeg ∧ r.state = .active) then .activeOther
          else if s.bridge l ≠ [] ∧ ∀ c ∈ s.bridge l, c.place = .hold then .heldOther
          else .idle) ∧
      (∀ g : GroupNo, key.action = .talkGroup g ∨ (∃ c : SpkNo, key.action = .talkSpeaker c ∧ s.assign p c = .group g) →
        s.relation p k =
          if ∃ e ∈ (s.group g).talkers, e.pos = p then .talking
          else if ∃ e ∈ (s.group g).waits, e.pos = p then .talkWaiting
          else .idle) ∧
      (∀ (c : SpkNo) (l : LineNo), key.action = .talkSpeaker c → s.assign p c = .line l →
        (s.connAt p (.spk c) = none → s.relation p k = .idle) ∧
        ∀ x : Conn, s.connAt p (.spk c) = some x → s.relation p k = if x.talk then .talking else .idle) ∧
      (∀ c : SpkNo, key.action = .talkSpeaker c → s.assign p c = .none → s.relation p k = .idle) ∧
      (key.action = .record →
        (s.connAt p (handsetPlace (s.position p).selected) = none → s.relation p k = .idle) ∧
        ∀ x : Conn, s.connAt p (handsetPlace (s.position p).selected) = some x →
          s.relation p k = if s.demand x.line then .recordOn else .idle) ∧
      (key.action = .none ∨ key.action = .release ∨ key.action = .hold ∨ key.action = .ring ∨ key.action = .privacy ∨
        key.action = .host → s.relation p k = .idle))

/-- R4, R9 to R13, R17, R18, R29, R30, R34, R149, R156, R157, R167 to R172, R174, R177, R179: what a frame period takes, and
what follows from it. Every port judges its marker; a frame is taken when its marker is good and its port is then UP; a
taken frame's samples, far signals, present and ready indications are those kept after it, and 0 or the values kept before
stand where no frame is taken. The ports are taken one after another, which is the model's choice (notes/assumptions/9.md),
and so are the two places of the mix frame (notes/assumptions/7.md) and, within a lost position port, the order of its
positions and of connections, talk and OFFLINE (notes/assumptions/10.md). That the cadence step and the bound on INIT close
the period, that the kept present value stands for an untaken frame, and that a leg too raises FAR_CLEARED are the model's
inferences (notes/assumptions/6.md, 17.md, 11.md). A far signal, or the LOSS of a port that leaves UP, moves its line by the
line's state; positions come online and go offline, those of a lost port together; the cells of a taken frame run, in slot
order, as the requests and console cells that they spell; the recorder port's loss, its return and the ready indications
suspend and resume channels. -/
def Obligations.FramePeriodTakesInbound : Prop :=
  (∀ (f : Inbound) (s : State), s.awake → ∃ t : State, exec (.framePeriod f) s = .next t ∧
    (∀ n : PortNo, t.port n = (s.port n).judge (f.good n)) ∧
    (∀ (m : QuadNo) (k : Fin 128),
      let l := channelLine m k
      let taken := f.good (linePort l) = true ∧ t.portUp (linePort l) = true
      t.lif.far[l] = (if taken then ((f.lines[m]).channels[k]).sample else 0) ∧
      (taken → (t.line l).far = ((f.lines[m]).channels[k]).far) ∧
      (s.portUp (linePort l) = true → t.portUp (linePort l) = false → (t.line l).far = .loss) ∧
      (¬ taken → s.portUp (linePort l) = t.portUp (linePort l) → (t.line l).far = (s.line l).far)) ∧
    (∀ (m : QuadNo) (k : Fin 8),
      let p := slotPos m k
      let taken := f.good (posPort p) = true ∧ t.portUp (posPort p) = true
      let slot := (f.positions[m]).slots[k]
      (taken → t.lif.present[p] = slot.present) ∧
      (taken → t.lif.mics[p] =
        { left := slot.micLeft, right := slot.micRight, speaker := slot.micSpeaker, present := slot.present }) ∧
      (¬ taken → t.lif.mics[p] = { left := 0, right := 0, speaker := 0, present := s.lif.present[p] }) ∧
      (s.portUp (posPort p) = true → t.portUp (posPort p) = false → t.lif.present[p] = false) ∧
      (¬ taken → s.portUp (posPort p) = t.portUp (posPort p) → t.lif.present[p] = s.lif.present[p])) ∧
    (∀ i : ChanNo,
      t.rcu.slotReady[i] =
        if f.recorder.good = true ∧ t.portUp recPort = true then f.recorder.ready[i] else s.rcu.slotReady[i])) ∧
  -- the course of a period, and a marker judged
  (∀ (f : Inbound) (s : State), s.awake →
    let begun := s.sendFrames.storeSamples f
    let taken := fun x : State =>
      ((List.finRange 4).foldl (fun y m => y.positionFrame m f.positions[m])
        ((List.finRange 4).foldl (fun y m => y.lineFrame m f.lines[m]) x)).recorderFrame f.recorder
    exec (.framePeriod f) s =
      .next (if f.mixFirst then taken begun.mixFrame else (taken begun).mixFrame).periodStep.initBound) ∧
  (∀ (n : PortNo) (good : Bool) (s : State),
    let old := (s.port n).align
    let new := ((s.port n).judge good).align
    let put := { s with lif := { s.lif with ports := s.lif.ports.set n ((s.port n).judge good) } }
    (old = new → s.judgePort n good = put) ∧
    (old ≠ new → s.judgePort n good = put.raise (.port n old new
      (if new = .aligning then .marker else if new = .up then .aligned else .lost)))) ∧
  -- a line port
  (∀ (m : QuadNo) (x : LineFrame) (s : State),
    let judged := s.judgePort (lpPort m) x.good
    let lost := s.portUp (lpPort m) = true ∧ judged.portUp (lpPort m) = false
    let taken := x.good = true ∧ judged.portUp (lpPort m) = true
    (lost → s.lineFrame m x =
      (List.finRange 128).foldl (fun y k => y.farSignal .port (channelLine m k) .loss) judged) ∧
    (taken → s.lineFrame m x =
      ((List.finRange 128).foldl (fun y k => y.farSignal .loss (channelLine m k) (x.channels[k]).far) judged).mgmtCells
        m x.cells) ∧
    (¬ lost → ¬ taken → s.lineFrame m x = judged)) ∧
  (∀ (cause : LineCause) (l : LineNo) (f : FarSignal) (s : State),
    let r := s.line l
    let x : LineRec := { r with far := f }
    let t := s.farSignal cause l f
    let kept := s.setLine l x
    let entered := fun (new : LineState) (ring : Timer) (burst : Option CgNo) (why : LineCause) =>
      (s.setLine l { x with
        state := new, ring := ring, answer := .stopped, hang := .stopped, guard := .stopped, faultClear := false
        ringPending := burst }).raise (.line l r.state new why)
    (r.far = f → t = s) ∧
    (r.far ≠ f → s.mga.phase ≠ .running ∨ r.state = .disabled → t = kept) ∧
    (r.far ≠ f → s.mga.phase = .running →
      (f = .loss → r.state ≠ .disabled → r.state ≠ .fault →
        (s.lineConns l = [] → t = entered .fault .stopped none cause) ∧
        (t.line l).state = .fault ∧ (t.line l).guard = .stopped ∧ (t.line l).faultClear = false ∧ t.lineConns l = [] ∧
        t.cxm.conns = s.cxm.conns.filter (fun c => c.line ≠ l) ∧ ∀ l' : LineNo, l' ≠ l → t.line l' = s.line l') ∧
      (r.state = .fault →
        (f = .loss → t = s.setLine l { x with
          guard := .stopped, faultClear := if r.cfg.faultMode = .latched then false else r.faultClear }) ∧
        (f ≠ .loss → r.far ≠ .loss → t = kept) ∧
        (r.far = .loss → r.cfg.faultGuard ≠ 0 → t = s.setLine l { x with guard := .running r.cfg.faultGuard }) ∧
        (r.far = .loss → r.cfg.faultGuard = 0 → s.awake →
          exec (.guardTimerExpiry l) (s.setLine l { x with guard := .running 1 }) = .next t)) ∧
      (r.state = .idle → f ≠ .loss →
        (r.cfg.kind.isWire = true → offHook f = true → t = entered .ringingIn
          (if r.cfg.ringTimeout = 0 then .stopped else .running (r.cfg.ringTimeout * 100)) none .farCall) ∧
        (r.cfg.kind.isWire = false ∨ offHook f = false → t = kept)) ∧
      (r.state = .ringingIn ∨ r.state = .unanswered → f ≠ .loss →
        (f = .idle → r.cfg.ringHang = 0 → t = entered .idle .stopped none .abandoned) ∧
        (f = .idle → r.cfg.ringHang ≠ 0 → t = s.setLine l { x with hang := .running (r.cfg.ringHang * 10) }) ∧
        (f ≠ .idle → t = s.setLine l { x with hang := .stopped })) ∧
      (r.state = .callingOut → f ≠ .loss →
        (offHook f = false ∨ r.answer = .expired → t = kept) ∧
        (offHook f = true → r.answer ≠ .expired →
          t = entered (if r.totals.allHeld then .held else .active) .stopped r.ringPending .farAnswer)) ∧
      (r.state = .active ∨ r.state = .held → f ≠ .loss →
        t = if f = .idle then kept.raise (.farCleared l r.state) else kept))) ∧
  -- the cells of the management link and of the consoles
  (∀ (m : QuadNo) (cells : List (List Byte)) (s : State),
    let cs := cells.filter (fun c => c.headD 0 ≠ 0)
    s.mgmtCells m cells = if s.lif.mgmtLink = m
      then State.takeHandOver cs.length { s with lif := { s.lif with handOver := cs } } else s) ∧
  (∀ (n : Nat) (c : List Byte) (cs : List (List Byte)) (s : State), s.lif.handOver = c :: cs →
    State.takeHandOver (n + 1) s =
      State.takeHandOver n (({ s with lif := { s.lif with handOver := cs } }).takeCell c) ∧ State.takeHandOver 0 s = s) ∧
  (∀ (c : List Byte) (i : Instr) (s : State), s.awake → requestOf c = some i → exec i s = .next (s.takeCell c)) ∧
  (∀ (p : PosNo) (c : List Byte) (s : State),
    (∀ i : Instr, s.awake → consoleOf p c = some i → exec i s = .next (s.takeConsole p c)) ∧
    (consoleOf p c = none → s.takeConsole p c = s)) ∧
  -- a position port
  (∀ (m : QuadNo) (x : PositionFrame) (s : State),
    let judged := s.judgePort (ppPort m) x.good
    let lost := s.portUp (ppPort m) = true ∧ judged.portUp (ppPort m) = false
    let taken := x.good = true ∧ judged.portUp (ppPort m) = true
    (lost → s.positionFrame m x =
      ({ judged with lif := { judged.lif with
        present := Vector.ofFn fun p => decide (p.val / 8 ≠ m.val) && s.lif.present[p] } }).goOffline
        (((List.finRange 8).map (slotPos m)).filter fun p => s.lif.present[p])) ∧
    (taken → s.positionFrame m x =
      (List.finRange 8).foldl (fun y k => y.slotFrame (slotPos m k) x.slots[k]) judged) ∧
    (¬ lost → ¬ taken → s.positionFrame m x = judged)) ∧
  (∀ (p : PosNo) (x : SlotIn) (s : State),
    let put := { s with lif := { s.lif with present := s.lif.present.set p x.present } }
    let came := if x.present then put.goOnline p else put.goOffline [p]
    let here := if s.lif.present[p] = x.present then put else came
    s.slotFrame p x = if x.present then x.cells.foldl (fun y c => y.takeConsole p c) here else here) ∧
  (∀ (ps : List PosNo) (s : State),
    let quiet := fun r : PositionRec => { r with hookLeft := false, hookRight := false, pressed := [], denial := none }
    let t := s.goOffline ps
    t.cxm.conns = s.cxm.conns.filter (fun c => c.pos ∉ ps) ∧
    (∀ p : PosNo, t.position p = if p ∈ ps then quiet (s.position p) else s.position p) ∧
    (∀ (g : GroupNo) (p : PosNo), p ∈ ps →
      (t.group g).talks p = false ∧ (t.group g).waitsFor p = false ∧ p ∉ (t.group g).marks) ∧
    (∀ g : GroupNo, (∀ p ∈ ps, (s.group g).talks p = false ∧ (s.group g).waitsFor p = false ∧ p ∉ (s.group g).marks) →
      t.group g = s.group g) ∧
    t.lif = s.lif ∧ t.cdu = s.cdu ∧ t.mix = s.mix ∧
    ((∀ c ∈ s.cxm.conns, c.pos ∉ ps) →
      (∀ g : GroupNo, ∀ p ∈ ps,
        (s.group g).talks p = false ∧ (s.group g).waitsFor p = false ∧ p ∉ (s.group g).marks) →
      t = ps.foldl (fun y p => (y.setPosition p (quiet (y.position p))).raise (.offline p)) s)) ∧
  (∀ (p : PosNo) (s : State),
    let t := s.goOnline p
    let here := (s.setPosition p { s.position p with
      hookLeft := false, hookRight := false, pressed := [], denial := none }).raise (.online p)
    let due := (List.finRange 8).filterMap fun c =>
      match s.assign p c with
      | .line l =>
        if s.mga.phase = .running ∧ s.online p = true ∧ (s.line l).state ≠ .disabled ∧ (s.line l).state ≠ .fault ∧
          (∀ x ∈ s.cxm.conns, x.pos = p → x.place ≠ .spk c)
        then some ({ line := l, pos := p, place := .spk c, talk := false, joined := s.cdu.clock } : Conn) else none
      | _ => none
    (due = [] → t = here) ∧ t.cxm.conns = s.cxm.conns ++ due ∧ t.cxm.privacy = s.cxm.privacy ∧ t.psc = here.psc ∧
    t.lif = s.lif ∧ t.cdu = s.cdu ∧ t.mix = s.mix ∧ t.gtu = s.gtu) ∧
  -- the recorder port
  (∀ (x : RecorderFrame) (s : State),
    let judged := s.judgePort recPort x.good
    let lost := s.portUp recPort = true ∧ judged.portUp recPort = false
    let taken := x.good = true ∧ judged.portUp recPort = true
    (lost → s.recorderFrame x = judged.recorderLost) ∧
    (taken → s.recorderFrame x =
      (if s.portUp recPort then judged else judged.recorderBack).readiesIn x.ready) ∧
    (¬ lost → ¬ taken → s.recorderFrame x = judged)) ∧
  ∀ s : State,
    let inMode := fun c : ChanNo => s.rcu.mode = .mono ∨ c.val < 64
    (s.recorderLost =
        { s with rcu := { s.rcu with chans := s.recorderLost.rcu.chans }, mga := s.recorderLost.mga } ∧
      ∀ c : ChanNo, s.recorderLost.chan c =
        if inMode c ∧ (s.chan c).state = .recording then { s.chan c with state := .suspended } else s.chan c) ∧
    (s.mga.phase ≠ .running → s.recorderBack = s) ∧
    (s.mga.phase = .running → s.rcu.waiting = [] → (∀ g : GroupNo, (s.group g).waits = []) →
      let t := s.recorderBack
      t = { s with rcu := { s.rcu with chans := t.rcu.chans }, mga := t.mga } ∧
      ∀ c : ChanNo, t.chan c =
        if inMode c ∧ (s.chan c).state = .suspended ∧ s.chanReady c = true then { s.chan c with state := .recording }
        else s.chan c) ∧
    ∀ ready : Vector Bool 128,
      let t := s.readiesIn ready
      t = { s with rcu := { s.rcu with chans := t.rcu.chans, slotReady := ready }, mga := t.mga } ∧
      (s.mga.phase ≠ .running → t.rcu.chans = s.rcu.chans) ∧
      (s.mga.phase = .running → ∀ c : ChanNo, inMode c →
        ((s.chan c).state = .recording → s.chanReady c = true → t.chanReady c = false →
          t.chan c = { s.chan c with state := .suspended }) ∧
        ((s.chan c).state = .recording → t.chanReady c = true → t.chan c = s.chan c) ∧
        ((s.chan c).state = .suspended → s.chanReady c = false → t.chanReady c = true → s.portUp recPort = true →
          t.chan c = { s.chan c with state := .recording }) ∧
        ((s.chan c).state = .suspended → s.chanReady c = true ∨ t.chanReady c = false ∨ s.portUp recPort = false →
          t.chan c = s.chan c) ∧
        ((s.chan c).state = .stopped ∨ (s.chan c).state = .closing → t.chan c = s.chan c))

/-! ### Time -/

/-- R16, R76, R77, R79 to R82, R88: one cadence step at the clock and the generators. While the switching blocks are not
running the clock alone counts. While they run, a generator that no period end reaches advances, wraps or completes by
itself; one whose source has a period end in the step, by its own wrap or through any chain of FOLLOW generators, is synced,
or triggered after its own advance; and a line that follows a generator with a period end ends its burst. -/
def Obligations.CadenceStepAdvancesGenerators : Prop :=
  ∀ s : State, s.awake →
    (s.mga.phase ≠ .running →
      exec .cadenceStep s = .next { s with cdu := { s.cdu with clock := s.cdu.clock + 1 } }) ∧
    (s.mga.phase = .running → ∃ t : State, exec .cadenceStep s = .next t ∧
      t.cdu.clock = s.cdu.clock + 1 ∧ t.lif = s.lif ∧ t.mix = s.mix ∧
      ∀ n : CgNo,
        let g := s.gen n
        let ends := g.enable && g.running && decide (g.active.period ≤ g.phase + 1)
        let after : Gen :=
          if ends then { g with active := g.pending, phase := 0, running := decide (g.mode ≠ .oneshot) }
          else if g.enable && g.running then { g with phase := g.phase + 1 }
          else g
        (g.enable = false ∨ g.mode = .free ∨ g.source = none → t.gen n = after) ∧
        (∀ m : CgNo, g.enable = true → g.source = some m →
          (s.gen m).enable = true → (s.gen m).running = true → (s.gen m).active.period ≤ (s.gen m).phase + 1 →
          (g.mode = .follow → t.gen n = { g with active := g.pending, phase := 0 }) ∧
          (g.mode = .oneshot → t.gen n =
            if after.running then after else { after with running := true, phase := 0 })) ∧
        ((∀ m : CgNo, g.source = some m → ¬ s.EndsAt m) → t.gen n = after) ∧
        (∀ m : CgNo, g.enable = true → g.source = some m → s.EndsAt m →
          (g.mode = .follow → t.gen n = { g with active := g.pending, phase := 0 }) ∧
          (g.mode = .oneshot → t.gen n =
            if after.running then after else { after with running := true, phase := 0 })) ∧
        (∀ l : LineNo, (s.line l).ringPending = some n →
          (s.EndsAt n → (t.line l).ringPending = none) ∧
          (¬ s.EndsAt n → (s.line l).anyDue = false → (t.line l).ringPending = some n)))

/-- R6, R10, R11, R12, R19, R43, R122: one cadence step at the line timers, the denial displays and the talk groups. A line
none of whose timers expires counts each running one down; a ring timer that reaches its last step leaves the line
UNANSWERED. A line with one due timer stands after the step as the expiry of that timer leaves it at the clock the step
makes: an answer timer, here with the connections of the line removed and its monitors made again, a hang timer, and a guard
timer. A denial display counts down and ends. A group with no talker past its max_talk is left as it was; one with a talker
past it stands as its timeout leaves it, here for a group whose waiting entries pass their recording checks whatever
channels other targets take. That the blocks take one step in the order clock, generators, line timers, denial displays,
talk timeouts, so that monitors made again and promoted talkers carry the clock the step makes, is the model's choice
(notes/assumptions/8.md). -/
def Obligations.CadenceStepCountsDown : Prop :=
  ∀ s : State, s.switching → ∃ t : State, exec .cadenceStep s = .next t ∧
    (∀ l : LineNo, (s.line l).anyDue = false →
      (t.line l).state = (s.line l).state ∧ (t.line l).cfg = (s.line l).cfg ∧ (t.line l).far = (s.line l).far ∧
      (t.line l).faultClear = (s.line l).faultClear ∧ (t.line l).totals = (s.line l).totals ∧
      (t.line l).ring = (s.line l).ring.tick ∧ (t.line l).answer = (s.line l).answer.tick ∧
      (t.line l).hang = (s.line l).hang.tick ∧ (t.line l).guard = (s.line l).guard.tick) ∧
    (∀ l : LineNo, (s.line l).state = .ringingIn → (s.line l).ring = .running 1 → (s.line l).answer = .stopped →
      (s.line l).hang.due = false → (s.line l).guard = .stopped →
      (t.line l).state = .unanswered ∧ (t.line l).ring = .stopped ∧ (t.line l).hang = (s.line l).hang.tick) ∧
    (let stepped := { s with cdu := { s.cdu with clock := s.cdu.clock + 1 } }
     (∀ l : LineNo, s.connectionsLawful → s.totalsReported → (s.line l).state = .callingOut → (s.line l).cfg.kind = .ard →
       s.lineConns l ≠ [] → (s.line l).answer.due = true → (s.line l).ring.due = false → (s.line l).hang.due = false →
       (s.line l).guard.due = false →
       ∃ u : State, exec (.answerTimerExpiry l) stepped = .next u ∧
         t.line l = u.line l ∧ t.lineConns l = u.lineConns l ∧ t.cxm.privacy[l] = u.cxm.privacy[l] ∧
         t.demand l = u.demand l) ∧
     (∀ l : LineNo, (s.line l).state = .ringingIn ∨ (s.line l).state = .unanswered → (s.line l).hang.due = true →
       (s.line l).ring.due = false → (s.line l).answer.due = false → (s.line l).guard.due = false →
       ∃ u : State, exec (.hangTimerExpiry l) stepped = .next u ∧ t.line l = u.line l ∧ (u.line l).state = .idle) ∧
     (∀ l : LineNo, s.connectionsLawful → (s.line l).state = .fault → (s.line l).guard.due = true →
       (s.line l).ring = .stopped → (s.line l).answer = .stopped → (s.line l).hang = .stopped →
       (s.line l).ringPending = none →
       ∃ u : State, exec (.guardTimerExpiry l) stepped = .next u ∧
         t.line l = u.line l ∧ t.lineConns l = u.lineConns l ∧
         ((s.line l).cfg.faultMode = .latched → (s.line l).faultClear = false → (u.line l).guard = .expired) ∧
         ((s.line l).cfg.faultMode = .follow ∨ (s.line l).faultClear = true → (u.line l).state ≠ .fault)) ∧
     (∀ (g : GroupNo) (e : TalkEntry), (s.group g).cfg.maxTalk ≠ 0 → e ∈ (s.group g).talkers →
       (s.group g).cfg.maxTalk * 100 ≤ (s.cdu.clock + 1 - e.stamp).toNat →
       (s.group g).waits = [] ∨ (s.boundChan (.group g)).isSome = true ∨
         (∀ p : PosNo, s.mandatoryWith g [p] = false) →
       ∃ u : State, exec (.talkTimeout g) stepped = .next u ∧ t.group g = u.group g ∧
         e ∉ (u.group g).talkers ∧ e.pos ∈ (u.group g).marks)) ∧
    (∀ p : PosNo,
      (∀ d : Denial, (s.position p).denial = some d →
        (t.position p).denial = if d.left ≤ 1 then none else some { d with left := d.left - 1 }) ∧
      ((s.position p).denial = none → (t.position p).denial = none) ∧
      (t.position p).cfg = (s.position p).cfg ∧ (t.position p).pressed = (s.position p).pressed) ∧
    (∀ g : GroupNo,
      ((s.group g).cfg.maxTalk = 0 ∨
        ∀ e ∈ (s.group g).talkers, (s.cdu.clock + 1 - e.stamp).toNat < (s.group g).cfg.maxTalk * 100) →
      t.group g = s.group g) ∧
    (∀ n : Nat, Timer.tick (.running (n + 2)) = .running (n + 1)) ∧ Timer.tick .stopped = .stopped ∧
    Timer.tick .expired = .expired

/-- R16, R79, R80, R81: the wrap of a FREE or FOLLOW generator loads its copies, syncs each FOLLOW generator that names it,
starts each waiting ONESHOT generator that names it, and ends the bursts of the lines that follow it; nothing else changes
but generators and bursts. That a wrap given as a command takes place at any phase, and that one which cannot occur changes
nothing, is the model's choice (notes/assumptions/4.md). -/
def Obligations.GeneratorWrapPassesOn : Prop :=
  ∀ (n : CgNo) (s : State), s.switching →
    ((s.gen n).enable = true → (s.gen n).running = true → (s.gen n).mode ≠ .oneshot →
      ∃ t : State, exec (.generatorWrap n) s = .next t ∧
        t = { s with cdu := { s.cdu with gens := t.cdu.gens }, lnc := t.lnc } ∧
        t.gen n = { s.gen n with active := (s.gen n).pending, phase := 0 } ∧
        (∀ m : CgNo, m ≠ n → (s.gen m).enable = true → (s.gen m).source = some n →
          ((s.gen m).mode = .follow → t.gen m = { s.gen m with active := (s.gen m).pending, phase := 0 }) ∧
          ((s.gen m).mode = .oneshot → t.gen m =
            if (s.gen m).running then s.gen m else { s.gen m with running := true, phase := 0 })) ∧
        (∀ m : CgNo, m ≠ n → (s.gen m).enable = false ∨ (s.gen m).mode = .free ∨ (s.gen m).source = none →
          t.gen m = s.gen m) ∧
        (∀ l : LineNo, (s.line l).ringPending = some n → t.line l = { s.line l with ringPending := none }) ∧
        (∀ l : LineNo, (s.line l).ringPending = none → t.line l = s.line l)) ∧
    ((s.gen n).enable = false ∨ (s.gen n).running = false ∨ (s.gen n).mode = .oneshot →
      exec (.generatorWrap n) s = .next s)

/-- R16, R79, R82: the completion of a running ONESHOT generator whose sources form no cycle (R74) stops it at phase 0 with
its copies loaded, and passes on as a period end. That a completion given as a command takes place at any phase, and that
one which cannot occur changes nothing, is the model's choice (notes/assumptions/4.md). -/
def Obligations.OneshotCompletionPassesOn : Prop :=
  ∀ (n : CgNo) (s : State), s.switching →
    ((s.gen n).enable = true → (s.gen n).running = true → (s.gen n).mode = .oneshot →
      s.closesCycle n (s.gen n).source = false →
      ∃ t : State, exec (.oneshotCompletion n) s = .next t ∧
        t = { s with cdu := { s.cdu with gens := t.cdu.gens }, lnc := t.lnc } ∧
        t.gen n = { s.gen n with active := (s.gen n).pending, phase := 0, running := false } ∧
        (∀ m : CgNo, m ≠ n → (s.gen m).enable = true → (s.gen m).source = some n →
          ((s.gen m).mode = .follow → t.gen m = { s.gen m with active := (s.gen m).pending, phase := 0 }) ∧
          ((s.gen m).mode = .oneshot → t.gen m =
            if (s.gen m).running then s.gen m else { s.gen m with running := true, phase := 0 })) ∧
        (∀ l : LineNo, (s.line l).ringPending = some n → t.line l = { s.line l with ringPending := none }) ∧
        (∀ l : LineNo, (s.line l).ringPending = none → t.line l = s.line l)) ∧
    ((s.gen n).enable = false ∨ (s.gen n).running = false ∨ (s.gen n).mode ≠ .oneshot →
      exec (.oneshotCompletion n) s = .next s)

/-- R10, R11, R43: the expiry of a ring timer, of a hang timer and of a denial display. That an expiry given as a command
takes place at any remaining count, and that one which cannot occur changes nothing, is the model's choice
(notes/assumptions/4.md). -/
def Obligations.RingHangAndDenialExpiry : Prop :=
  ∀ s : State, s.switching →
    (∀ (l : LineNo) (k : Nat), (s.line l).state = .ringingIn → (s.line l).ring = .running k →
      exec (.ringTimerExpiry l) s = .next
        ((s.setLine l { s.line l with
          state := .unanswered, ring := .stopped, answer := .stopped, guard := .stopped, faultClear := false
          ringPending := none }).raise (.line l .ringingIn .unanswered .ringTimeout))) ∧
    (∀ l : LineNo, (s.line l).state ≠ .ringingIn ∨ (∀ k : Nat, (s.line l).ring ≠ .running k) →
      exec (.ringTimerExpiry l) s = .next s) ∧
    (∀ (l : LineNo) (k : Nat), (s.line l).state = .ringingIn ∨ (s.line l).state = .unanswered →
      (s.line l).hang = .running k →
      exec (.hangTimerExpiry l) s = .next
        ((s.setLine l { s.line l with
          state := .idle, ring := .stopped, answer := .stopped, hang := .stopped, guard := .stopped
          faultClear := false, ringPending := none }).raise (.line l (s.line l).state .idle .abandoned))) ∧
    (∀ l : LineNo, ((s.line l).state ≠ .ringingIn ∧ (s.line l).state ≠ .unanswered) ∨
      (∀ k : Nat, (s.line l).hang ≠ .running k) → exec (.hangTimerExpiry l) s = .next s) ∧
    (∀ p : PosNo, exec (.denialExpiry p) s = .next (s.setPosition p { s.position p with denial := none }))

/-- R12, R13, R67, R70: the answer timer of a calling ARD line expires: its connections and its privacy go, its standing
monitors are made again, and it ends IDLE or RINGING_IN, or ACTIVE when a monitor stands. In a state that meets the laws of
the connection table, every online position's assignment to the line stands as a monitor that joined at the present clock.
That an expiry given as a command takes place at any remaining count, and that one which cannot occur changes nothing, is the
model's choice (notes/assumptions/4.md). -/
def Obligations.AnswerExpiryClearsTheCall : Prop :=
  ∀ (l : LineNo) (s : State), s.switching →
    (∀ k : Nat, (s.line l).state = .callingOut → (s.line l).answer = .running k → (s.line l).cfg.kind = .ard →
      s.totalsReported → s.lineConns l ≠ [] →
      ∃ t : State, exec (.answerTimerExpiry l) s = .next t ∧
        t.bridge l = [] ∧ t.cxm.conns.filter (fun c => c.line ≠ l) = s.cxm.conns.filter (fun c => c.line ≠ l) ∧
        (∀ x ∈ t.lineConns l, s.online x.pos = true ∧ x.joined = s.cdu.clock ∧
          ∃ c : SpkNo, x.place = .spk c ∧ s.assign x.pos c = .line l ∧ x.talk = false) ∧
        (s.connectionsLawful → ∀ (p : PosNo) (c : SpkNo), s.assign p c = .line l → s.online p = true →
          ({ line := l, pos := p, place := .spk c, talk := false, joined := s.cdu.clock } : Conn) ∈ t.cxm.conns) ∧
        (s.bridge l ≠ [] → t.cxm.privacy[l] = false) ∧
        (∀ l' : LineNo, l' ≠ l → t.line l' = s.line l' ∧ t.cxm.privacy[l'] = s.cxm.privacy[l']) ∧
        (t.line l).answer = .stopped ∧ (t.line l).totals = t.totalsNow l ∧ t.keptNeed (.line l) = t.needNow (.line l) ∧
        (t.lineConns l = [] → t.demand l = false ∧
          (t.line l).state = if offHook (s.line l).far then .ringingIn else .idle) ∧
        (t.lineConns l ≠ [] → (t.line l).state = .active) ∧
        t.lif = s.lif ∧ t.psc = s.psc ∧ t.cdu = s.cdu ∧ t.mix = s.mix ∧ t.gtu = s.gtu) ∧
    ((s.line l).state ≠ .callingOut ∨ (∀ k : Nat, (s.line l).answer ≠ .running k) →
      exec (.answerTimerExpiry l) s = .next s)

/-- R19, R20: the guard timer of a line in FAULT expires. A LATCHED line without its mark stays; any other leaves FAULT for
the state its kind gives it, its standing monitors are made again, and a monitored ARD or MRD line goes on to ACTIVE. That an
expiry given as a command takes place at any remaining count, and that one which cannot occur changes nothing, is the model's
choice (notes/assumptions/4.md). -/
def Obligations.GuardExpiryLeavesFault : Prop :=
  ∀ (l : LineNo) (s : State), s.switching →
    (∀ k : Nat, (s.line l).state = .fault → (s.line l).guard = .running k →
      ((s.line l).cfg.faultMode = .latched → (s.line l).faultClear = false →
        exec (.guardTimerExpiry l) s = .next (s.setLine l { s.line l with guard := .expired })) ∧
      ((s.line l).cfg.faultMode = .follow ∨ (s.line l).faultClear = true →
        let new : LineState :=
          if (s.line l).cfg.kind.isWire && offHook (s.line l).far then .ringingIn
          else if decide ((s.line l).cfg.kind = .hootLeg) && (s.group (s.line l).cfg.group).cfg.enabled then .active
          else .idle
        ((∀ (p : PosNo) (c : SpkNo), s.assign p c = .line l → s.online p = false ∨ s.connAt p (.spk c) ≠ none) →
          exec (.guardTimerExpiry l) s = .next
            ((s.setLine l { s.line l with
              state := new
              ring := if new = .ringingIn ∧ (s.line l).cfg.ringTimeout ≠ 0
                then .running ((s.line l).cfg.ringTimeout * 100) else .stopped
              answer := .stopped, hang := .stopped, guard := .stopped, faultClear := false
              ringPending := if new = .active then (s.line l).ringPending else none }).raise
              (.line l .fault new .guard))) ∧
        (∀ (p : PosNo) (c : SpkNo), s.assign p c = .line l → s.online p = true → s.connAt p (.spk c) = none →
          s.lineConns l = [] → s.totalsReported →
          ∃ t : State, exec (.guardTimerExpiry l) s = .next t ∧
            (t.line l).state = (if (s.line l).cfg.kind.isWire then .active else new) ∧
            (t.line l).guard = .stopped ∧ (t.line l).faultClear = false ∧
            ({ line := l, pos := p, place := .spk c, talk := false, joined := s.cdu.clock } : Conn) ∈ t.cxm.conns ∧
            ∀ l' : LineNo, l' ≠ l → t.line l' = s.line l'))) ∧
    ((s.line l).state ≠ .fault ∨ (∀ k : Nat, (s.line l).guard ≠ .running k) →
      exec (.guardTimerExpiry l) s = .next s)

/-- R117, R121, R122, R126: the timeout of a group's talkers at a step. Each talker past max_talk leaves with a mark, and
promotion fills the places left, passing over the entries whose recording checks fail; the group's need is then settled. A
check that a group passes by an ask binds the lowest STOPPED channel to it. With no talker past max_talk nothing changes. -/
def Obligations.TalkTimeoutRemovesAndPromotes : Prop :=
  ∀ (g : GroupNo) (s : State), s.switching →
    let r := s.group g
    let past := fun e : TalkEntry => decide (r.cfg.maxTalk * 100 ≤ (s.cdu.clock - e.stamp).toNat)
    (r.cfg.maxTalk = 0 ∨ r.talkers.filter past = [] → exec (.talkTimeout g) s = .next s) ∧
    (r.cfg.maxTalk ≠ 0 → r.talkers.filter past ≠ [] →
      let stay := r.talkers.filter (fun e => !past e)
      let free := r.cfg.talkerLimit - stay.length
      let walked := s.promoted g r.cfg.talkerLimit stay r.waits
      ∃ t : State, exec (.talkTimeout g) s = .next t ∧
        (t.group g).talkers = walked.1 ∧ (t.group g).waits = walked.2 ∧ (t.group g).cfg = r.cfg ∧
        (r.waits = [] ∨ r.cfg.recordCode = .never →
          (t.group g).talkers = stay ++ (r.waits.take free).map (fun e => { e with stamp := s.cdu.clock }) ∧
          (t.group g).waits = r.waits.drop free) ∧
        t.keptNeed (.group g) = t.needNow (.group g) ∧ (∀ x : Target, x ≠ .group g → t.keptNeed x = s.keptNeed x) ∧
        (∀ c : ChanNo, s.boundChan (.group g) = none → s.allocatable = some c →
          s.mandatoryWith g (stay.map fun e => e.pos) = false → s.mandatoryWith g (walked.1.map fun e => e.pos) = true →
          t.chan c = s.boundTo c (.group g)) ∧
        (∀ p : PosNo, p ∈ (t.group g).marks ↔ p ∈ r.marks ∨ ∃ e ∈ r.talkers, past e = true ∧ e.pos = p) ∧
        (∀ g' : GroupNo, g' ≠ g → t.group g' = s.group g') ∧
        t.lif = s.lif ∧ t.lnc = s.lnc ∧ t.psc = s.psc ∧ t.cxm = s.cxm ∧ t.cdu = s.cdu ∧ t.mix = s.mix)

/-- R117, R121, R159 to R161: a CLOSING channel whose count reaches 0 is STOPPED with no target and its segment kept. With
the recorder port not UP, or with no target waiting and no talk request waiting, nothing else follows; with the port UP the
head of the record wait list, the earliest to join of the MANDATORY entries or, without one, of the BEST, takes the lowest
STOPPED channel. With the port UP and no target waiting, the channel is allocatable: the lowest-numbered enabled group with
a free place and a waiting entry fills its places, bound to the lowest STOPPED channel where its policy asks for one; a
group that is not enabled, has no free place or has nothing waiting keeps its entries. That an expiry given as a command
takes place at any close count, and that one of a channel that is not CLOSING changes nothing, is the model's choice
(notes/assumptions/4.md). -/
def Obligations.CloseCountExpiryFreesTheChannel : Prop :=
  ∀ (c : ChanNo) (s : State), s.switching →
    ((s.chan c).state = .closing →
      let freed := s.setChan c { s.chan c with state := .stopped, target := none, closeCount := 0 }
      (s.portUp recPort = false ∨ (s.rcu.waiting = [] ∧ ∀ g : GroupNo, (s.group g).waits = []) →
        exec (.closeCountExpiry c) s = .next freed) ∧
      (∀ e : RecWait, s.portUp recPort = true → s.rcu.waiting = [e] → (∀ g : GroupNo, (s.group g).waits = []) →
        ∀ b : ChanNo, freed.lowestStopped = some b →
          exec (.closeCountExpiry c) s = .next
            (({ freed.setChan b { freed.chan b with
                  state := if s.chanReady b then .recording else .suspended
                  target := some e.target, segment := (s.chan b).segment + 1 } with
                rcu := { (freed.setChan b { freed.chan b with
                    state := if s.chanReady b then .recording else .suspended
                    target := some e.target, segment := (s.chan b).segment + 1 }).rcu with waiting := [] } }).raise
              (.recordStart b e.target ((s.chan b).segment + 1)
                (if s.chanReady b then .recording else .suspended) .wait))) ∧
      (∀ e : RecWait, s.portUp recPort = true → s.rcu.mode = .mono ∨ c.val < 64 → s.lowestStopped = none →
        (s.rcu.waiting.find? (fun x => x.rank = .mandatory)).or s.rcu.waiting.head? = some e →
        let taken : ChanState := if s.chanReady c then .recording else .suspended
        exec (.closeCountExpiry c) s = .next
          (({ s with rcu := { s.rcu with
              chans := s.rcu.chans.set c
                { state := taken, target := some e.target, segment := (s.chan c).segment + 1, closeCount := 0 }
              waiting := s.rcu.waiting.filter (fun x => x.target ≠ e.target) } }).raise
            (.recordStart c e.target ((s.chan c).segment + 1) taken .wait))) ∧
      (∀ b : ChanNo, s.portUp recPort = true → s.rcu.waiting = [] → freed.lowestStopped = some b →
        let tried := fun g : GroupNo => (s.group g).cfg.enabled = true ∧
          (s.group g).talkers.length < (s.group g).cfg.talkerLimit ∧ (s.group g).waits ≠ []
        ∃ t : State, exec (.closeCountExpiry c) s = .next t ∧
          (∀ g : GroupNo, ¬ tried g → t.group g = s.group g ∧ t.keptNeed (.group g) = s.keptNeed (.group g)) ∧
          (∀ g : GroupNo, tried g → (∀ g' : GroupNo, g' < g → ¬ tried g') →
            let r := s.group g
            let free := r.cfg.talkerLimit - r.talkers.length
            t.group g = { r with
              talkers := r.talkers ++ (r.waits.take free).map (fun x => { x with stamp := s.cdu.clock })
              waits := r.waits.drop free } ∧
            t.keptNeed (.group g) = t.needNow (.group g) ∧
            (s.boundChan (.group g) = none → s.mandatoryWith g (r.talkers.map fun x => x.pos) = false →
              s.mandatoryWith g ((r.talkers ++ r.waits.take free).map fun x => x.pos) = true →
              t.chan b = freed.boundTo b (.group g))) ∧
          t.lif = s.lif ∧ t.lnc = s.lnc ∧ t.psc = s.psc ∧ t.cxm = s.cxm ∧ t.cdu = s.cdu ∧ t.mix = s.mix)) ∧
    ((s.chan c).state ≠ .closing → exec (.closeCountExpiry c) s = .next s)

/-! ### Consoles -/

/-- R34, R36, R39 to R42: a key acts as its key-map entry says: a KEY_DOWN is the request of its action, made for the
selected handset; a KEY_UP releases what its key was pressed with. A key cell of an offline position, one that names no key,
and one that arrives while the switching blocks are not running change nothing. That the request is taken by its owner within
the step of the key cell, where the table lists requests as steps of their own too, is the model's choice
(notes/assumptions/24.md). -/
def Obligations.KeysActAsMapped : Prop :=
  ∀ (p : PosNo) (b : Byte) (s : State), s.awake →
    (s.mga.phase ≠ .running ∨ s.online p = false ∨ 48 ≤ b.toNat →
      exec (.keyDown p b) s = .next s ∧ exec (.keyUp p b) s = .next s) ∧
    ∀ k : KeyNo, s.mga.phase = .running → s.online p = true → b.toNat = k.val →
      let h := (s.position p).selected
      let pressed := (s.position p).pressed.any (fun e => e.key = k)
      let withKey := fun t : PressedTarget =>
        s.setPosition p { s.position p with pressed := (s.position p).pressed ++ [{ key := k, target := t }] }
      let withoutKey :=
        s.setPosition p { s.position p with pressed := (s.position p).pressed.filter (fun e => e.key ≠ k) }
      ((s.key p k).action = .none → exec (.keyDown p b) s = .next s) ∧
      (∀ l : LineNo, (s.key p k).action = .line l → exec (.keyDown p b) s = exec (.lineRequest p h l k) s) ∧
      ((s.key p k).action = .release → exec (.keyDown p b) s = exec (.releaseRequest p h k) s) ∧
      ((s.key p k).action = .hold → exec (.keyDown p b) s = exec (.holdRequest p h k) s) ∧
      ((s.key p k).action = .privacy → exec (.keyDown p b) s = exec (.privacyToggle p h k) s) ∧
      ((s.key p k).action = .ring ∨ (s.key p k).action = .record → s.connAt p (handsetPlace h) = none →
        exec (.keyDown p b) s = .next (s.deny p k .noLine .none)) ∧
      (∀ c : Conn, s.connAt p (handsetPlace h) = some c →
        ((s.key p k).action = .ring → exec (.keyDown p b) s =
          if (s.line c.line).cfg.kind = .mrd then exec (.ringRequest c.line) s
          else .next (s.deny p k .wrongKind (.line c.line))) ∧
        ((s.key p k).action = .record → exec (.keyDown p b) s = exec (.demandToggle c.line) s)) ∧
      (∀ g : GroupNo, (s.key p k).action = .talkGroup g → exec (.keyDown p b) s =
        if pressed then .next s
        else exec (.talkRequest p g (s.position p).cfg.talkClass k) (withKey (.group g))) ∧
      (∀ c : SpkNo, (s.key p k).action = .talkSpeaker c → exec (.keyDown p b) s =
        if pressed then .next s
        else match s.assign p c with
          | .group g => exec (.talkRequest p g (s.position p).cfg.talkClass k) (withKey (.group g))
          | .line _ =>
            if (s.connAt p (.spk c)).isSome then exec (.speakerTalkSet p c true) (withKey (.lineSpeaker c))
            else .next s
          | .none => .next s) ∧
      ((s.key p k).action = .host → exec (.keyDown p b) s = .next (s.raise (.key p k false))) ∧
      (∀ e : Pressed, (s.position p).pressed.find? (fun e => e.key = k) = some e → exec (.keyUp p b) s =
        match e.target with
        | .group g => exec (.talkRelease p g) withoutKey
        | .lineSpeaker c => exec (.speakerTalkSet p c false) withoutKey) ∧
      (pressed = false → exec (.keyUp p b) s =
        if (s.key p k).action = .host then .next (s.raise (.key p k true)) else .next s)

/-- R34, R35, R199: HOOK and LEVEL cells. Lifting a handset selects it; putting down a lifted handset makes a hook release
while the switching blocks are running; a level is clamped to 16384. A cell that names no handset, no hook value or no
endpoint, and a cell of an offline position or in INIT, changes nothing. -/
def Obligations.HookAndLevelCells : Prop :=
  ∀ (p : PosNo) (s : State), s.awake →
    (∀ a b : Byte, s.mga.phase = .init ∨ s.online p = false ∨ 1 < a.toNat ∨ 1 < b.toNat →
      exec (.hook p a b) s = .next s) ∧
    (∀ (e : Byte) (v : U16), s.mga.phase = .init ∨ s.online p = false ∨ 9 < e.toNat →
      exec (.level p e v) s = .next s) ∧
    (s.mga.phase ≠ .init → s.online p = true →
      exec (.hook p 0 1) s = .next (s.setPosition p { s.position p with hookLeft := true, selected := .left }) ∧
      exec (.hook p 1 1) s = .next (s.setPosition p { s.position p with hookRight := true, selected := .right }) ∧
      (let down := s.setPosition p { s.position p with hookLeft := false };
        exec (.hook p 0 0) s =
          if (s.position p).hookLeft = true ∧ s.mga.phase = .running then exec (.hookRelease p .left) down
          else .next down) ∧
      (let down := s.setPosition p { s.position p with hookRight := false };
        exec (.hook p 1 0) s =
          if (s.position p).hookRight = true ∧ s.mga.phase = .running then exec (.hookRelease p .right) down
          else .next down) ∧
      ∀ (e : Fin 10) (v : U16), exec (.level p (BitVec.ofNat 8 e.val) v) s = .next
        (s.setPosition p { s.position p with cfg := { (s.position p).cfg with
          volumes := (s.position p).cfg.volumes.set e (min v.toNat 16384) } }))

/-! ### Connections -/

/-- R37, R38, R52, R57, R60 to R62: a line request that adds a handset connection. The new record stands last in the
bridge order; what the handset carried is held or released; privacy_default makes a first connection EXCLUSIVE; the line
moves as its state gives; a MANDATORY line that is not bound takes the lowest STOPPED channel. A line never recorded
leaves recording as it was when nothing is displaced. -/
def Obligations.LineRequestConnects : Prop :=
  ∀ (p : PosNo) (h : Handset) (l : LineNo) (k : KeyNo) (s : State), s.switching → s.online p = true →
    s.connectionsLawful → s.totalsReported → s.needsSettled →
    (∀ c ∈ s.cxm.conns, c.pos = p → c.line = l → c.place.isHandset = false) →
    (∀ c ∈ s.cxm.conns, c.line = l → c.place.isHold = true →
      ∃ d ∈ s.cxm.conns, d.line = l ∧ d.place.isUnheld = true) →
    (s.line l).cfg.kind.isWire = true → (s.line l).state ≠ .disabled → (s.line l).state ≠ .fault →
    s.privateFrom l p = false → (s.bridge l).length < 4 →
    s.linePolicyWith l p none ≠ .mandatory ∨ (s.boundChan (.line l)).isSome = true ∨ s.allocatable.isSome = true →
    let new : Conn := { line := l, pos := p, place := handsetPlace h, talk := false, joined := s.cdu.clock }
    let carried := s.connAt p (handsetPlace h)
    let keep := (s.position p).cfg.autoHold && decide (s.holdSlots p < 8)
    ∃ t : State, exec (.lineRequest p h l k) s = .next t ∧
      t.cxm.conns = (match carried with
        | none => s.cxm.conns
        | some d => if keep then s.cxm.conns.map (fun x => if x = d then { d with place := .hold } else x)
          else s.cxm.conns.filter (fun x => x ≠ d)) ++ [new] ∧
      t.cxm.privacy[l] = (s.cxm.privacy[l] || ((s.bridge l).isEmpty && (s.line l).cfg.privacyDefault)) ∧
      (t.line l).cfg = (s.line l).cfg ∧ (t.line l).far = (s.line l).far ∧ (t.line l).totals = t.totalsNow l ∧
      ((s.line l).state = .idle → s.lineConns l = [] → (s.line l).cfg.kind = .ard →
        (t.line l).state = .callingOut ∧ t.outSignal l = .calling ∧
        (t.line l).answer = if (s.line l).cfg.answerTimeout = 0 then .stopped
          else .running ((s.line l).cfg.answerTimeout * 100)) ∧
      ((s.line l).state = .idle → s.lineConns l = [] → (s.line l).cfg.kind = .mrd →
        (t.line l).state = .active ∧ ((s.line l).ringPending = none → t.outSignal l = .answer)) ∧
      ((s.line l).state = .ringingIn ∨ (s.line l).state = .unanswered → s.lineConns l = [] →
        (t.line l).state = .active ∧ (t.line l).ring = .stopped ∧ (t.line l).hang = .stopped) ∧
      ((s.line l).state = .callingOut ∨ (s.line l).state = .active → s.lineConns l ≠ [] →
        (t.line l).state = (s.line l).state) ∧
      (∀ l' : LineNo, l' ≠ l → (∀ d : Conn, carried = some d → l' ≠ d.line) →
        t.line l' = s.line l' ∧ t.cxm.privacy[l'] = s.cxm.privacy[l'] ∧ t.demand l' = s.demand l') ∧
      t.lif = s.lif ∧ t.psc = s.psc ∧ t.cdu = s.cdu ∧ t.mix = s.mix ∧ t.gtu = s.gtu ∧
      (carried = none → (s.lineSide l).1 = .never → t.rcu = s.rcu ∧ t.prs = s.prs) ∧
      (∀ c : ChanNo, s.linePolicyWith l p none = .mandatory → s.boundChan (.line l) = none → s.allocatable = some c →
        carried = none → (t.chan c).target = some (.line l) ∧ (t.chan c).segment = (s.chan c).segment + 1 ∧
          (t.chan c).state = if s.chanReady c then .recording else .suspended)

/-- R37, R38, R60, R61, R63, R64: the line requests of a position for a line it has, or that another holds. A press on the
line that the handset carries is ignored; the other handset's connection moves; a HOLD entry is retrieved; another
position's HOLD entry, with no unheld connection, is picked up, or denied PRIVATE or NO_RECORDER; a HELD line becomes
ACTIVE. With a busy handset the connection it carries on another line is displaced: held when auto_hold is on and fewer than
8 HOLD entries remain after the request, else released. That a MOVED event carries the place the record comes to is the
model's inference (notes/assumptions/15.md). -/
def Obligations.LineRequestMovesRetrievesPicksUp : Prop :=
  ∀ (p : PosNo) (h : Handset) (l : LineNo) (k : KeyNo) (s : State), s.switching → s.online p = true →
    ((s.connOn p l (handsetPlace h)).isSome = true → exec (.lineRequest p h l k) s = .next s) ∧
    (s.connectionsLawful → s.totalsReported → s.connAt p (handsetPlace h) = none →
      (∀ c : Conn, s.connOn p l (handsetPlace (otherHandset h)) = some c →
        let moved := s.cxm.conns.map (fun x => if x = c then { c with place := handsetPlace h } else x)
        exec (.lineRequest p h l k) s = .next
          (({ s with cxm := { s.cxm with conns := moved } }).raise
            (.connect .moved p l (handsetPlace h) .move c.joined))) ∧
      (∀ c : Conn, s.connOn p l (handsetPlace (otherHandset h)) = none → s.connOn p l .hold = some c →
        ∃ t : State, exec (.lineRequest p h l k) s = .next t ∧
          t.cxm.conns = s.cxm.conns.map (fun x => if x = c then { c with place := handsetPlace h } else x) ∧
          t.cxm.privacy = s.cxm.privacy ∧ t.prs = s.prs ∧ t.rcu = s.rcu ∧
          ((s.line l).cfg.kind.isWire = true → (s.line l).state = .held → (s.line l).totals.allHeld = true →
            (t.line l).state = .active) ∧
          ((s.line l).state ≠ .held → (t.line l).state = (s.line l).state) ∧
          (∀ l' : LineNo, l' ≠ l → t.line l' = s.line l') ∧
          t.lif = s.lif ∧ t.psc = s.psc ∧ t.cdu = s.cdu ∧ t.mix = s.mix ∧ t.gtu = s.gtu) ∧
      (∀ d : Conn, (∀ c ∈ s.cxm.conns, c.pos = p → c.line = l → c.place.isHandset = false) →
        (∀ c ∈ s.cxm.conns, c.line = l → c.place.isUnheld = false) →
        (s.bridge l).head? = some d → (s.line l).cfg.kind.isWire = true → (s.line l).state ≠ .fault →
        s.cxm.privacy[l] = false →
        s.linePolicyWith l p (some d) ≠ .mandatory ∨ (s.boundChan (.line l)).isSome = true ∨ s.allocatable.isSome = true →
        ∃ t : State, exec (.lineRequest p h l k) s = .next t ∧
          t.cxm.conns = s.cxm.conns.erase d ++
            [{ line := l, pos := p, place := handsetPlace h, talk := false, joined := s.cdu.clock }] ∧
          t.cxm.privacy = s.cxm.privacy ∧
          ((s.line l).state = .held → (s.line l).totals.allHeld = true → (t.line l).state = .active) ∧
          (∀ l' : LineNo, l' ≠ l → t.line l' = s.line l') ∧
          t.lif = s.lif ∧ t.psc = s.psc ∧ t.cdu = s.cdu ∧ t.mix = s.mix ∧ t.gtu = s.gtu)) ∧
    -- a busy handset
    (∀ d : Conn, s.connectionsLawful → s.totalsReported → s.connAt p (handsetPlace h) = some d → d.line ≠ l →
      let brought := fun (c : Conn) => s.cxm.conns.map (fun x => if x = c then { c with place := handsetPlace h } else x)
      let displaced := fun (t : State) (table : List Conn) (holds : Nat) =>
        t.cxm.conns = (if (s.position p).cfg.autoHold = true ∧ holds < 8
          then table.map (fun x => if x = d then { d with place := .hold } else x) else table.filter (fun x => x ≠ d)) ∧
        t.cxm.privacy[l] = s.cxm.privacy[l] ∧
        (t.bridge d.line = [] → t.cxm.privacy[d.line] = false) ∧
        (t.bridge d.line ≠ [] → t.cxm.privacy[d.line] = s.cxm.privacy[d.line]) ∧
        (t.lineConns d.line = [] → t.demand d.line = false) ∧
        (t.lineConns d.line ≠ [] → t.demand d.line = s.demand d.line) ∧
        ((s.line d.line).cfg.kind.isWire = true →
          (t.lineConns d.line = [] →
            (s.line d.line).state = .callingOut ∨ (s.line d.line).state = .active ∨ (s.line d.line).state = .held →
            (t.line d.line).state = if offHook (s.line d.line).far then .ringingIn else .idle) ∧
          (t.lineConns d.line ≠ [] →
            ((s.line d.line).state = .active →
              (t.line d.line).state = if (t.totalsNow d.line).allHeld then .held else .active) ∧
            ((s.line d.line).state = .callingOut → (t.line d.line).state = .callingOut))) ∧
        ((s.line l).cfg.kind.isWire = true → (s.line l).state = .held → (s.line l).totals.allHeld = true →
          (t.line l).state = .active) ∧
        ((s.line l).state ≠ .held → (t.line l).state = (s.line l).state) ∧
        (∀ l' : LineNo, l' ≠ l → l' ≠ d.line → t.line l' = s.line l' ∧ t.cxm.privacy[l'] = s.cxm.privacy[l']) ∧
        t.lif = s.lif ∧ t.psc = s.psc ∧ t.cdu = s.cdu ∧ t.mix = s.mix ∧ t.gtu = s.gtu
      (∀ c : Conn, s.connOn p l (handsetPlace (otherHandset h)) = some c →
        ∃ t : State, exec (.lineRequest p h l k) s = .next t ∧ displaced t (brought c) (s.holdSlots p)) ∧
      (∀ c : Conn, s.connOn p l (handsetPlace (otherHandset h)) = none → s.connOn p l .hold = some c →
        ∃ t : State, exec (.lineRequest p h l k) s = .next t ∧ displaced t (brought c) (s.holdSlots p - 1)) ∧
      (∀ c : Conn, (∀ x ∈ s.cxm.conns, x.pos = p → x.line = l → x.place.isHandset = false) →
        (∀ x ∈ s.cxm.conns, x.line = l → x.place.isUnheld = false) →
        (s.bridge l).head? = some c → (s.line l).cfg.kind.isWire = true → (s.line l).state ≠ .fault →
        s.cxm.privacy[l] = false →
        s.linePolicyWith l p (some c) ≠ .mandatory ∨ (s.boundChan (.line l)).isSome = true ∨ s.allocatable.isSome = true →
        ∃ t : State, exec (.lineRequest p h l k) s = .next t ∧
          displaced t (s.cxm.conns.erase c ++
            [{ line := l, pos := p, place := handsetPlace h, talk := false, joined := s.cdu.clock }]) (s.holdSlots p))) ∧
    -- a pickup that is denied
    (∀ d : Conn, (∀ c ∈ s.cxm.conns, c.pos = p → c.line = l → c.place.isHandset = false) →
      (∀ c ∈ s.cxm.conns, c.line = l → c.place.isUnheld = false) → (s.bridge l).head? = some d →
      (s.line l).cfg.kind.isWire = true → (s.line l).state ≠ .fault →
      let denied := fun reason : DenyReason =>
        (s.setPosition p { s.position p with denial := some { key := k, reason := reason, left := 100 } }).raise
          (.deny p k reason (.line l))
      (∀ q : PosNo, s.share l = .exclusive q → q ≠ p → exec (.lineRequest p h l k) s = .next (denied .privateLine)) ∧
      ((∀ q : PosNo, s.share l ≠ .exclusive q) → s.linePolicyWith l p (some d) = .mandatory →
        s.boundChan (.line l) = none → s.allocatable = none →
        exec (.lineRequest p h l k) s = .next (denied .noRecorder)))

/-- R37, R43, R60, R61, R69: the order of the admission checks and what a denial does: the denial display, a DENY event,
and nothing else. `connects` says that the request would add a connection: the position has no handset connection on the
line, and the line has no HOLD entry to pick up. A late request, of a position that has gone offline, is judged as a connect:
it is denied with the first reason admission gives, or with DISABLED where admission would pass, and leaves no display. That
its recording check binds no channel is the model's inference (notes/assumptions/12.md). -/
def Obligations.LineRequestDenials : Prop :=
  ∀ (p : PosNo) (h : Handset) (l : LineNo) (k : KeyNo) (s : State), s.switching →
    let connects := (∀ c ∈ s.cxm.conns, c.pos = p → c.line = l → c.place.isHandset = false) ∧
      ((∀ c ∈ s.cxm.conns, c.line = l → c.place.isHold = false) ∨
        ∃ d ∈ s.cxm.conns, d.line = l ∧ d.place.isUnheld = true)
    let denied := fun reason : DenyReason =>
      (if s.online p then s.setPosition p { s.position p with denial := some { key := k, reason := reason, left := 100 } }
        else s).raise (.deny p k reason (.line l))
    let wire := (s.line l).cfg.kind = .ard ∨ (s.line l).cfg.kind = .mrd
    (s.online p = false ∨ connects →
      ((s.line l).cfg.kind = .unused → exec (.lineRequest p h l k) s = .next (denied .disabled)) ∧
      ((s.line l).cfg.kind = .hootLeg → exec (.lineRequest p h l k) s = .next (denied .wrongKind)) ∧
      (wire → (s.line l).state = .fault → exec (.lineRequest p h l k) s = .next (denied .fault)) ∧
      (∀ q : PosNo, wire → (s.line l).state ≠ .fault → s.share l = .exclusive q → q ≠ p →
        exec (.lineRequest p h l k) s = .next (denied .privateLine)) ∧
      (wire → (s.line l).state ≠ .fault → 4 ≤ (s.bridge l).length →
        exec (.lineRequest p h l k) s = .next (denied .bridgeFull)) ∧
      (wire → (s.line l).state ≠ .fault → (∀ q : PosNo, s.share l = .exclusive q → q = p) →
        (s.bridge l).length < 4 → s.linePolicyWith l p none = .mandatory → s.boundChan (.line l) = none →
        s.allocatable = none → exec (.lineRequest p h l k) s = .next (denied .noRecorder))) ∧
    (s.online p = false → wire → (s.line l).state ≠ .fault → (∀ q : PosNo, s.share l = .exclusive q → q = p) →
      (s.bridge l).length < 4 →
      s.linePolicyWith l p none ≠ .mandatory ∨ (s.boundChan (.line l)).isSome = true ∨ s.allocatable.isSome = true →
      exec (.lineRequest p h l k) s = .next (s.raise (.deny p k .disabled (.line l))))

/-- R13, R39, R57, R66, R69, R137: a release and a hook release remove the connection at the handset. When it was the line's
last the line is cleared, its privacy and demand flag with it; when the connections left are all held, an ACTIVE line is
HELD. With nothing at the handset a RELEASE key is denied NO_LINE and a hook release does nothing. So is the late release of
a position that has gone offline, which leaves no denial display (R69). -/
def Obligations.ReleasesRemoveTheConnection : Prop :=
  ∀ (p : PosNo) (h : Handset) (k : KeyNo) (s : State), s.switching → s.totalsReported →
    (s.connAt p (handsetPlace h) = none →
      exec (.hookRelease p h) s = .next s ∧
      exec (.releaseRequest p h k) s = .next
        ((if s.online p
            then s.setPosition p { s.position p with denial := some { key := k, reason := .noLine, left := 100 } }
            else s).raise (.deny p k .noLine .none))) ∧
    (∀ (c : Conn) (i : Instr), s.connAt p (handsetPlace h) = some c →
      i = .releaseRequest p h k ∨ i = .hookRelease p h →
      ∃ t : State, exec i s = .next t ∧
        t.cxm.conns = s.cxm.conns.filter (fun x => x ≠ c) ∧
        (t.line c.line).totals = t.totalsNow c.line ∧ (t.line c.line).cfg = (s.line c.line).cfg ∧
        (t.bridge c.line = [] → t.cxm.privacy[c.line] = false) ∧
        (t.bridge c.line ≠ [] → t.cxm.privacy[c.line] = s.cxm.privacy[c.line]) ∧
        (t.lineConns c.line = [] → t.demand c.line = false) ∧
        (t.lineConns c.line ≠ [] → t.demand c.line = s.demand c.line) ∧
        ((s.line c.line).cfg.kind.isWire = true → t.lineConns c.line = [] →
          (s.line c.line).state = .callingOut ∨ (s.line c.line).state = .active ∨ (s.line c.line).state = .held →
          (t.line c.line).state = (if offHook (s.line c.line).far then .ringingIn else .idle) ∧
          (t.line c.line).ringPending = none) ∧
        ((s.line c.line).cfg.kind.isWire = true → t.lineConns c.line ≠ [] → (s.line c.line).state = .active →
          (t.line c.line).state = if (t.totalsNow c.line).allHeld then .held else .active) ∧
        (∀ l : LineNo, l ≠ c.line →
          t.line l = s.line l ∧ t.cxm.privacy[l] = s.cxm.privacy[l] ∧ t.demand l = s.demand l) ∧
        t.lif = s.lif ∧ t.psc = s.psc ∧ t.cdu = s.cdu ∧ t.mix = s.mix ∧ t.gtu = s.gtu)

/-- R39, R65, R69: a hold. With nothing at the handset it is denied NO_LINE, with 8 entries held HOLD_FULL; otherwise the
record moves to HOLD in its place, an ACTIVE line left with held connections only is HELD, and a calling line goes on. The
late hold of a position that has gone offline finds nothing and is denied NO_LINE with no denial display. -/
def Obligations.HoldRequestHolds : Prop :=
  ∀ (p : PosNo) (h : Handset) (k : KeyNo) (s : State), s.switching → s.totalsReported →
    let denied := fun (reason : DenyReason) (target : DenyTarget) =>
      (if s.online p then s.setPosition p { s.position p with denial := some { key := k, reason := reason, left := 100 } }
        else s).raise (.deny p k reason target)
    (s.connAt p (handsetPlace h) = none → exec (.holdRequest p h k) s = .next (denied .noLine .none)) ∧
    (∀ c : Conn, s.connAt p (handsetPlace h) = some c →
      (8 ≤ s.holdSlots p → exec (.holdRequest p h k) s = .next (denied .holdFull (.line c.line))) ∧
      (s.holdSlots p < 8 → ∃ t : State, exec (.holdRequest p h k) s = .next t ∧
        t.cxm.conns = s.cxm.conns.map (fun x => if x = c then { c with place := .hold } else x) ∧
        t.cxm.privacy = s.cxm.privacy ∧ t.prs = s.prs ∧ t.rcu = s.rcu ∧
        (t.line c.line).totals = t.totalsNow c.line ∧
        ((s.line c.line).cfg.kind.isWire = true → (s.line c.line).state = .active →
          (t.line c.line).state = if (t.totalsNow c.line).allHeld then .held else .active) ∧
        ((s.line c.line).state = .callingOut → (t.line c.line).state = .callingOut) ∧
        (∀ l : LineNo, l ≠ c.line → t.line l = s.line l) ∧
        t.lif = s.lif ∧ t.psc = s.psc ∧ t.cdu = s.cdu ∧ t.mix = s.mix ∧ t.gtu = s.gtu))

/-- R40, R56, R57, R58: a privacy toggle, judged by the share state: SOLE becomes EXCLUSIVE, EXCLUSIVE becomes SOLE, BRIDGED
is denied, and an empty handset is denied NO_LINE, with no denial display where the position has gone offline since its key
was pressed. No report and no notice is sent. That a PRIVACY_ON or PRIVACY_OFF event
carries the place and the joined_at of the record that holds or held the privacy is the model's inference
(notes/assumptions/15.md). -/
def Obligations.PrivacyToggles : Prop :=
  ∀ (p : PosNo) (h : Handset) (k : KeyNo) (s : State), s.switching →
    let denied := fun (reason : DenyReason) (target : DenyTarget) =>
      (if s.online p then s.setPosition p { s.position p with denial := some { key := k, reason := reason, left := 100 } }
        else s).raise (.deny p k reason target)
    (s.connAt p (handsetPlace h) = none → exec (.privacyToggle p h k) s = .next (denied .noLine .none)) ∧
    (∀ c : Conn, s.connAt p (handsetPlace h) = some c →
      let flagged := fun b : Bool => { s with cxm := { s.cxm with privacy := s.cxm.privacy.set c.line b } }
      (s.share c.line = .sole → exec (.privacyToggle p h k) s = .next
        ((flagged true).raise (.connect .privacyOn c.pos c.line c.place .key c.joined)) ∧
        (flagged true).share c.line = .exclusive p) ∧
      (∀ q : PosNo, s.share c.line = .exclusive q → exec (.privacyToggle p h k) s = .next
        ((flagged false).raise (.connect .privacyOff c.pos c.line c.place .key c.joined)) ∧
        (flagged false).share c.line = .sole ∧ q = p) ∧
      (s.share c.line = .bridged → exec (.privacyToggle p h k) s = .next (denied .bridged (.line c.line))))

/-- R71: a speaker_talk set or clear. The record at the speaker place takes the value; where there is none nothing changes;
nothing else does in either case, so neither raises an event, sends a report or a notice, or is refused. -/
def Obligations.SpeakerTalkTakesTheValue : Prop :=
  ∀ (p : PosNo) (c : SpkNo) (talk : Bool) (s : State), s.switching →
    let set := s.cxm.conns.map (fun x => if x.pos = p ∧ x.place = .spk c then { x with talk := talk } else x)
    exec (.speakerTalkSet p c talk) s = .next { s with cxm := { s.cxm with conns := set } } ∧
    (s.connAt p (.spk c) = none → exec (.speakerTalkSet p c talk) s = .next s)

/-- R15, R83: a ring request for an MRD line in ACTIVE or HELD. One that finds a burst pending, or its generator not
enabled, has no effect; otherwise the line follows burst_cg, and a waiting ONESHOT generator starts. -/
def Obligations.RingRequestStartsABurst : Prop :=
  ∀ (l : LineNo) (s : State), s.switching → (s.line l).cfg.kind = .mrd →
    (s.line l).state = .active ∨ (s.line l).state = .held →
    let n := (s.line l).cfg.burstCg
    let follows := s.setLine l { s.line l with ringPending := some n }
    ((s.line l).ringPending ≠ none ∨ (s.gen n).enable = false → exec (.ringRequest l) s = .next s) ∧
    ((s.line l).ringPending = none → (s.gen n).enable = true →
      exec (.ringRequest l) s = .next
        (if (s.gen n).mode = .oneshot ∧ (s.gen n).running = false
          then follows.setGen n { s.gen n with running := true, phase := 0 }
          else follows))

/-- R137, R139 to R141: a demand toggle inverts the flag of a line that has a connection and re-resolves it; without a
connection it has no effect. A line whose need rises from NONE to BEST takes the lowest STOPPED channel. -/
def Obligations.DemandToggleInverts : Prop :=
  ∀ (l : LineNo) (s : State), s.switching →
    (s.lineConns l = [] → exec (.demandToggle l) s = .next s) ∧
    (s.lineConns l ≠ [] → ∃ t : State, exec (.demandToggle l) s = .next t ∧
      t.demand l = !(s.demand l) ∧ (∀ l' : LineNo, l' ≠ l → t.demand l' = s.demand l') ∧
      t.keptNeed (.line l) = t.needNow (.line l) ∧
      (∀ x : Target, x ≠ .line l → t.keptNeed x = s.keptNeed x) ∧
      (t.needNow (.line l) = s.keptNeed (.line l) → t.rcu = s.rcu ∧ t.mga = s.mga) ∧
      (∀ c : ChanNo, s.keptNeed (.line l) = .none → t.needNow (.line l) = .best → s.boundChan (.line l) = none →
        s.isWaiting (.line l) = false → s.allocatable = some c →
        (t.chan c).target = some (.line l) ∧ (t.chan c).segment = (s.chan c).segment + 1 ∧
          (t.chan c).state = if s.chanReady c then .recording else .suspended) ∧
      t.lif = s.lif ∧ t.lnc = s.lnc ∧ t.psc = s.psc ∧ t.cxm = s.cxm ∧ t.cdu = s.cdu ∧ t.mix = s.mix ∧ t.gtu = s.gtu)

/-! ### Talk groups -/

/-- R113, R116 to R119, R125, R126, R141, R142: the outcomes of a talk request, in the order of the checks, for a position
that is online. A group that is not bound, whose policy with the position added is MANDATORY, refuses when no channel is
allocatable and otherwise takes the lowest STOPPED one. Whatever the group's recording, a request that passes is granted,
pre-empts, is queued or is refused by the set and the pool; the group's need is then settled, so that a channel bound at the
check stays while the talkers need recording and closes when they do not, and a need that rises takes a channel or waits.
Next states are given in full for a group that is never recorded, or MANDATORY with a channel bound. That the TALK REFUSED
occurrence of a denied request stands ahead of its DENY is the model's choice (notes/assumptions/10.md), and that a REQUEUED
or QUEUED event says waiting its inference (notes/assumptions/15.md). The last clause is the late request of a position that
has gone offline: it is judged alike, leaves no denial display, and leaves no entry, for what it is given is removed at once;
that the group is promoted after the removal of a talker is the model's inference (notes/assumptions/12.md). -/
def Obligations.TalkRequestOutcomes : Prop :=
  (∀ (p : PosNo) (g : GroupNo) (c : TalkClass) (k : KeyNo) (s : State), s.switching → s.online p = true →
    let r := s.group g
    let e : TalkEntry := { pos := p, cls := c, stamp := s.cdu.clock }
    let denied := fun (x : State) (reason : DenyReason) =>
      (x.setPosition p { x.position p with denial := some { key := k, reason := reason, left := 100 } }).raise
        (.deny p k reason (.group g))
    (r.cfg.enabled = false → exec (.talkRequest p g c k) s = .next
      (denied (s.raise (.talkRefused g p c .disabled)) .disabled)) ∧
    (r.cfg.enabled = true → r.talks p = true ∨ r.waitsFor p = true ∨ p ∈ r.marks →
      exec (.talkRequest p g c k) s = .next s) ∧
    (r.cfg.enabled = true → r.talks p = false → r.waitsFor p = false → p ∉ r.marks →
      (s.checkFails g (r.talkers.map (fun x => x.pos) ++ [p]) = true →
        exec (.talkRequest p g c k) s = .next (denied (s.raise (.talkRefused g p c .noRecorder)) .noRecorder)) ∧
      (s.checkFails g (r.talkers.map (fun x => x.pos) ++ [p]) = false →
        let asks := s.mandatoryWith g (r.talkers.map (fun x => x.pos) ++ [p]) = true ∧ s.boundChan (.group g) = none
        let pre := if c = .override then r.talkers.find? (fun x => x.cls = .normal) else none
        ∃ t : State, exec (.talkRequest p g c k) s = .next t ∧
          t = { s with gtu := t.gtu, prs := t.prs, rcu := t.rcu, mga := t.mga } ∧
          (∀ g' : GroupNo, g' ≠ g → t.group g' = s.group g') ∧
          (r.talkers.length < r.cfg.talkerLimit → t.group g = { r with talkers := r.talkers ++ [e] }) ∧
          (r.cfg.talkerLimit ≤ r.talkers.length →
            (∀ q : TalkEntry, pre = some q → t.group g = { r with
              talkers := r.talkers.erase q ++ [e]
              waits := if s.poolFree = 0 then r.waits else r.waits.takeWhile (fun x => x.cls ≠ .normal) ++
                [{ q with stamp := s.cdu.clock }] ++ r.waits.dropWhile (fun x => x.cls ≠ .normal) }) ∧
            (pre = none → t.group g = { r with
              waits := if s.poolFree = 0 then r.waits else queueBack e r.waits })) ∧
          t.keptNeed (.group g) = t.needNow (.group g) ∧ (∀ x : Target, x ≠ .group g → t.keptNeed x = s.keptNeed x) ∧
          (∀ b : ChanNo, asks → s.allocatable = some b →
            t.chan b = (if t.needNow (.group g) = .none
              then { s.boundTo b (.group g) with state := .closing, closeCount := 80 } else s.boundTo b (.group g)) ∧
            t.isWaiting (.group g) = false) ∧
          (∀ b : ChanNo, ¬ asks → s.allocatable = some b → s.boundChan (.group g) = none →
            s.isWaiting (.group g) = false → s.keptNeed (.group g) = .none → t.needNow (.group g) ≠ .none →
            t.chan b = s.boundTo b (.group g)) ∧
          (¬ asks → s.allocatable = none → s.boundChan (.group g) = none → s.isWaiting (.group g) = false →
            s.keptNeed (.group g) = .none → t.needNow (.group g) = .best →
            t.rcu.waiting = s.rcu.waiting ++
              [{ target := .group g, rank := .best, number := s.rcu.entryCount + 1 }])) ∧
      ((r.cfg.recordCode = .never ∧ s.keptNeed (.group g) = .none) ∨
          (r.cfg.recordCode = .mandatory ∧ s.keptNeed (.group g) = .mandatory ∧
            (s.boundChan (.group g)).isSome = true ∧ 1 ≤ r.cfg.talkerLimit) →
        (r.talkers.length < r.cfg.talkerLimit → exec (.talkRequest p g c k) s = .next
          ((s.setGroup g { r with talkers := r.talkers ++ [e] }).raise
            (.talk .granted g p c (some .request) false))) ∧
        (r.cfg.talkerLimit ≤ r.talkers.length →
          (∀ q : TalkEntry, c = .override → r.talkers.find? (fun x => x.cls = .normal) = some q →
            (0 < s.poolFree → exec (.talkRequest p g c k) s = .next
              (((s.setGroup g { r with
                  talkers := r.talkers.erase q ++ [e]
                  waits := r.waits.takeWhile (fun x => x.cls ≠ .normal) ++ [{ q with stamp := s.cdu.clock }] ++
                    r.waits.dropWhile (fun x => x.cls ≠ .normal) }).raise
                (.talk .requeued g q.pos q.cls (some .preempted) true)).raise
                (.talk .granted g p c (some .preempt) false))) ∧
            (s.poolFree = 0 → exec (.talkRequest p g c k) s = .next
              (((s.setGroup g { r with talkers := r.talkers.erase q ++ [e] }).raise
                (.talk .removed g q.pos q.cls (some .preempted) false)).raise
                (.talk .granted g p c (some .preempt) false)))) ∧
          (c ≠ .override ∨ r.talkers.find? (fun x => x.cls = .normal) = none →
            (0 < s.poolFree → exec (.talkRequest p g c k) s = .next
              ((s.setGroup g { r with waits := queueBack e r.waits }).raise (.talk .queued g p c none true))) ∧
            (s.poolFree = 0 → exec (.talkRequest p g c k) s = .next
              (s.raise (.talkRefused g p c .queueFull)))))))) ∧
  (∀ (x : TalkEntry) (ws : List TalkEntry),
    ws.Pairwise (fun a b => classRank b.cls ≤ classRank a.cls) →
    queueBack x ws = ws.takeWhile (fun a => decide (classRank x.cls ≤ classRank a.cls)) ++ [x] ++
      ws.dropWhile (fun a => decide (classRank x.cls ≤ classRank a.cls))) ∧
  -- a late request
  ∀ (p : PosNo) (g : GroupNo) (c : TalkClass) (k : KeyNo) (s : State), s.switching → s.online p = false →
    let r := s.group g
    let fails := s.checkFails g (r.talkers.map (fun x => x.pos) ++ [p])
    let pre := if c = .override then r.talkers.find? (fun x => x.cls = .normal) else none
    let refused := fun (why : TalkRefusal) (reason : DenyReason) =>
      (s.raise (.talkRefused g p c why)).raise (.deny p k reason (.group g))
    (r.cfg.enabled = false → exec (.talkRequest p g c k) s = .next (refused .disabled .disabled)) ∧
    (r.cfg.enabled = true → r.talks p = true ∨ r.waitsFor p = true ∨ p ∈ r.marks →
      exec (.talkRequest p g c k) s = .next s) ∧
    (r.cfg.enabled = true → r.talks p = false → r.waitsFor p = false → p ∉ r.marks →
      (fails = true → exec (.talkRequest p g c k) s = .next (refused .noRecorder .noRecorder)) ∧
      (fails = false →
        let left := fun (ts ws : List TalkEntry) =>
          let walked := s.promoted g r.cfg.talkerLimit ts ws
          { r with talkers := walked.1, waits := walked.2 }
        let asks := s.mandatoryWith g (r.talkers.map (fun x => x.pos) ++ [p]) = true ∧ s.boundChan (.group g) = none
        ∃ t : State, exec (.talkRequest p g c k) s = .next t ∧
          t = { s with gtu := t.gtu, prs := t.prs, rcu := t.rcu, mga := t.mga } ∧
          (∀ g' : GroupNo, g' ≠ g → t.group g' = s.group g') ∧
          (t.group g).talks p = false ∧ (t.group g).waitsFor p = false ∧ p ∉ (t.group g).marks ∧
          (r.talkers.length < r.cfg.talkerLimit → t.group g = left r.talkers r.waits) ∧
          (r.cfg.talkerLimit ≤ r.talkers.length →
            (pre = none → t.group g = r) ∧
            ∀ q : TalkEntry, pre = some q → t.group g = left (r.talkers.erase q)
              (if s.poolFree = 0 then r.waits else r.waits.takeWhile (fun x => x.cls ≠ .normal) ++
                [{ q with stamp := s.cdu.clock }] ++ r.waits.dropWhile (fun x => x.cls ≠ .normal))) ∧
          t.keptNeed (.group g) = t.needNow (.group g) ∧ (∀ x : Target, x ≠ .group g → t.keptNeed x = s.keptNeed x) ∧
          (∀ b : ChanNo, asks → s.allocatable = some b →
            t.chan b = (if t.needNow (.group g) = .none
              then { s.boundTo b (.group g) with state := .closing, closeCount := 80 } else s.boundTo b (.group g)))) ∧
      (r.cfg.recordCode = .never → s.keptNeed (.group g) = .none →
        (r.talkers.length < r.cfg.talkerLimit → r.waits = [] → exec (.talkRequest p g c k) s = .next
          ((s.raise (.talk .granted g p c (some .request) false)).raise
            (.talk .removed g p c (some .offline) false))) ∧
        (r.cfg.talkerLimit ≤ r.talkers.length → pre = none →
          (0 < s.poolFree → exec (.talkRequest p g c k) s = .next
            ((s.raise (.talk .queued g p c none true)).raise (.talk .removed g p c (some .offline) true))) ∧
          (s.poolFree = 0 → exec (.talkRequest p g c k) s = .next (s.raise (.talkRefused g p c .queueFull))))))

/-- R117, R120, R121, R126: the effects of a talk release, by what the position has in the group. A talker's place is filled
from the queue, whatever the group's recording: the entries whose recording checks fail are passed over, a check that passes
by an ask binds the lowest STOPPED channel, and the group's need is settled at the end. A group that is never recorded
leaves recording as it was. -/
def Obligations.TalkReleaseOutcomes : Prop :=
  ∀ (p : PosNo) (g : GroupNo) (s : State), s.switching →
    let r := s.group g
    (∀ e : TalkEntry, r.talkers.find? (fun x => x.pos = p) = some e → r.cfg.recordCode = .never →
      s.keptNeed (.group g) = .none →
      let stay := r.talkers.erase e
      let free := r.cfg.talkerLimit - stay.length
      ∃ t : State, exec (.talkRelease p g) s = .next t ∧
        (t.group g).talkers = stay ++ (r.waits.take free).map (fun x => { x with stamp := s.cdu.clock }) ∧
        (t.group g).waits = r.waits.drop free ∧ (t.group g).marks = r.marks ∧ (t.group g).cfg = r.cfg ∧
        t = { s with gtu := t.gtu, mga := t.mga } ∧ (∀ g' : GroupNo, g' ≠ g → t.group g' = s.group g')) ∧
    (∀ e : TalkEntry, r.talkers.find? (fun x => x.pos = p) = some e →
      let stay := r.talkers.erase e
      let walked := s.promoted g r.cfg.talkerLimit stay r.waits
      ∃ t : State, exec (.talkRelease p g) s = .next t ∧
        t.group g = { r with talkers := walked.1, waits := walked.2 } ∧
        t = { s with gtu := t.gtu, prs := t.prs, rcu := t.rcu, mga := t.mga } ∧
        (∀ g' : GroupNo, g' ≠ g → t.group g' = s.group g') ∧
        t.keptNeed (.group g) = t.needNow (.group g) ∧ (∀ x : Target, x ≠ .group g → t.keptNeed x = s.keptNeed x) ∧
        (∀ c : ChanNo, s.boundChan (.group g) = none → s.allocatable = some c →
          s.mandatoryWith g (stay.map fun x => x.pos) = false → s.mandatoryWith g (walked.1.map fun x => x.pos) = true →
          t.chan c = s.boundTo c (.group g)) ∧
        (∀ c : ChanNo, s.boundChan (.group g) = some c → s.keptNeed (.group g) ≠ .none →
          t.chan c = if t.needNow (.group g) = .none
            then { s.chan c with state := .closing, closeCount := 80 } else s.chan c)) ∧
    (r.talks p = false →
      (∀ e : TalkEntry, r.waits.find? (fun x => x.pos = p) = some e →
        exec (.talkRelease p g) s = .next
          ((s.setGroup g { r with waits := r.waits.erase e }).raise
            (.talk .removed g e.pos e.cls (some .release) true))) ∧
      (r.waitsFor p = false →
        exec (.talkRelease p g) s = .next (s.setGroup g { r with marks := r.marks.filter (fun q => q ≠ p) }) ∧
        (p ∉ r.marks → exec (.talkRelease p g) s = .next s)))

/-! ### The host's requests -/

/-- R182, R198: READ_ENTRY answers BAD_TABLE for a table byte of 12 or above, BAD_INDEX beyond the table's range, and
otherwise the stored entry, byte for byte in the layout of section 11.3, and changes nothing. The codes of the layout are
pinned by the lists that number them. -/
def Obligations.ReadEntryAnswersTheStoredEntry : Prop :=
  (∀ (tag : U16) (s : State), s.serving →
    let answer := fun data : List Byte => (.next (s.respond 1 tag .ok data) : Host.Outcome State Fault Refusal)
    let num := fun n : Nat => BitVec.ofNat 16 n
    let one := fun n : Nat => BitVec.ofNat 8 n
    let hi := fun n : Nat => BitVec.ofNat 8 (n / 256)
    let flag := fun b : Bool => if b then one 1 else one 0
    (∀ (table : Byte) (index : U16), 12 ≤ table.toNat →
      exec (.readEntry tag table index) s = .next (s.respond 1 tag .badTable [])) ∧
    (∀ x ∈ ([(0, 512), (1, 32), (2, 1536), (3, 256), (4, 16), (5, 64), (6, 16), (7, 1028), (8, 1), (9, 64), (10, 8),
        (11, 1)] : List (Nat × Nat)), ∀ index : U16, x.2 ≤ index.toNat →
      exec (.readEntry tag (BitVec.ofNat 8 x.1) index) s = .next (s.respond 1 tag .badIndex [])) ∧
    (∀ l : LineNo,
      let c := (s.line l).cfg
      exec (.readEntry tag 0 (num l.val)) s = answer
        [one c.kind.code, flag c.privacyDefault, hi c.rxGain, one c.rxGain, hi c.txGain, one c.txGain, one c.ringCg.val,
          one c.burstCg.val, one c.ringTimeout, one c.answerTimeout, one c.ringHang, one c.faultMode.code, one c.faultGuard,
          one c.group.val]) ∧
    (∀ p : PosNo,
      let c := (s.position p).cfg
      exec (.readEntry tag 1 (num p.val)) s = answer
        ([one c.recordMode.code, one (talkClassCode c.talkClass), flag c.autoHold, hi c.duck, one c.duck,
          one c.ringSpeaker.val, one c.ringTone.val] ++ c.volumes.toList.flatMap fun v => [hi v, one v])) ∧
    (∀ (p : PosNo) (k : KeyNo), exec (.readEntry tag 2 (num (48 * p.val + k.val))) s = answer
      ((match (s.key p k).action with
        | .none => [0, 255, 255]
        | .line l => [1, hi l.val, one l.val]
        | .release => [2, 255, 255]
        | .hold => [3, 255, 255]
        | .ring => [4, 255, 255]
        | .privacy => [5, 255, 255]
        | .talkGroup g => [6, 0, one g.val]
        | .talkSpeaker c => [7, 0, one c.val]
        | .record => [8, 255, 255]
        | .host => [9, 255, 255]) ++ [one (s.key p k).colour.code])) ∧
    (∀ (p : PosNo) (c : SpkNo), exec (.readEntry tag 3 (num (8 * p.val + c.val))) s = answer
      (match s.assign p c with
        | .none => [0, 255, 255]
        | .line l => [1, hi l.val, one l.val]
        | .group g => [2, 0, one g.val])) ∧
    (∀ i : Fin 16, exec (.readEntry tag 4 (num i.val)) s = answer
      [match (s.psc.lampStyle[i]).colour with
        | .fixed c => one c.code
        | .key => 3,
       match (s.psc.lampStyle[i]).pattern with
        | .off => 0
        | .steady => 1
        | .follow n => one (16 + n.val)]) ∧
    (∀ g : GroupNo,
      let c := (s.group g).cfg
      exec (.readEntry tag 5 (num g.val)) s = answer
        [flag c.enabled, one c.talkerLimit, hi c.maxTalk, one c.maxTalk, hi c.groupGain, one c.groupGain, hi c.legGain,
          one c.legGain, one c.recordCode.code]) ∧
    (∀ n : CgNo,
      let g := s.gen n
      exec (.readEntry tag 6 (num n.val)) s = answer
        [flag g.enable, one g.mode.code, match g.source with
            | some m => one m.val
            | none => 255,
          hi g.pending.period, one g.pending.period, hi g.pending.rise, one g.pending.rise, hi g.pending.fall,
          one g.pending.fall, flag g.pair]) ∧
    (∀ (t : ToneNo) (k : Fin 256), exec (.readEntry tag 7 (num (256 * t.val + k.val))) s =
      answer [((s.mix.tones[t]).samples[k]).extractLsb' 8 8, ((s.mix.tones[t]).samples[k]).extractLsb' 0 8]) ∧
    (∀ t : ToneNo, exec (.readEntry tag 7 (num (1024 + t.val))) s =
      answer [hi (s.mix.tones[t]).length, one (s.mix.tones[t]).length, hi (s.mix.tones[t]).level,
        one (s.mix.tones[t]).level]) ∧
    exec (.readEntry tag 8 0) s =
      answer [flag s.prs.tablesEnabled, flag s.prs.fixedEnabled, one s.prs.defaultCode.code] ∧
    (∀ b : Fin 64, exec (.readEntry tag 9 (num b.val)) s = answer
      [match s.prs.fixed[b] with
        | some c => one c.code
        | none => 4]) ∧
    (∀ r : Fin 8,
      let c := s.prs.ranges[r]
      exec (.readEntry tag 10 (num r.val)) s = answer
        [flag c.enabled, one c.code.code, hi c.first.val, one c.first.val, hi c.last.val, one c.last.val]) ∧
    exec (.readEntry tag 11 0) s = answer [if s.rcu.mode = .mono then 0 else 1]) ∧
  [LineKind.unused, .ard, .mrd, .hootLeg].map LineKind.code = List.range 4 ∧
  [FaultMode.follow, .latched].map FaultMode.code = List.range 2 ∧
  [RecordMode.normal, .compliance, .exempt].map RecordMode.code = List.range 3 ∧
  [TalkClass.normal, .supervisor, .override].map talkClassCode = List.range 3 ∧
  [Colour.green, .red, .amber].map Colour.code = List.range 3 ∧
  [PolicyCode.never, .onDemand, .best, .mandatory].map PolicyCode.code = List.range 4 ∧
  [CgMode.free, .follow, .oneshot].map CgMode.code = List.range 3

/-- R2, R8, R19, R20, R21, R22: a WRITE_ENTRY on LINE_CFG: its refusals in their order, and what a taken write does by the
line's state: a write that keeps kind and group; a line leaving UNUSED, evaluated with its monitors after it while the
switching blocks are running, and left IDLE while they are held; a change of kind or group in IDLE, evaluated again; a line
in FAULT, which stays but where the stored fault_mode then lets it leave; and a line set to UNUSED, from IDLE or FAULT. -/
def Obligations.WriteLineCfgChecksAndStores : Prop :=
  ∀ (tag index : U16) (e : LineEntry) (s : State), s.serving →
    let i : Instr := .writeLineCfg tag index e
    let refused := fun code : ResultCode => exec i s = .next (s.respond 2 tag code [])
    let reserved := 3 < e.kind.toNat ∨ 1 < e.privacyDefault.toNat ∨ 1 < e.faultMode.toNat
    let beyond := 15 < e.ringCg.toNat ∨ 15 < e.burstCg.toNat ∨ 63 < e.group.toNat
    let answer : ResultCode := if 32767 < e.rxGain.toNat ∨ 32767 < e.txGain.toNat then .okClamped else .ok
    (512 ≤ index.toNat → refused .badIndex) ∧
    (index.toNat < 512 → reserved → refused .badValue) ∧
    (index.toNat < 512 → ¬ reserved → beyond → refused .badIndex) ∧
    ∀ (l : LineNo) (cfg : LineCfg), index.toNat = l.val → e.kind.toNat = cfg.kind.code →
      e.privacyDefault.toNat = (if cfg.privacyDefault then 1 else 0) → e.faultMode.toNat = cfg.faultMode.code →
      e.ringCg.toNat = cfg.ringCg.val → e.burstCg.toNat = cfg.burstCg.val → e.group.toNat = cfg.group.val →
      cfg.rxGain = min e.rxGain.toNat 32767 → cfg.txGain = min e.txGain.toNat 32767 →
      cfg.ringTimeout = e.ringTimeout.toNat → cfg.answerTimeout = e.answerTimeout.toNat →
      cfg.ringHang = e.ringHang.toNat → cfg.faultGuard = e.faultGuard.toNat →
      let r := s.line l
      let changes := cfg.kind ≠ r.cfg.kind ∨ cfg.group ≠ r.cfg.group
      let inUse := r.state ≠ .disabled ∧ r.state ≠ .idle ∧ r.state ≠ .fault
      let full := cfg.kind = .hootLeg ∧ (r.cfg.kind ≠ .hootLeg ∨ r.cfg.group ≠ cfg.group) ∧
        4 ≤ ((List.finRange 512).filter fun x => decide (x ≠ l) && decide ((s.line x).cfg.kind = .hootLeg) &&
          decide ((s.line x).cfg.group = cfg.group)).length
      (changes → inUse → refused .busy) ∧
      (¬ inUse → full → refused .busy) ∧
      (cfg.kind = r.cfg.kind → cfg.group = r.cfg.group → r.state ≠ .fault →
        exec i s = .next ((s.setLine l { r with cfg := cfg }).respond 2 tag answer [])) ∧
      (s.mga.phase = .held → r.cfg.kind = .unused → cfg.kind ≠ .unused → r.state = .disabled → ¬ full →
        exec i s = .next ((s.setLine l { r with
          cfg := cfg, state := .idle, ring := .stopped, answer := .stopped, hang := .stopped, guard := .stopped
          faultClear := false, ringPending := none }).respond 2 tag answer [])) ∧
      (s.mga.phase = .running → r.cfg.kind ≠ .unused → cfg.kind = .unused → r.state = .idle → s.lineConns l = [] →
        exec i s = .next (((s.setLine l { r with
          cfg := cfg, state := .disabled, ring := .stopped, answer := .stopped, hang := .stopped, guard := .stopped
          faultClear := false, ringPending := none }).raise (.line l .idle .disabled .config)).respond 2 tag answer [])) ∧
      (s.mga.phase = .running → r.cfg.kind = .unused → cfg.kind ≠ .unused → r.state = .disabled → ¬ full →
        s.faultCondition l = true → s.lineConns l = [] →
        exec i s = .next ((((s.setLine l { r with
          cfg := cfg, state := .fault, ring := .stopped, answer := .stopped, hang := .stopped, guard := .stopped
          faultClear := false, ringPending := none }).raise (.line l .disabled .idle .config)).raise
          (.line l .idle .fault .config)).respond 2 tag answer [])) ∧
      let stored := s.setLine l { r with cfg := cfg }
      let entered := fun (new : LineState) (burst : Option CgNo) => s.setLine l { r with
        cfg := cfg, state := new
        ring := if new = .ringingIn ∧ cfg.ringTimeout ≠ 0 then .running (cfg.ringTimeout * 100) else .stopped
        answer := .stopped, hang := .stopped, guard := .stopped, faultClear := false, ringPending := burst }
      let upOrIdle : LineState :=
        if cfg.kind.isWire && offHook r.far then .ringingIn
        else if decide (cfg.kind = .hootLeg) && (s.group cfg.group).cfg.enabled then .active
        else .idle
      let monitored := ∃ t : State, exec i s = .next t ∧
        t.mga.responses = s.mga.responses ++
          [{ kind := 2, tag := tag, code := answer, overrun := s.mga.overrun, data := [] }] ∧
        (t.line l).cfg = cfg ∧ (t.line l).state = (if cfg.kind.isWire then .active else upOrIdle) ∧
        (t.line l).guard = .stopped ∧ (t.line l).faultClear = false ∧ (t.line l).totals = t.totalsNow l ∧
        (∀ (p : PosNo) (c : SpkNo), s.assign p c = .line l → s.online p = true → s.connAt p (.spk c) = none →
          ({ line := l, pos := p, place := .spk c, talk := false, joined := s.cdu.clock } : Conn) ∈ t.cxm.conns) ∧
        ∀ l' : LineNo, l' ≠ l → t.line l' = s.line l'
      -- a line leaves UNUSED with no fault condition
      (s.mga.phase = .running → r.cfg.kind = .unused → cfg.kind ≠ .unused → r.state = .disabled → ¬ full →
        s.faultCondition l = false → s.lineConns l = [] →
        (s.noMonitorDue l →
          let begun := (entered upOrIdle none).raise (.line l .disabled .idle .config)
          exec i s = .next ((if upOrIdle = .idle then begun
            else begun.raise (.line l .idle upOrIdle .config)).respond 2 tag answer [])) ∧
        (¬ s.noMonitorDue l → s.totalsReported → monitored)) ∧
      -- a change of kind or group in IDLE
      (r.cfg.kind ≠ .unused → cfg.kind ≠ .unused → r.state = .idle → ¬ full →
        (s.mga.phase = .held ∨ (cfg.kind = r.cfg.kind ∧ (cfg.kind ≠ .hootLeg ∨ cfg.group = r.cfg.group)) →
          exec i s = .next (stored.respond 2 tag answer [])) ∧
        (s.mga.phase = .running → cfg.kind ≠ r.cfg.kind ∨ (cfg.kind = .hootLeg ∧ cfg.group ≠ r.cfg.group) →
          (s.faultCondition l = true → s.lineConns l = [] → exec i s = .next
            (((entered .fault none).raise (.line l .idle .fault .config)).respond 2 tag answer [])) ∧
          (s.faultCondition l = false →
            let new : LineState := if cfg.kind.isWire && !(s.lineConns l).isEmpty then .active else upOrIdle
            exec i s = .next ((if new = .idle then stored
              else (entered new (if new = .active then r.ringPending else none)).raise
                (.line l .idle new .config)).respond 2 tag answer [])))) ∧
      -- a line in FAULT
      (s.mga.phase = .running → r.cfg.kind ≠ .unused → cfg.kind ≠ .unused → r.state = .fault → ¬ full →
        (r.guard ≠ .expired ∨ (cfg.faultMode = .latched ∧ r.faultClear = false) →
          exec i s = .next (stored.respond 2 tag answer [])) ∧
        (r.guard = .expired → cfg.faultMode = .follow ∨ r.faultClear = true →
          (s.noMonitorDue l → exec i s = .next
            (((entered upOrIdle (if upOrIdle = .active then r.ringPending else none)).raise
              (.line l .fault upOrIdle .clear)).respond 2 tag answer [])) ∧
          (¬ s.noMonitorDue l → s.lineConns l = [] → s.totalsReported → monitored))) ∧
      -- a line goes to UNUSED
      (r.cfg.kind ≠ .unused → cfg.kind = .unused → r.state = .idle ∨ r.state = .fault →
        (s.mga.phase = .held → s.lineConns l = [] →
          exec i s = .next ((entered .disabled none).respond 2 tag answer [])) ∧
        (s.mga.phase = .running → s.lineConns l = [] → exec i s = .next
          (((entered .disabled none).raise (.line l r.state .disabled .config)).respond 2 tag answer [])) ∧
        ∃ t : State, exec i s = .next t ∧ t.lineConns l = [] ∧ (t.line l).state = .disabled ∧ (t.line l).cfg = cfg ∧
          t.cxm.conns = s.cxm.conns.filter (fun c => c.line ≠ l) ∧ ∀ l' : LineNo, l' ≠ l → t.line l' = s.line l')

/-- R27, R31, R46, R140: writes of POSITION_CFG, KEY_MAP and LAMP_STYLE: their refusals in their order, their clamps, and
what is stored; a changed record_mode re-resolves, and no connection or talker goes. -/
def Obligations.WriteConsoleTables : Prop :=
  ∀ (tag index : U16) (s : State), s.serving →
    (∀ e : PositionEntry,
      let i : Instr := .writePositionCfg tag index e
      let refused := fun code : ResultCode => exec i s = .next (s.respond 2 tag code [])
      let reserved := 2 < e.recordMode.toNat ∨ 2 < e.talkClass.toNat ∨ 1 < e.autoHold.toNat
      (32 ≤ index.toNat → refused .badIndex) ∧
      (index.toNat < 32 → reserved → refused .badValue) ∧
      (index.toNat < 32 → ¬ reserved → 7 < e.ringSpeaker.toNat ∨ 3 < e.ringTone.toNat → refused .badIndex) ∧
      ∀ (p : PosNo) (cfg : PositionCfg), index.toNat = p.val → e.recordMode.toNat = cfg.recordMode.code →
        e.talkClass.toNat = talkClassCode cfg.talkClass → e.autoHold.toNat = (if cfg.autoHold then 1 else 0) →
        cfg.duck = min e.duck.toNat 16384 → e.ringSpeaker.toNat = cfg.ringSpeaker.val →
        e.ringTone.toNat = cfg.ringTone.val → cfg.volumes = e.volumes.map (fun v => min v.toNat 16384) →
        let answer : ResultCode :=
          if 16384 < e.duck.toNat ∨ ∃ v ∈ e.volumes.toList, 16384 < v.toNat then .okClamped else .ok
        (cfg.recordMode = (s.position p).cfg.recordMode → exec i s = .next
          ((s.setPosition p { s.position p with cfg := cfg }).respond 2 tag answer [])) ∧
        ∃ t : State, exec i s = .next t ∧ t.position p = { s.position p with cfg := cfg } ∧
          (∀ q : PosNo, q ≠ p → t.position q = s.position q) ∧
          t.lif = s.lif ∧ t.lnc = s.lnc ∧ t.cxm = s.cxm ∧ t.cdu = s.cdu ∧ t.mix = s.mix ∧ t.gtu = s.gtu ∧
          (s.needsSettled → t.needsSettled)) ∧
    (∀ e : KeyEntry,
      let i : Instr := .writeKeyMap tag index e
      let refused := fun code : ResultCode => exec i s = .next (s.respond 2 tag code [])
      (1536 ≤ index.toNat → refused .badIndex) ∧
      (index.toNat < 1536 → 9 < e.action.toNat ∨ 2 < e.colour.toNat → refused .badValue) ∧
      (index.toNat < 1536 → e.colour.toNat ≤ 2 →
        (e.action.toNat = 1 ∧ 512 ≤ e.target.toNat) ∨ (e.action.toNat = 6 ∧ 64 ≤ e.target.toNat) ∨
          (e.action.toNat = 7 ∧ 8 ≤ e.target.toNat) → refused .badIndex) ∧
      ∀ (p : PosNo) (k : KeyNo) (x : Key), index.toNat = 48 * p.val + k.val → e.colour.toNat = x.colour.code →
        (match x.action with
          | .none => e.action = 0
          | .line l => e.action = 1 ∧ e.target.toNat = l.val
          | .release => e.action = 2
          | .hold => e.action = 3
          | .ring => e.action = 4
          | .privacy => e.action = 5
          | .talkGroup g => e.action = 6 ∧ e.target.toNat = g.val
          | .talkSpeaker c => e.action = 7 ∧ e.target.toNat = c.val
          | .record => e.action = 8
          | .host => e.action = 9) →
        exec i s = .next
          ({ s with psc := { s.psc with keyMap := s.psc.keyMap.set (keyIndex p k) x } }.respond 2 tag .ok [])) ∧
    ∀ e : LampEntry,
      let i : Instr := .writeLampStyle tag index e
      let refused := fun code : ResultCode => exec i s = .next (s.respond 2 tag code [])
      (16 ≤ index.toNat → refused .badIndex) ∧
      (index.toNat < 16 →
        3 < e.colour.toNat ∨ (1 < e.pattern.toNat ∧ e.pattern.toNat < 16) ∨ 31 < e.pattern.toNat →
        refused .badValue) ∧
      ∀ (n : Fin 16) (x : LampStyle), index.toNat = n.val → [e.colour, e.pattern] = x.bytes →
        exec i s = .next ({ s with psc := { s.psc with lampStyle := s.psc.lampStyle.set n x } }.respond 2 tag .ok [])

/-- R32, R33, R70: a WRITE_ENTRY on SPEAKER_ASSIGN: its refusals in their order, and what a taken write does: nothing when it
repeats the stored assignment; otherwise the old line's monitor at the place goes, the assignment is stored, and the new
line's monitor is made when its conditions hold. -/
def Obligations.WriteSpeakerAssignMovesTheMonitor : Prop :=
  ∀ (tag index : U16) (e : AssignEntry) (s : State), s.serving →
    let i : Instr := .writeSpeakerAssign tag index e
    let refused := fun code : ResultCode => exec i s = .next (s.respond 2 tag code [])
    (256 ≤ index.toNat → refused .badIndex) ∧
    (index.toNat < 256 → 2 < e.kind.toNat → refused .badValue) ∧
    (index.toNat < 256 → (e.kind = 1 ∧ 512 ≤ e.target.toNat) ∨ (e.kind = 2 ∧ 64 ≤ e.target.toNat) →
      refused .badIndex) ∧
    ∀ (p : PosNo) (c : SpkNo) (a : Assign), index.toNat = 8 * p.val + c.val →
      (match a with
        | .none => e.kind = 0
        | .line l => e.kind = 1 ∧ e.target.toNat = l.val
        | .group g => e.kind = 2 ∧ e.target.toNat = g.val) →
      let old := s.assign p c
      let stored := { s with psc := { s.psc with assigns := s.psc.assigns.set (assignIndex p c) a } }
      let full := ∃ l : LineNo, a = .line l ∧ old ≠ a ∧ 16 ≤ (s.psc.assigns.toList.filter (fun x => x = a)).length
      (full → refused .busy) ∧
      (old = a → exec i s = .next (s.respond 2 tag .ok [])) ∧
      (¬ full → (∀ l : LineNo, old ≠ .line l) → (∀ l : LineNo, a ≠ .line l) →
        exec i s = .next (stored.respond 2 tag .ok [])) ∧
      (¬ full → old ≠ a →
        let rest := match old with
          | .line _ => s.cxm.conns.filter (fun x => ¬ (x.pos = p ∧ x.place = .spk c))
          | _ => s.cxm.conns
        ∃ t : State, exec i s = .next t ∧ t.psc = stored.psc ∧
          t.mga.responses = s.mga.responses ++
            [{ kind := 2, tag := tag, code := .ok, overrun := s.mga.overrun, data := [] }] ∧
          t.lif = s.lif ∧ t.cdu = s.cdu ∧ t.mix = s.mix ∧ t.gtu = s.gtu ∧
          ((∀ l : LineNo, a ≠ .line l) ∨ s.mga.phase = .held ∨ s.online p = false → t.cxm.conns = rest) ∧
          (∀ l : LineNo, a = .line l → s.mga.phase = .running → s.online p = true → s.connectionsLawful →
            ((s.line l).state = .disabled ∨ (s.line l).state = .fault → t.cxm.conns = rest) ∧
            ((s.line l).state ≠ .disabled → (s.line l).state ≠ .fault → (∀ x ∈ rest, x.pos = p → x.place ≠ .spk c) →
              t.cxm.conns = rest ++
                [{ line := l, pos := p, place := .spk c, talk := false, joined := s.cdu.clock }])))

/-- R111, R115, R121, R123, R124: a WRITE_ENTRY on GROUP_CFG: its refusals, its clamps, and what is stored. A write that
keeps talker_limit, record_code and enabled changes nothing else. A lowered limit keeps the earliest granted talkers and
takes the others from the latest on: each goes to the front of its class in the wait queue while the pool has room, so that
those of one class stand in their former grant order, and is removed when it has none. A raised limit promotes from the head
of the queue, passing over the entries whose recording checks fail. A disabling empties the group and takes its ACTIVE legs
to IDLE; an enabling takes its IDLE legs to ACTIVE. -/
def Obligations.WriteGroupCfgStoresAndActs : Prop :=
  ∀ (tag index : U16) (e : GroupEntry) (s : State), s.serving →
    let i : Instr := .writeGroupCfg tag index e
    let refused := fun code : ResultCode => exec i s = .next (s.respond 2 tag code [])
    let answer : ResultCode :=
      if e.talkerLimit.toNat = 0 ∨ 4 < e.talkerLimit.toNat ∨ 600 < e.maxTalk.toNat ∨ 32767 < e.groupGain.toNat ∨
        32767 < e.legGain.toNat then .okClamped else .ok
    (64 ≤ index.toNat → refused .badIndex) ∧
    (index.toNat < 64 → 1 < e.enabled.toNat ∨ 3 < e.recordCode.toNat → refused .badValue) ∧
    ∀ (g : GroupNo) (cfg : GroupCfg), index.toNat = g.val → e.enabled.toNat = (if cfg.enabled then 1 else 0) →
      cfg.talkerLimit = max 1 (min e.talkerLimit.toNat 4) → cfg.maxTalk = min e.maxTalk.toNat 600 →
      cfg.groupGain = min e.groupGain.toNat 32767 → cfg.legGain = min e.legGain.toNat 32767 →
      e.recordCode.toNat = cfg.recordCode.code →
      let r := s.group g
      (cfg.talkerLimit = r.cfg.talkerLimit → cfg.recordCode = r.cfg.recordCode → cfg.enabled = r.cfg.enabled →
        exec i s = .next ((s.setGroup g { r with cfg := cfg }).respond 2 tag answer [])) ∧
      ∃ t : State, exec i s = .next t ∧ (t.group g).cfg = cfg ∧
        (r.talkers.length ≤ r.cfg.talkerLimit → (t.group g).talkers.length ≤ cfg.talkerLimit) ∧
        (∀ g' : GroupNo, g' ≠ g → t.group g' = s.group g') ∧
        t.lif = s.lif ∧ t.psc = s.psc ∧ t.cxm = s.cxm ∧ t.cdu = s.cdu ∧ t.mix = s.mix ∧
        (cfg.enabled = r.cfg.enabled → cfg.talkerLimit < r.cfg.talkerLimit →
          let late := r.talkers.drop cfg.talkerLimit
          let back := (late.drop (late.length - s.poolFree)).map (fun e => { e with stamp := s.cdu.clock })
          (t.group g).talkers = r.talkers.take cfg.talkerLimit ∧ (t.group g).marks = r.marks ∧
          (∀ c : TalkClass, (t.group g).waits.filter (fun e => e.cls = c) =
            back.filter (fun e => e.cls = c) ++ r.waits.filter (fun e => e.cls = c)) ∧
          (r.waits.Pairwise (fun a b => classRank b.cls ≤ classRank a.cls) →
            (t.group g).waits.Pairwise (fun a b => classRank b.cls ≤ classRank a.cls))) ∧
        (cfg.enabled = r.cfg.enabled → r.cfg.talkerLimit < cfg.talkerLimit →
          r.talkers.length ≤ r.cfg.talkerLimit →
          let free := cfg.talkerLimit - r.talkers.length
          let walked := s.promoted g cfg.talkerLimit r.talkers r.waits
          (t.group g).talkers = walked.1 ∧ (t.group g).waits = walked.2 ∧ (t.group g).marks = r.marks ∧
          (r.cfg.recordCode = .never ∨ r.waits = [] →
            (t.group g).talkers = r.talkers ++ (r.waits.take free).map (fun e => { e with stamp := s.cdu.clock }) ∧
            (t.group g).waits = r.waits.drop free)) ∧
        (s.mga.phase = .running → r.cfg.enabled = true → cfg.enabled = false →
          (t.group g).talkers = [] ∧ (t.group g).waits = [] ∧ (t.group g).marks = [] ∧
          ∀ l : LineNo, (s.line l).cfg.kind = .hootLeg → (s.line l).cfg.group = g → (s.line l).state = .active →
            (t.line l).state = .idle) ∧
        (s.mga.phase = .running → r.cfg.enabled = false → cfg.enabled = true →
          ∀ l : LineNo, (s.line l).cfg.kind = .hootLeg → (s.line l).cfg.group = g → (s.line l).state = .idle →
            (t.line l).state = .active) ∧
        (s.mga.phase = .held ∨ cfg.enabled = r.cfg.enabled → t.lnc = s.lnc) ∧
        (∀ l : LineNo, (s.line l).cfg.kind ≠ .hootLeg ∨ (s.line l).cfg.group ≠ g → t.line l = s.line l)

/-- R73, R74, R84, R85: a WRITE_ENTRY on CG_CFG: its refusals in their order, its clamps, and a taken write: stored alone
while enable keeps its value, loading at an enabling, and stopping at a disabling. -/
def Obligations.WriteCgCfgStoresAndActs : Prop :=
  ∀ (tag index : U16) (e : CgEntry) (s : State), s.serving →
    let i : Instr := .writeCgCfg tag index e
    let refused := fun code : ResultCode => exec i s = .next (s.respond 2 tag code [])
    let reserved := 1 < e.enable.toNat ∨ 2 < e.mode.toNat ∨ 1 < e.pair.toNat
    let answer : ResultCode :=
      if e.period.toNat = 0 ∨ 1000 < e.period.toNat ∨ 1000 < e.rise.toNat ∨ 1000 < e.fall.toNat
        then .okClamped else .ok
    (16 ≤ index.toNat → refused .badIndex) ∧
    (index.toNat < 16 → reserved → refused .badValue) ∧
    (index.toNat < 16 → ¬ reserved → 15 < e.source.toNat → e.source.toNat ≠ 255 → refused .badIndex) ∧
    ∀ (n : CgNo) (enable pair : Bool) (mode : CgMode) (source : Option CgNo), index.toNat = n.val →
      e.enable.toNat = (if enable then 1 else 0) → e.pair.toNat = (if pair then 1 else 0) →
      e.mode.toNat = mode.code →
      (match source with
        | none => e.source.toNat = 255
        | some m => e.source.toNat = m.val) →
      let g := s.gen n
      let shape : Shape :=
        { period := max 1 (min e.period.toNat 1000), rise := min e.rise.toNat 1000, fall := min e.fall.toNat 1000 }
      let stored : Gen := { g with enable := enable, mode := mode, source := source, pending := shape, pair := pair }
      (source = some n → refused .badValue) ∧
      (∀ m : CgNo, source = some m → (s.gen m).source = some n → refused .badValue) ∧
      (s.closesCycle n source = true → refused .badValue) ∧
      (s.closesCycle n source = false →
        (g.enable = true → enable = true → mode ≠ g.mode ∨ source ≠ g.source → refused .busy) ∧
        (g.enable = true → enable = true → mode = g.mode → source = g.source →
          exec i s = .next ((s.setGen n stored).respond 2 tag answer [])) ∧
        (g.enable = false → enable = false → exec i s = .next ((s.setGen n stored).respond 2 tag answer [])) ∧
        (g.enable = false → enable = true → exec i s = .next
          ((s.setGen n { stored with
            active := shape, phase := 0, running := decide (s.mga.phase = .running) && decide (mode ≠ .oneshot) }).respond
            2 tag answer [])) ∧
        (g.enable = true → enable = false → ∃ t : State, exec i s = .next (t.respond 2 tag answer []) ∧
          t = { s with cdu := { s.cdu with gens := t.cdu.gens }, lnc := t.lnc } ∧
          t.gen n = { stored with running := false, phase := 0 } ∧
          (∀ l : LineNo, (s.line l).ringPending = some n → t.line l = { s.line l with ringPending := none }) ∧
          (∀ m : CgNo, m ≠ n → (s.gen m).enable = true → (s.gen m).source = some n →
            (s.gen m).mode = .follow → t.gen m = if s.mga.phase = .running
              then { s.gen m with active := (s.gen m).pending, phase := 0 } else s.gen m) ∧
          (s.mga.phase = .held → ∀ m : CgNo, m ≠ n → t.gen m = s.gen m)))

/-- R107, R108, R146, R197: writes of TONE and REC_MODE. A length write that leaves the read index beyond the loop sets it
to 0; a body that does not fit the index is malformed; the mode is locked while the switching blocks are running. -/
def Obligations.WriteToneAndRecMode : Prop :=
  ∀ (tag index : U16) (s : State), s.serving →
    (∀ v : U16,
      (∀ (t : ToneNo) (k : Fin 256), index.toNat = 256 * t.val + k.val →
        exec (.writeTone tag index (.sample v)) s = .next
          ({ s with mix := { s.mix with tones := s.mix.tones.set t { s.mix.tones[t] with
            samples := (s.mix.tones[t]).samples.set k v } } }.respond 2 tag .ok [])) ∧
      (1023 < index.toNat →
        exec (.writeTone tag index (.sample v)) s = .next (s.respond 2 tag .badRequest []))) ∧
    (∀ length level : U16,
      (index.toNat ≤ 1023 →
        exec (.writeTone tag index (.control length level)) s = .next (s.respond 2 tag .badRequest [])) ∧
      (1027 < index.toNat →
        exec (.writeTone tag index (.control length level)) s = .next (s.respond 2 tag .badIndex [])) ∧
      (∀ t : ToneNo, index.toNat = 1024 + t.val →
        let n := max 8 (min length.toNat 256)
        let r := s.mix.tones[t]
        exec (.writeTone tag index (.control length level)) s = .next
          ({ s with mix := { s.mix with tones := s.mix.tones.set t { r with
            length := n, level := min level.toNat 32767, index := if n ≤ r.index then 0 else r.index } } }.respond 2 tag
            (if length.toNat < 8 ∨ 256 < length.toNat ∨ 32767 < level.toNat then .okClamped else .ok) []))) ∧
    ∀ mode : Byte,
      let i : Instr := .writeRecMode tag index mode
      (index ≠ 0 → exec i s = .next (s.respond 2 tag .badIndex [])) ∧
      (index = 0 → 1 < mode.toNat → exec i s = .next (s.respond 2 tag .badValue [])) ∧
      (index = 0 → mode.toNat ≤ 1 → s.mga.phase = .running → exec i s = .next (s.respond 2 tag .modeLocked [])) ∧
      (index = 0 → mode.toNat ≤ 1 → s.mga.phase = .held → exec i s = .next
        ({ s with rcu := { s.rcu with mode := if mode = 0 then .mono else .stereo } }.respond 2 tag .ok []))

/-- R131 to R133, R140: writes of the policy tables: their refusals in their order and what is stored; the lines with a
connection are re-resolved, no connection goes, and without connections nothing else changes. -/
def Obligations.WritePolicyTables : Prop :=
  ∀ (tag index : U16) (s : State), s.serving →
    let taken := fun (i : Instr) (stored : State) =>
      (s.cxm.conns = [] → exec i s = .next (stored.respond 2 tag .ok [])) ∧
      ∃ t : State, exec i s = .next t ∧
        t.mga.responses = s.mga.responses ++
          [{ kind := 2, tag := tag, code := .ok, overrun := s.mga.overrun, data := [] }] ∧
        t.prs.tablesEnabled = stored.prs.tablesEnabled ∧ t.prs.fixedEnabled = stored.prs.fixedEnabled ∧
        t.prs.defaultCode = stored.prs.defaultCode ∧ t.prs.fixed = stored.prs.fixed ∧
        t.prs.ranges = stored.prs.ranges ∧ t.prs.demand = s.prs.demand ∧ t.prs.groupNeed = s.prs.groupNeed ∧
        (∀ l : LineNo, s.lineConns l ≠ [] → t.keptNeed (.line l) = t.needNow (.line l)) ∧
        (∀ l : LineNo, s.lineConns l = [] → t.keptNeed (.line l) = s.keptNeed (.line l)) ∧
        t.lif = s.lif ∧ t.lnc = s.lnc ∧ t.psc = s.psc ∧ t.cxm = s.cxm ∧ t.cdu = s.cdu ∧ t.mix = s.mix ∧ t.gtu = s.gtu
    (∀ e : PolicyCtrlEntry,
      let i : Instr := .writePolicyCtrl tag index e
      let bad := 1 < e.tablesEnabled.toNat ∨ 1 < e.fixedEnabled.toNat ∨ 3 < e.defaultCode.toNat
      (index ≠ 0 → exec i s = .next (s.respond 2 tag .badIndex [])) ∧
      (index = 0 → bad → exec i s = .next (s.respond 2 tag .badValue [])) ∧
      ∀ (tables fixed : Bool) (code : PolicyCode), index = 0 → e.tablesEnabled.toNat = (if tables then 1 else 0) →
        e.fixedEnabled.toNat = (if fixed then 1 else 0) → e.defaultCode.toNat = code.code →
        taken i { s with prs := { s.prs with
          tablesEnabled := tables, fixedEnabled := fixed, defaultCode := code } }) ∧
    (∀ b : Byte,
      let i : Instr := .writePolicyFixed tag index b
      (64 ≤ index.toNat → exec i s = .next (s.respond 2 tag .badIndex [])) ∧
      (index.toNat < 64 → 4 < b.toNat → exec i s = .next (s.respond 2 tag .badValue [])) ∧
      ∀ (n : Fin 64) (code : Option PolicyCode), index.toNat = n.val →
        (match code with
          | some c => b.toNat = c.code
          | none => b.toNat = 4) →
        taken i { s with prs := { s.prs with fixed := s.prs.fixed.set n code } }) ∧
    ∀ e : PolicyRangeEntry,
      let i : Instr := .writePolicyRange tag index e
      let bad := 1 < e.enabled.toNat ∨ 3 < e.code.toNat
      let beyond := 511 < e.first.toNat ∨ 511 < e.last.toNat
      (8 ≤ index.toNat → exec i s = .next (s.respond 2 tag .badIndex [])) ∧
      (index.toNat < 8 → bad → exec i s = .next (s.respond 2 tag .badValue [])) ∧
      (index.toNat < 8 → ¬ bad → beyond → exec i s = .next (s.respond 2 tag .badIndex [])) ∧
      (index.toNat < 8 → ¬ bad → ¬ beyond → e.last.toNat < e.first.toNat →
        exec i s = .next (s.respond 2 tag .badValue [])) ∧
      ∀ (n : Fin 8) (on : Bool) (code : PolicyCode) (first last : LineNo), index.toNat = n.val →
        e.enabled.toNat = (if on then 1 else 0) → e.code.toNat = code.code → e.first.toNat = first.val →
        e.last.toNat = last.val → first ≤ last →
        taken i { s with prs := { s.prs with
          ranges := s.prs.ranges.set n { enabled := on, code := code, first := first, last := last } } }

/-- R3, R28, R53, R75, R106, R112, R139, R147, R177, R183, R198: READ_STATE: BAD_VALUE for an object kind of 8 or above,
BAD_INDEX beyond the kind's range, and otherwise the object's fields, byte for byte; it changes nothing, but that the clear
option sets a clip counter to 0 after its value is read. The codes of the fields are pinned by the lists that number them;
the positions with timed-out marks stand in ascending number, as every mark is put in its place. The code of a share state
and the layout where R198 leaves it to the owners' lists are the model's inferences (notes/assumptions/13.md, 14.md), and the
order of the pressed talk keys its choice (notes/assumptions/14.md). That a REC_MODE write taken while held moves the range
of channel numbers at once, and not at hold release, is the model's choice (notes/assumptions/29.md). -/
def Obligations.ReadStateAnswersAndClears : Prop :=
  (∀ (tag index : U16) (clear : Bool) (s : State), s.serving →
    let answer := fun (t : State) (data : List Byte) =>
      (.next (t.respond 3 tag .ok data) : Host.Outcome State Fault Refusal)
    let channels : Nat := if s.rcu.mode = .mono then 128 else 64
    let num := fun n : Nat => BitVec.ofNat 16 n
    let one := fun n : Nat => BitVec.ofNat 8 n
    let two := fun n : Nat => [one (n / 256), one n]
    let four := fun n : Nat => [one (n / 16777216), one (n / 65536), one (n / 256), one n]
    let flag := fun b : Bool => if b then one 1 else one 0
    let source := fun x : Option CgNo => match x with
      | some n => one n.val
      | none => 255
    let timer := fun x : Timer => match x with
      | .stopped => [0]
      | .running n => 1 :: four n
      | .expired => [2]
    let share := fun l : LineNo => match s.share l with
      | .none => ([0, 255] : List Byte)
      | .sole => [1, 255]
      | .bridged => [2, 255]
      | .exclusive p => [3, one p.val]
    let place := fun x : Place => match x with
      | .left => one 0
      | .right => one 1
      | .spk c => one (2 + c.val)
      | .hold => one 10
    let records := fun cs : List Conn => one cs.length :: cs.flatMap fun c =>
      two c.line.val ++ [one c.pos.val, place c.place, if c.place.isHandset then 0 else 1, flag c.talk] ++
        four c.joined.toNat
    let entries := fun es : List TalkEntry => one es.length :: es.flatMap fun e =>
      [one e.pos.val, one (talkClassCode e.cls)] ++ four e.stamp.toNat
    let order := s.rcu.waiting.filter (fun e => decide (e.rank = .mandatory)) ++
      s.rcu.waiting.filter (fun e => decide (e.rank = .best))
    let binding : Target → List Byte := fun x => match s.boundChan x with
      | some c => [1, one c.val, 255, 255, 255]
      | none => match order.find? (fun e => decide (e.target = x)) with
        | some e => [2, 255, if e.rank = .best then 0 else 1] ++ two (order.findIdx (fun e => decide (e.target = x)) + 1)
        | none => [0, 255, 255, 255, 255]
    let tag16 := fun x : Tag => one x.indicator.code :: (match x.target with
        | none => [0, 0, 0]
        | some (.line l) => 1 :: two l.val
        | some (.group g) => 2 :: two g.val) ++ two x.segment.toNat ++ [one (min x.parties.length 4)] ++
      (x.parties.map (fun p : PosNo => one p.val) ++ [255, 255, 255, 255]).take 4 ++ [0, 0, 0, 0, 0]
    let channel := fun (c first : ChanNo) (readies : List Bool) =>
      let r := s.chan c
      one r.state.code :: (match r.target with
          | none => [0, 255, 255]
          | some (.line l) => 1 :: two l.val
          | some (.group g) => 2 :: two g.val) ++ two r.segment.toNat ++ [flag (readies.all id), one r.closeCount] ++
        tag16 s.lif.prepared.tags[first] ++ one readies.length :: readies.map flag ++ [flag (s.portUp recPort)] ++
        two (s.rcu.waiting.filter (fun e => decide (e.rank = .mandatory))).length ++
        two (s.rcu.waiting.filter (fun e => decide (e.rank = .best))).length
    (∀ kind : Byte, 8 ≤ kind.toNat →
      exec (.readState tag clear kind index) s = .next (s.respond 3 tag .badValue [])) ∧
    (∀ x ∈ ([(0, 512), (1, 32), (2, 512), (3, 64), (4, 16), (5, channels), (6, 9), (7, 960)] : List (Nat × Nat)),
      x.2 ≤ index.toNat →
      exec (.readState tag clear (BitVec.ofNat 8 x.1) index) s = .next (s.respond 3 tag .badIndex [])) ∧
    (∀ l : LineNo,
      let r := s.line l
      exec (.readState tag clear 0 (num l.val)) s = answer s
        ([one r.state.code, one (farCode r.far), one (s.outSignal l).code, source r.ringPending, flag r.faultClear] ++
          timer r.ring ++ timer r.answer ++ timer r.hang ++ timer r.guard ++
          [one r.totals.unheld, one r.totals.held, one r.totals.speaker] ++ share l ++ records (s.bridge l) ++
          [one (s.lineSide l).1.code] ++ (match (s.lineSide l).2 with
            | .default => [0, 255]
            | .fixed b => [1, one b.val]
            | .range n => [2, one n.val]) ++
          [one (s.linePolicy l).code, flag (s.demand l), one (s.keptNeed (.line l)).code] ++ binding (.line l))) ∧
    (∀ p : PosNo,
      let r := s.position p
      exec (.readState tag clear 1 (num p.val)) s = answer s
        ([flag (s.online p), flag r.hookLeft, flag r.hookRight, if r.selected = .left then 0 else 1, one (s.holdSlots p),
          one r.pressed.length] ++
          (r.pressed.flatMap fun e => one e.key.val :: match e.target with
            | .group g => [0, one g.val]
            | .lineSpeaker c => [1, one c.val]) ++
          match r.denial with
            | some d => [one d.key.val, one d.reason.code, one d.left]
            | none => [255, 255, 255])) ∧
    (∀ l : LineNo, exec (.readState tag clear 2 (num l.val)) s = answer s
      (share l ++ [one (s.bridge l).length, one (s.monitors l).length] ++ records (s.bridge l) ++
        records ((List.finRange 32).flatMap fun p => (List.finRange 8).flatMap fun k =>
          (s.monitors l).filter fun c => decide (c.pos = p) && decide (c.place = .spk k)))) ∧
    (∀ g : GroupNo,
      let r := s.group g
      let legs := (List.finRange 512).filter fun l =>
        decide ((s.line l).cfg.kind = .hootLeg) && decide ((s.line l).cfg.group = g) && decide ((s.line l).state = .active)
      exec (.readState tag clear 3 (num g.val)) s = answer s
        ([flag r.cfg.enabled, one r.cfg.talkerLimit] ++ two r.cfg.maxTalk ++ two r.cfg.groupGain ++ two r.cfg.legGain ++
          [one r.cfg.recordCode.code] ++ entries r.talkers ++ entries r.waits ++
          one legs.length :: legs.flatMap (fun l => two l.val) ++ one r.marks.length :: r.marks.map (fun p => one p.val) ++
          [one s.poolFree, match s.groupPolicy g with
            | some c => one c.code
            | none => 255,
          one (s.keptNeed (.group g)).code] ++ binding (.group g))) ∧
    (∀ n : CgNo,
      let g := s.gen n
      exec (.readState tag clear 4 (num n.val)) s = answer s
        ([flag g.enable, one g.mode.code, source g.source] ++ two g.pending.period ++ two g.pending.rise ++
          two g.pending.fall ++ [flag g.pair] ++ two g.active.period ++ two g.active.rise ++ two g.active.fall ++
          two g.phase ++ [flag g.running, flag g.own, flag (s.delivered n)] ++ four s.cdu.clock.toNat)) ∧
    (∀ c : ChanNo, s.rcu.mode = .mono →
      exec (.readState tag clear 5 (num c.val)) s = answer s (channel c c [s.rcu.slotReady[c]])) ∧
    (∀ c left right : ChanNo, s.rcu.mode = .stereo → left.val = 2 * c.val → right.val = 2 * c.val + 1 →
      exec (.readState tag clear 5 (num c.val)) s =
        answer s (channel c left [s.rcu.slotReady[left], s.rcu.slotReady[right]])) ∧
    (∀ n : PortNo,
      let r := s.port n
      exec (.readState tag clear 6 (num n.val)) s = answer s
        ([one r.align.code, one r.good, one r.miss, one s.lif.mgmtLink.val] ++
          if n.val < 4 then []
          else if n.val < 8 then
            8 :: ((List.finRange 32).filter fun p : PosNo => decide (4 + p.val / 8 = n.val)).map fun p =>
              flag s.lif.present[p]
          else 128 :: s.rcu.slotReady.toList.map flag)) ∧
    (∀ i : OutNo, exec (.readState tag clear 7 (num i.val)) s =
      answer (if clear then { s with mix := { s.mix with clips := s.mix.clips.set i 0 } } else s)
        (two s.mix.clips[i]))) ∧
  (∀ (p : PosNo) (ms : List PosNo), ms.Pairwise (fun a b => a < b) →
    (insertMark p ms).Pairwise (fun a b => a < b) ∧ ∀ q : PosNo, q ∈ insertMark p ms ↔ q = p ∨ q ∈ ms) ∧
  [LineState.disabled, .idle, .ringingIn, .unanswered, .callingOut, .active, .held, .fault].map LineState.code =
    List.range 8 ∧
  [FarSignal.idle, .calling, .answer, .loss].map farCode = List.range 4 ∧
  [OutSignal.idle, .calling, .answer].map OutSignal.code = List.range 3 ∧
  [DenyReason.fault, .disabled, .privateLine, .bridgeFull, .noRecorder, .wrongKind, .bridged, .noLine, .holdFull].map
    DenyReason.code = List.range 9 ∧
  [Need.none, .best, .mandatory].map Need.code = List.range 3 ∧
  [ChanState.stopped, .recording, .suspended, .closing].map ChanState.code = List.range 4 ∧
  [Indicator.idle, .audio, .gap, .ending].map Indicator.code = List.range 4 ∧
  [Align.down, .aligning, .up].map Align.code = List.range 3

/-- R19, R83: CLEAR_FAULT and TRIGGER: their refusals in their order and their effects. CLEAR_FAULT sets the mark of a line
in FAULT; a LATCHED line whose guard timer has expired, with no speaker assignment naming it, leaves at once. -/
def Obligations.ClearFaultAndTrigger : Prop :=
  ∀ (tag : U16) (s : State), s.serving →
    (∀ line : U16,
      let i : Instr := .clearFault tag line
      (512 ≤ line.toNat → exec i s = .next (s.respond 4 tag .badIndex [])) ∧
      ∀ l : LineNo, line.toNat = l.val →
        let r := s.line l
        (r.state ≠ .fault → exec i s = .next (s.respond 4 tag .busy [])) ∧
        (r.state = .fault → r.guard ≠ .expired →
          exec i s = .next ((s.setLine l { r with faultClear := true }).respond 4 tag .ok [])) ∧
        (s.mga.phase = .running → r.state = .fault → r.guard = .expired →
          (∀ j : Fin 256, s.psc.assigns[j] ≠ .line l) →
          let new : LineState :=
            if r.cfg.kind.isWire && offHook r.far then .ringingIn
            else if decide (r.cfg.kind = .hootLeg) && (s.group r.cfg.group).cfg.enabled then .active
            else .idle
          exec i s = .next
            (((s.setLine l { r with
              state := new
              ring := if new = .ringingIn ∧ r.cfg.ringTimeout ≠ 0 then .running (r.cfg.ringTimeout * 100) else .stopped
              answer := .stopped, hang := .stopped, guard := .stopped, faultClear := false
              ringPending := if new = .active then r.ringPending else none }).raise
              (.line l .fault new .clear)).respond 4 tag .ok []))) ∧
    ∀ cg : Byte,
      let i : Instr := .trigger tag cg
      (16 ≤ cg.toNat → exec i s = .next (s.respond 5 tag .badIndex [])) ∧
      ∀ n : CgNo, cg.toNat = n.val →
        (s.mga.phase = .held → exec i s = .next (s.respond 5 tag .held [])) ∧
        (s.mga.phase = .running → (s.gen n).enable = false → exec i s = .next (s.respond 5 tag .busy [])) ∧
        (s.mga.phase = .running → (s.gen n).enable = true →
          exec i s = .next ((if (s.gen n).mode = .oneshot ∧ (s.gen n).running = false
            then s.setGen n { s.gen n with running := true, phase := 0 } else s).respond 5 tag .ok []))

/-- R67, R68, R70: FORCE_RELEASE: its refusals in their order; a line without connections is answered OK with nothing
changed; otherwise the line is cleared of its connections and its standing monitors are made again: in a state that meets the
laws of the connection table, every online position's assignment to the line stands as a monitor that joined at the present
clock, and no other connection does. -/
def Obligations.ForceReleaseClearsTheLine : Prop :=
  ∀ (tag line : U16) (s : State), s.serving →
    let i : Instr := .forceRelease tag line
    (512 ≤ line.toNat → exec i s = .next (s.respond 6 tag .badIndex [])) ∧
    ∀ l : LineNo, line.toNat = l.val →
      (s.mga.phase = .held → exec i s = .next (s.respond 6 tag .held [])) ∧
      (s.mga.phase = .running → s.lineConns l = [] → exec i s = .next (s.respond 6 tag .ok [])) ∧
      (s.mga.phase = .running → s.lineConns l ≠ [] → s.totalsReported → ∃ t : State, exec i s = .next t ∧
        t.mga.responses = s.mga.responses ++
          [{ kind := 6, tag := tag, code := .ok, overrun := s.mga.overrun, data := [] }] ∧
        t.bridge l = [] ∧ t.cxm.conns.filter (fun c => c.line ≠ l) = s.cxm.conns.filter (fun c => c.line ≠ l) ∧
        (∀ x ∈ t.lineConns l, s.online x.pos = true ∧ x.joined = s.cdu.clock ∧
          ∃ c : SpkNo, x.place = .spk c ∧ s.assign x.pos c = .line l ∧ x.talk = false) ∧
        (s.connectionsLawful → ∀ (p : PosNo) (c : SpkNo), s.assign p c = .line l → s.online p = true →
          ({ line := l, pos := p, place := .spk c, talk := false, joined := s.cdu.clock } : Conn) ∈ t.cxm.conns) ∧
        (s.bridge l ≠ [] → t.cxm.privacy[l] = false) ∧
        (t.line l).totals = t.totalsNow l ∧ t.keptNeed (.line l) = t.needNow (.line l) ∧
        (∀ l' : LineNo, l' ≠ l → t.line l' = s.line l' ∧ t.cxm.privacy[l'] = s.cxm.privacy[l']) ∧
        ((s.line l).cfg.kind.isWire = true →
          (s.line l).state = .callingOut ∨ (s.line l).state = .active ∨ (s.line l).state = .held →
          (t.lineConns l = [] → (t.line l).state = if offHook (s.line l).far then .ringingIn else .idle) ∧
          (t.lineConns l ≠ [] → (t.line l).state = .active)) ∧
        (t.lineConns l = [] → t.demand l = false) ∧
        t.lif = s.lif ∧ t.psc = s.psc ∧ t.cdu = s.cdu ∧ t.mix = s.mix ∧ t.gtu = s.gtu)

/-- R185 to R188, R190, R198: the requests on event classes and on the lane. READ_SUMMARY changes nothing; ACK_CLASS answers
the summary and clears it and the pending mark, and in REARM the latest withheld occurrence makes a cell; SET_EVENT_MODE
keeps or drops the pending mark and the withheld occurrence by the new mode; SYSTEM is left as it is; SET_LANE_RATIO clamps.
That a ratio below the run count brings the stored count down at once is the model's inference (notes/assumptions/16.md). The
first clause is the summary's data, byte for byte: six bytes, and a bitmap of the size of the class. -/
def Obligations.EventClassAndLaneRequests : Prop :=
  (∀ (r : ClassRec) (c : EventClass), ∃ map : List Byte,
    r.bytes c = [match r.mode with
        | .off => 0
        | .each => 1
        | .latched => 2
        | .rearm => 3,
      if r.pending then 1 else 0, if r.lost then 1 else 0, if r.miss then 1 else 0,
      BitVec.ofNat 8 (r.count / 256), BitVec.ofNat 8 r.count] ++ map ∧
    map.length = (match c with
      | .line => 64
      | .connect => 4
      | .deny => 4
      | .talk => 8
      | .record => 16
      | .port => 2
      | .clip => 120
      | .key => 4
      | .system => 0) ∧
    ∀ (k : Nat) (b : Byte), map[k / 8]? = some b → (b.getLsbD (k % 8) = true ↔ k ∈ r.objects)) ∧
  ∀ (tag : U16) (s : State), s.serving →
    (∀ (cls mode : Byte), 9 ≤ cls.toNat →
      exec (.setEventMode tag cls mode) s = .next (s.respond 7 tag .badValue []) ∧
      exec (.readSummary tag cls) s = .next (s.respond 8 tag .badValue []) ∧
      exec (.ackClass tag cls) s = .next (s.respond 9 tag .badValue [])) ∧
    (∀ (cls mode : Byte), 3 < mode.toNat →
      exec (.setEventMode tag cls mode) s = .next (s.respond 7 tag .badValue [])) ∧
    (∀ mode : Byte, exec (.setEventMode tag 8 mode) s =
      .next (s.respond 7 tag (if mode = 1 then .ok else .badValue) [])) ∧
    (∀ c : EventClass, exec (.readSummary tag (BitVec.ofNat 8 c.idx.val)) s =
      .next (s.respond 8 tag .ok ((s.mga.cls c).bytes c))) ∧
    exec (.ackClass tag 8) s = .next (s.respond 9 tag .ok ((s.mga.cls .system).bytes .system)) ∧
    (∀ c : EventClass, c ≠ .system →
      let r := s.mga.cls c
      let data := r.bytes c
      let with' := fun x : ClassRec => { s with mga := s.mga.setCls c x }
      let b := BitVec.ofNat 8 c.idx.val
      let cleared : ClassRec := { r with pending := false, objects := [], miss := false, count := 0 }
      (r.mode ≠ .rearm ∨ r.withheld = none →
        exec (.ackClass tag b) s = .next ((with' cleared).respond 9 tag .ok data)) ∧
      (∀ (o : Occurrence) (stamp : Clock), r.mode = .rearm → r.withheld = some (o, stamp) → o.cls = c →
        exec (.ackClass tag b) s = .next
          (if s.mga.events.length < 128 then
            ({ s with mga := { s.mga.setCls c { cleared with withheld := none, pending := true, lost := false } with
              events := s.mga.events ++ [{ what := o, stamp := stamp, lost := r.lost }] } } : State).respond 9 tag .ok data
          else (with' { cleared with withheld := none, lost := true }).respond 9 tag .ok data)) ∧
      exec (.setEventMode tag b 0) s = .next
        ((with' { r with mode := .off, pending := false, withheld := none }).respond 7 tag .ok []) ∧
      exec (.setEventMode tag b 1) s = .next
        ((with' { r with mode := .each, pending := false, withheld := none }).respond 7 tag .ok []) ∧
      exec (.setEventMode tag b 2) s = .next
        ((with' { r with mode := .latched, withheld := none }).respond 7 tag .ok []) ∧
      exec (.setEventMode tag b 3) s = .next
        ((with' { r with mode := .rearm, withheld := if r.mode = .rearm then r.withheld else none }).respond
          7 tag .ok [])) ∧
    ∀ n : Byte,
      let ratio := max 1 (min n.toNat 8)
      exec (.setLaneRatio tag n) s = .next
        ({ s with mga := { s.mga with ratio := ratio, run := min s.mga.run ratio } }.respond 10 tag
          (if n.toNat = 0 ∨ 8 < n.toNat then .okClamped else .ok) [])

/-- R180, R181, R191, R197: what stands before every request's own checks. A malformed cell is answered BAD_REQUEST in every
phase, with byte 0 returned as it came but for 128; a WRITE_ENTRY that names no table is answered BAD_TABLE; a request that
finds 16 responses queued is discarded and sets the overrun flag; any other request in INIT is answered NOT_READY; and the
response queued carries and clears the overrun flag. -/
def Obligations.RequestsAreScreened : Prop :=
  (∀ (kind : Byte) (tag : U16) (s : State), s.awake → s.mga.responses.length < 16 →
    exec (.malformedRequest kind tag) s =
      .next (s.respond (if kind = 128 then 255 else kind) tag .badRequest [])) ∧
  (∀ (tag : U16) (table : Byte) (s : State), s.serving →
    exec (.unknownTableWrite tag table) s = .next (s.respond 2 tag .badTable [])) ∧
  (∀ (i : Instr) (s : State), s.awake → i.isRequest = true → 16 ≤ s.mga.responses.length →
    exec i s = .next { s with mga := { s.mga with overrun := true } }) ∧
  (∀ (i : Instr) (s : State), s.awake → i.isRequest = true → i.wellFormed = true → s.mga.phase = .init →
    s.mga.responses.length < 16 → (∀ (kind : Byte) (tag : U16), i ≠ .malformedRequest kind tag) →
    let cell := encodeRequest i
    exec i s = .next (s.respond (cell.getD 0 0) (word (cell.getD 2 0) (cell.getD 3 0)) .notReady [])) ∧
  ∀ (s : State) (kind : Byte) (tag : U16) (code : ResultCode) (data : List Byte),
    s.respond kind tag code data = { s with mga := { s.mga with
      responses := s.mga.responses ++
        [{ kind := kind, tag := tag, code := code, overrun := s.mga.overrun, data := data }]
      overrun := false } }

/-! ### Occurrences, outputs and policies -/

/-- R184 to R186, R189, R190, R195, R196, R198: how MGA takes an occurrence by its class's delivery mode, how the lane picks
the cell of one slot from the heads of the two queues, and the bytes of the cells: a response cell and, for every occurrence,
its event cell. The result codes, classes, kinds and causes are pinned by the lists that number them. What an event cell
carries where R198 leaves it open is the model's inference (notes/assumptions/15.md), but that byte 16 of RECORD_STOP,
RECORD_GAP and RECORD_RESUME is 0 is its choice (notes/assumptions/15.md), as is that a slot's bytes beyond its cell are 0
(notes/assumptions/28.md). -/
def Obligations.OccurrencesAndTheLane : Prop :=
  (∀ (m : Mga) (o : Occurrence) (stamp : Clock),
    let r := m.cls o.cls
    let noted : ClassRec := r.note o
    let cell : EventCell := { what := o, stamp := stamp, lost := r.lost }
    let queued := fun pending : Bool => { m.setCls o.cls { noted with pending := pending, lost := false } with
      events := m.events ++ [cell] }
    (r.mode = .off → m.take o stamp = m.setCls o.cls noted) ∧
    (r.mode = .each → m.events.length < 128 → m.take o stamp = queued r.pending) ∧
    (r.mode = .each → 128 ≤ m.events.length → m.take o stamp = m.setCls o.cls { noted with lost := true }) ∧
    (r.mode = .latched ∨ r.mode = .rearm → r.pending = false → m.events.length < 128 →
      m.take o stamp = queued true) ∧
    (r.mode = .latched ∨ r.mode = .rearm → r.pending = false → 128 ≤ m.events.length →
      m.take o stamp = m.setCls o.cls { noted with lost := true }) ∧
    (r.mode = .latched → r.pending = true → m.take o stamp = m.setCls o.cls noted) ∧
    (r.mode = .rearm → r.pending = true →
      m.take o stamp = m.setCls o.cls { noted with withheld := some (o, stamp) }) ∧
    (o.cls = .system → noted = r) ∧
    (o.cls ≠ .system → noted.count = min (r.count + 1) 65535 ∧ noted.miss = (r.miss || o.isMiss) ∧
      (∀ k : Nat, k ∈ noted.objects ↔ k ∈ r.objects ∨ o.object = some k) ∧
      noted = { r with objects := noted.objects, miss := noted.miss, count := noted.count })) ∧
  (∀ m : Mga,
    (∀ (x : Response) (xs : List Response) (e : EventCell) (es : List EventCell),
      m.responses = x :: xs → m.events = e :: es →
      (m.run < m.ratio → m.pick = (some (.response x), { m with responses := xs, run := m.run + 1 })) ∧
      (m.run = m.ratio → m.pick = (some (.event e), { m with events := es, run := 0 }))) ∧
    (∀ (x : Response) (xs : List Response), m.responses = x :: xs → m.events = [] →
      m.pick = (some (.response x), { m with responses := xs, run := min (m.run + 1) m.ratio })) ∧
    (∀ (e : EventCell) (es : List EventCell), m.responses = [] → m.events = e :: es →
      m.pick = (some (.event e), { m with events := es, run := 0 })) ∧
    (m.responses = [] → m.events = [] → m.pick = (none, m)) ∧
    (Mga.lane 4 m).1.length = min 4 (m.responses.length + m.events.length)) ∧
  (let one := fun n : Nat => BitVec.ofNat 8 n
   let two := fun n : Nat => [one (n / 256), one n]
   let four := fun n : Nat => [one (n / 16777216), one (n / 65536), one (n / 256), one n]
   let flag := fun b : Bool => if b then one 1 else one 0
   let target := fun x : Target => match x with
     | .line l => 1 :: two l.val
     | .group g => 2 :: two g.val
   (∀ r : Response, OutCell.bytes (.response r) =
     [r.kind, one r.code.code] ++ two r.tag.toNat ++ two r.data.length ++ [flag r.overrun, 0] ++ r.data ++
       List.replicate (504 - r.data.length) 0) ∧
   ∀ (stamp : Clock) (lost : Bool),
     let sent := fun o : Occurrence => OutCell.bytes (.event { what := o, stamp := stamp, lost := lost })
     let cell := fun (cls kind cause : Nat) (object : List Byte) =>
       [128, one cls] ++ two kind ++ [one cause, flag lost] ++ four stamp.toNat ++ object ++
         List.replicate (502 - object.length) 0
     (∀ (l : LineNo) (a b : LineState) (c : LineCause),
       sent (.line l a b c) = cell 0 0 c.code (two l.val ++ [one a.code, one b.code])) ∧
     (∀ (l : LineNo) (a : LineState), sent (.farCleared l a) = cell 0 1 255 (two l.val ++ [one a.code, one a.code])) ∧
     (∀ (k : ConnectKind) (p : PosNo) (l : LineNo) (x : Place) (c : ConnectCause) (j : Clock),
       sent (.connect k p l x c j) =
         cell 1 k.code c.code ([one p.val] ++ two l.val ++ [one x.code] ++ four j.toNat)) ∧
     (∀ p : PosNo, sent (.offline p) = cell 1 7 255 ([one p.val, 255, 255, 255, 0, 0, 0, 0]) ∧
       sent (.online p) = cell 1 8 255 ([one p.val, 255, 255, 255, 0, 0, 0, 0])) ∧
     (∀ (p : PosNo) (k : KeyNo) (c : DenyReason),
       sent (.deny p k c .none) = cell 2 0 c.code [one p.val, one k.val, 0, 255, 255] ∧
       (∀ l : LineNo, sent (.deny p k c (.line l)) = cell 2 0 c.code ([one p.val, one k.val, 1] ++ two l.val)) ∧
       ∀ g : GroupNo, sent (.deny p k c (.group g)) = cell 2 0 c.code ([one p.val, one k.val, 2] ++ two g.val)) ∧
     (∀ (g : GroupNo) (p : PosNo) (x : TalkClass),
       (∀ (k : TalkKind) (c : Option TalkCause) (w : Bool), sent (.talk k g p x c w) =
         cell 3 k.code ((c.map TalkCause.code).getD 255) [one g.val, one p.val, one (talkClassCode x), flag w]) ∧
       ∀ c : TalkRefusal, sent (.talkRefused g p x c) =
         cell 3 4 c.code [one g.val, one p.val, one (talkClassCode x), 0]) ∧
     (∀ (x : Target) (b : ChanNo) (n : U16) (c : RecordCause),
       (∀ a : ChanState, sent (.recordStart b x n a c) =
         cell 4 0 c.code (target x ++ [one b.val] ++ two n.toNat ++ [one a.code])) ∧
       sent (.recordStop b x n) = cell 4 1 RecordCause.need.code (target x ++ [one b.val] ++ two n.toNat) ∧
       (∀ r : Rank, sent (.recordMiss x r c) =
         cell 4 2 c.code (target x ++ [255, 0, 0, if r = .best then 0 else 1])) ∧
       sent (.recordGap b x n c) = cell 4 3 c.code (target x ++ [one b.val] ++ two n.toNat) ∧
       sent (.recordResume b x n c) = cell 4 4 c.code (target x ++ [one b.val] ++ two n.toNat)) ∧
     (∀ (n : PortNo) (a b : Align) (c : PortCause),
       sent (.port n a b c) = cell 5 0 c.code [one n.val, one a.code, one b.code]) ∧
     (∀ i : OutNo, sent (.clip i) = cell 6 0 255 (two i.val)) ∧
     (∀ (p : PosNo) (k : KeyNo) (up : Bool),
       sent (.key p k up) = cell 7 (if up then 1 else 0) 255 [one p.val, one k.val]) ∧
     sent .ready = cell 8 0 255 [] ∧ sent .switchingHeld = cell 8 1 255 [] ∧ sent .switchingReleased = cell 8 2 255 []) ∧
  [EventClass.line, .connect, .deny, .talk, .record, .port, .clip, .key, .system].map EventClass.idx = List.finRange 9 ∧
  [ResultCode.ok, .okClamped, .notReady, .badRequest, .badTable, .badIndex, .badValue, .busy, .modeLocked, .held].map
    ResultCode.code = List.range 10 ∧
  [LineCause.config, .farCall, .ringTimeout, .abandoned, .answered, .seized, .monitor, .farAnswer, .hold, .retrieve, .cleared,
    .callTimeout, .loss, .port, .guard, .clear, .group, .release].map LineCause.code = List.range 18 ∧
  [ConnectKind.added, .removed, .held, .retrieved, .moved, .privacyOn, .privacyOff].map ConnectKind.code = List.range 7 ∧
  [ConnectCause.connect, .pickup, .release, .hook, .displaced, .fault, .disabled, .callTimeout, .forced, .offline, .hold,
    .retrieve, .move, .key, .byDefault, .left].map ConnectCause.code = List.range 16 ∧
  [TalkKind.granted, .queued, .requeued, .removed].map TalkKind.code = List.range 4 ∧
  [TalkCause.request, .preempt, .promoted, .preempted, .limit, .release, .talkTimeout, .disabled, .offline].map
    TalkCause.code = List.range 9 ∧
  [TalkRefusal.disabled, .noRecorder, .queueFull].map TalkRefusal.code = List.range 3 ∧
  [RecordCause.need, .admission, .wait, .noChannel, .port, .rank, .ready].map RecordCause.code = List.range 7 ∧
  [PortCause.marker, .aligned, .lost].map PortCause.code = List.range 3

/-- R77, R78, R88: a generator's own output and its delivered output; with the window within the period, the number of on
steps in a period. -/
def Obligations.GeneratorOutputs : Prop :=
  ∀ (n : CgNo) (s : State),
    let g := s.gen n
    (g.own = true ↔ g.running = true ∧ g.active.rise ≤ g.phase ∧ g.phase < g.active.fall) ∧
    ((g.enable = false ∨ (g.mode = .oneshot ∧ g.running = false) ∨ s.mga.phase ≠ .running) → s.delivered n = false) ∧
    (g.enable = true → g.mode ≠ .oneshot ∨ g.running = true → s.mga.phase = .running →
      (g.pair = false → s.delivered n = g.own) ∧
      (g.pair = true → s.delivered n = (g.own || (s.gen (partner n)).own))) ∧
    (n.val % 2 = 0 → (partner n).val = n.val + 1) ∧ (n.val % 2 = 1 → (partner n).val + 1 = n.val) ∧
    (g.running = true →
      ((List.range g.active.period).filter (fun k => ({ g with phase := k } : Gen).own)).length =
        min g.active.fall g.active.period - g.active.rise)

/-- R47, R90 to R100, R106, R108, R154, R155, R158: the mix frame. The numbering of the 960 outputs; the near set of a line,
each microphone in it once; the lists of a handset ear, of a speaker channel on a line or a group, of a line's outbound
sample and of a recorder slot, with the slot's tag; every output is 0 while the switching blocks are not running. A frame
counts each clamp in its output's counter, which stops at 65535, and raises CLIP when a counter goes from 0 to 1; it advances
the tone indexes and counts down the closings. That a recorded group's legs stand at
16384, whatever leg_gain, where R99 and R114 disagree (notes/assumptions/26.md), and which indicator stands for an untaken
frame (notes/assumptions/17.md) are the model's inferences; that the CLIP occurrences of one frame come in ascending output
index is its choice (notes/assumptions/10.md). -/
def Obligations.MixListsFormed : Prop :=
  (∀ i : OutNo,
    (∀ p : PosNo, (i.val = 10 * p.val → outputAt i = .ear p .left) ∧ (i.val = 10 * p.val + 1 → outputAt i = .ear p .right) ∧
      ∀ k : SpkNo, i.val = 10 * p.val + 2 + k.val → outputAt i = .speaker p k) ∧
    (∀ l : LineNo, i.val = 320 + l.val → outputAt i = .lineOut l) ∧
    ∀ n : ChanNo, i.val = 832 + n.val → outputAt i = .slot n) ∧
  (∀ (s : State) (i : OutNo), s.mixFrame.lif.prepared.samples[i] = s.outputSample (outputAt i)) ∧
  (∀ s : State,
    let t := s.mixFrame
    let clamped := fun i : OutNo => decide (s.mga.phase = .running) && s.outputClips (outputAt i)
    (∀ i : OutNo, t.mix.clips[i] = if clamped i then min (s.mix.clips[i] + 1) 65535 else s.mix.clips[i]) ∧
    (∀ n : ToneNo, t.mix.tones[n] = if s.mga.phase = .running
      then { s.mix.tones[n] with
        index := if (s.mix.tones[n]).length ≤ (s.mix.tones[n]).index + 1 then 0 else (s.mix.tones[n]).index + 1 }
      else s.mix.tones[n]) ∧
    ((∀ c : ChanNo, (s.chan c).state ≠ .closing) →
      t.rcu = s.rcu ∧ t.gtu = s.gtu ∧ t.prs = s.prs ∧
      t.mga = (s.raiseAll (((List.finRange 960).filter fun i => clamped i && decide (s.mix.clips[i] = 0)).map .clip)).mga) ∧
    (∀ c : ChanNo, (s.chan c).state = .closing → 1 < (s.chan c).closeCount →
      t.chan c = { s.chan c with closeCount := (s.chan c).closeCount - 1 }) ∧
    (∀ c : ChanNo, s.portUp recPort = false →
      ((s.chan c).state = .closing → (s.chan c).closeCount ≤ 1 →
        t.chan c = { s.chan c with state := .stopped, target := none, closeCount := 0 }) ∧
      ((s.chan c).state ≠ .closing → t.chan c = s.chan c)) ∧
    t.lif = { s.lif with prepared := t.lif.prepared } ∧
    t.lnc = s.lnc ∧ t.psc = s.psc ∧ t.cxm = s.cxm ∧ t.cdu = s.cdu) ∧
  (∀ (s : State) (i : ChanNo),
    let c : ChanNo := if s.rcu.mode = .mono then i else ⟨i.val / 2, by omega⟩
    let r := s.chan c
    let parties : List PosNo := match r.target with
      | some (.line l) => (s.cxm.conns.filter fun x => decide (x.line = l) && x.place.isHandset).map (fun x => x.pos)
      | some (.group g) => (s.group g).talkers.map (fun e => e.pos)
      | none => []
    let tag : Tag := match r.state with
      | .stopped => { indicator := .idle, target := none, segment := r.segment, parties := [] }
      | .recording => { indicator := .audio, target := r.target, segment := r.segment, parties := parties }
      | .suspended => { indicator := .gap, target := r.target, segment := r.segment, parties := parties }
      | .closing => { indicator := .ending, target := r.target, segment := r.segment, parties := [] }
    s.mixFrame.lif.prepared.tags[i] =
      if s.mga.phase = .running then tag else { indicator := .idle, target := none, segment := 0, parties := [] }) ∧
  (∀ s : State, s.mga.phase ≠ .running → ∀ o : Output, s.mixList o = [] ∧ s.outputSample o = 0) ∧
  ∀ s : State, s.mga.phase = .running →
    let present := fun p : PosNo => (s.lif.mics[p]).present
    let speaker := fun p : PosNo => (s.lif.mics[p]).speaker.toInt
    let far := fun l : LineNo => (s.lif.far[l]).toInt
    let legs := fun g : GroupNo => (List.finRange 512).filter fun l =>
      decide ((s.line l).cfg.kind = .hootLeg) && decide ((s.line l).cfg.group = g) && decide ((s.line l).state = .active)
    let talkers := fun g : GroupNo => ((s.group g).talkers.map (fun e => e.pos)).filter present
    let at' := fun (gain : Nat) (x : Int) => ({ sample := x, gain := gain, ducked := false } : Contribution)
    (∀ l : LineNo, (s.near l).Perm
      (((s.cxm.conns.filter fun c => decide (c.line = l) && c.place.isUnheld && present c.pos).map fun c =>
          { pos := c.pos
            sample := if c.place = .left then (s.lif.mics[c.pos]).left.toInt else (s.lif.mics[c.pos]).right.toInt }) ++
        ((List.finRange 32).filter fun q => present q && decide ((s.line l).cfg.kind ≠ .hootLeg) &&
            decide (∀ c ∈ s.bridge l, s.cxm.privacy[l] = true → (s.bridge l).length = 1 → c.pos = q) &&
            s.cxm.conns.any fun c => decide (c.line = l) && decide (c.pos = q) && !c.place.isHandset && c.talk).map
          fun q => { pos := q, sample := speaker q })) ∧
    (∀ (l : LineNo) (v : Voice), v ∈ s.near l ↔ present v.pos = true ∧
      ((∃ c ∈ s.cxm.conns, c.line = l ∧ v.pos = c.pos ∧
        ((c.place = .left ∧ v.sample = (s.lif.mics[c.pos]).left.toInt) ∨
          (c.place = .right ∧ v.sample = (s.lif.mics[c.pos]).right.toInt))) ∨
      (v.sample = (s.lif.mics[v.pos]).speaker.toInt ∧ (s.line l).cfg.kind ≠ .hootLeg ∧
        (∀ q : PosNo, s.share l = .exclusive q → q = v.pos) ∧
        ∃ c ∈ s.cxm.conns, ∃ k : SpkNo, c.line = l ∧ c.pos = v.pos ∧ c.place = .spk k ∧ c.talk = true))) ∧
    (∀ (p : PosNo) (h : Handset),
      (s.online p = false ∨ s.connAt p (handsetPlace h) = none → s.mixList (.ear p h) = []) ∧
      (∀ c : Conn, s.online p = true → s.connAt p (handsetPlace h) = some c →
        s.mixList (.ear p h) =
          { sample := (s.lif.far[c.line]).toInt, gain := (s.line c.line).cfg.rxGain, ducked := false } ::
          ((s.near c.line).filter (fun v => v.pos ≠ p)).map
            (fun v => { sample := v.sample, gain := 16384, ducked := false }))) ∧
    (∀ (p : PosNo) (k : SpkNo) (c : Conn), s.online p = true → s.assign p k = .line c.line →
      s.connAt p (.spk k) = some c →
      let ducks := s.cxm.conns.any (fun x => decide (x.line = c.line) && decide (x.pos = p) && x.place.isUnheld)
      let heard : List Contribution :=
        { sample := (s.lif.far[c.line]).toInt, gain := (s.line c.line).cfg.rxGain, ducked := ducks } ::
          ((s.near c.line).filter (fun v => v.pos ≠ p)).map
            (fun v => { sample := v.sample, gain := 16384, ducked := ducks })
      let ring := if (s.position p).cfg.ringSpeaker = k then s.ringContribution p else []
      s.mixList (.speaker p k) = (if s.privateFrom c.line p then [] else heard) ++ ring) ∧
    (∀ (p : PosNo) (k : SpkNo),
      let ring := if (s.position p).cfg.ringSpeaker = k then s.ringContribution p else []
      (s.online p = false → s.mixList (.speaker p k) = []) ∧
      (s.online p = true → s.assign p k = .none → s.mixList (.speaker p k) = ring) ∧
      (∀ l : LineNo, s.online p = true → s.assign p k = .line l → s.connAt p (.spk k) = none →
        s.mixList (.speaker p k) = ring) ∧
      (∀ g : GroupNo, s.online p = true → s.assign p k = .group g →
        s.mixList (.speaker p k) = (if (s.group g).cfg.enabled
          then ((talkers g).filter (fun q => q ≠ p)).map (fun q => at' (s.group g).cfg.groupGain (speaker q)) ++
            (legs g).map (fun l => at' (s.group g).cfg.legGain (far l))
          else []) ++ ring)) ∧
    (∀ p : PosNo,
      (∀ r : LineNo, s.ringLine p = some r → s.delivered (s.line r).cfg.ringCg = true →
        let tone := s.mix.tones[(s.position p).cfg.ringTone]
        s.ringContribution p = [at' tone.level (tone.samples.toList.getD tone.index 0).toInt]) ∧
      (∀ r : LineNo, s.ringLine p = some r ↔ s.online p = true ∧
        (∃ k : KeyNo, (s.key p k).action = .line r) ∧ (s.line r).state = .ringingIn ∧
        ∀ r' : LineNo, (∃ k : KeyNo, (s.key p k).action = .line r') → (s.line r').state = .ringingIn → r ≤ r') ∧
      (s.ringLine p = none ∨ (∃ r : LineNo, s.ringLine p = some r ∧ s.delivered (s.line r).cfg.ringCg = false) →
        s.ringContribution p = [])) ∧
    (∀ l : LineNo, (s.line l).cfg.kind.isWire = true →
      s.mixList (.lineOut l) =
        (s.near l).map (fun v => { sample := v.sample, gain := (s.line l).cfg.txGain, ducked := false }) ∧
      (s.lineConns l = [] → s.outputSample (.lineOut l) = 0)) ∧
    (∀ l : LineNo, (s.line l).cfg.kind = .hootLeg →
      let g := (s.line l).cfg.group
      s.mixList (.lineOut l) = if (s.line l).state = .active
        then (talkers g).map (fun q => at' (s.group g).cfg.groupGain (speaker q)) ++
          ((legs g).filter (fun x => x ≠ l)).map (fun x => at' (s.group g).cfg.legGain (far x))
        else []) ∧
    ∀ i : ChanNo,
      let r := s.chan (if s.rcu.mode = .mono then i else ⟨i.val / 2, by omega⟩)
      (r.state ≠ .recording → s.mixList (.slot i) = []) ∧
      (∀ x : Target, r.state = .recording → r.target = some x →
        let farSide := match x with
          | .line l => [at' 16384 (far l)]
          | .group g => (legs g).map (fun l => at' 16384 (far l))
        let nearSide := match x with
          | .line l => (s.near l).map (fun v => at' 16384 v.sample)
          | .group g => (talkers g).map (fun q => at' 16384 (speaker q))
        s.mixList (.slot i) =
          if s.rcu.mode = .mono then farSide ++ nearSide else if i.val % 2 = 0 then farSide else nearSide)

/-- R102 to R105: the computation of one output. The effective gain and what the two ends of the duck level do; the exact
sum, whatever the order of the contributions, and its bound for a list at capacity; the rounding for scale and for volume;
the clamp, and what counts as one. -/
def Obligations.OutputsComputed : Prop :=
  (∀ (c : Contribution) (d : Nat),
    (c.ducked = true → effectiveGain c d = (c.gain * d + 8192) / 16384) ∧
    (c.ducked = false → effectiveGain c d = c.gain) ∧ (d ≤ 16384 → effectiveGain c d ≤ c.gain) ∧
    effectiveGain c 16384 = c.gain ∧ (c.ducked = true → effectiveGain c 0 = 0)) ∧
  (∀ (s : State) (p : PosNo), (∀ h : Handset, s.duckOf (.ear p h) = (s.position p).cfg.duck) ∧
    (∀ k : SpkNo, s.duckOf (.speaker p k) = (s.position p).cfg.duck)) ∧
  (∀ d : Nat, mixSum [] d = 0 ∧
    (∀ (c : Contribution) (cs : List Contribution),
      mixSum (c :: cs) d = c.sample * (effectiveGain c d : Int) + mixSum cs d) ∧
    (∀ cs cs' : List Contribution, cs.Perm cs' → mixSum cs d = mixSum cs' d) ∧
    ∀ cs : List Contribution, cs.length ≤ 32 → d ≤ 16384 →
      (∀ c ∈ cs, -32768 ≤ c.sample ∧ c.sample ≤ 32767 ∧ c.gain ≤ 32767) →
      -34358689792 ≤ mixSum cs d ∧ mixSum cs d ≤ 34358689792 ∧
      (cs.length ≤ 21 → (-1376214 ≤ (mixSum cs d + 8192) / 16384 ∧ (mixSum cs d + 8192) / 16384 ≤ 1376214))) ∧
  ∀ (s : State) (o : Output),
    let cs := s.mixList o
    let y := (mixSum cs (s.duckOf o) + 8192) / 16384
    let z := (y * (s.volumeOf o : Int) + 8192) / 16384
    (cs = [] → s.outputSample o = 0 ∧ s.outputClips o = false) ∧
    (cs ≠ [] →
      (z < -32768 → (s.outputSample o).toInt = -32768 ∧ s.outputClips o = true) ∧
      (-32768 ≤ z → z ≤ 32767 → (s.outputSample o).toInt = z ∧ s.outputClips o = false) ∧
      (32767 < z → (s.outputSample o).toInt = 32767 ∧ s.outputClips o = true)) ∧
    (s.volumeOf o = 0 → z = 0) ∧
    (∀ l : LineNo, o = .lineOut l → s.volumeOf o = 16384 ∧ z = y) ∧
    (∀ n : ChanNo, o = .slot n → s.volumeOf o = 16384 ∧ z = y) ∧
    (∀ p : PosNo, (o = .ear p .left → s.volumeOf o = (s.position p).cfg.volumes[0]) ∧
      (o = .ear p .right → s.volumeOf o = (s.position p).cfg.volumes[1]) ∧
      ∀ k : SpkNo, o = .speaker p k → s.volumeOf o = (s.position p).cfg.volumes[2 + k.val])

/-- R134 to R136, R138: a line's line-side code by the cases of the tables; the combined values by their table; the resolved
policy of a line from its line-side code, its connections and its demand flag, and that of a group from its record_code and
its talkers. `rank` is the resolution order, MANDATORY, BEST, ON_DEMAND, and `above` the range order, MANDATORY, NEVER, BEST,
ON_DEMAND. -/
def Obligations.PoliciesResolved : Prop :=
  (∀ (s : State) (l : LineNo) (b : Fin 64), b.val = l.val / 8 →
    let above := fun c : PolicyCode =>
      match c with
      | .mandatory => 3
      | .never => 2
      | .best => 1
      | .onDemand => 0
    let contains := fun r : PolicyRange => r.enabled = true ∧ r.first ≤ l ∧ l ≤ r.last
    (s.prs.tablesEnabled = false → s.lineSide l = (s.prs.defaultCode, .default)) ∧
    (∀ c : PolicyCode, s.prs.tablesEnabled = true → s.prs.fixedEnabled = true → s.prs.fixed[b] = some c →
      s.lineSide l = (c, .fixed b)) ∧
    (s.prs.tablesEnabled = true → s.prs.fixedEnabled = false ∨ s.prs.fixed[b] = none →
      (∀ n : Fin 8, contains s.prs.ranges[n] →
        (∀ m : Fin 8, contains s.prs.ranges[m] → above (s.prs.ranges[m]).code < above (s.prs.ranges[n]).code ∨
          ((s.prs.ranges[m]).code = (s.prs.ranges[n]).code ∧ n ≤ m)) →
        s.lineSide l = ((s.prs.ranges[n]).code, .range n)) ∧
      ((∀ n : Fin 8, ¬ contains s.prs.ranges[n]) → s.lineSide l = (s.prs.defaultCode, .default)))) ∧
  (∀ m : RecordMode, PolicyCode.combine .never m = .never ∧ PolicyCode.combine .mandatory m = .mandatory) ∧
  PolicyCode.combine .onDemand .normal = .onDemand ∧ PolicyCode.combine .onDemand .compliance = .best ∧
  PolicyCode.combine .onDemand .exempt = .onDemand ∧ PolicyCode.combine .best .normal = .best ∧
  PolicyCode.combine .best .compliance = .mandatory ∧ PolicyCode.combine .best .exempt = .onDemand ∧
  let rank := fun c : PolicyCode =>
    match c with
    | .mandatory => 3
    | .best => 2
    | .onDemand => 1
    | .never => 0
  (∀ (s : State) (g : GroupNo),
    let side := (s.group g).cfg.recordCode
    let combined := fun e : TalkEntry => side.combine (s.position e.pos).cfg.recordMode
    ((s.group g).talkers = [] → s.groupPolicy g = none) ∧
    ((s.group g).talkers ≠ [] → side = .never → s.groupPolicy g = some .never) ∧
    ((s.group g).talkers ≠ [] → side ≠ .never → ∃ top : PolicyCode,
      (∃ e ∈ (s.group g).talkers, combined e = top) ∧ (∀ e ∈ (s.group g).talkers, rank (combined e) ≤ rank top) ∧
      s.groupPolicy g = some top)) ∧
  ∀ (s : State) (l : LineNo),
    let side := (s.lineSide l).1
    let combined := fun c : Conn => side.combine (s.position c.pos).cfg.recordMode
    (side = .never → s.linePolicy l = .never) ∧
    (side ≠ .never → s.lineConns l = [] → s.linePolicy l = side) ∧
    (side ≠ .never → s.lineConns l ≠ [] → ∃ top : PolicyCode,
      (∃ c ∈ s.cxm.conns, c.line = l ∧ combined c = top) ∧
      (∀ c ∈ s.cxm.conns, c.line = l → rank (combined c) ≤ rank top) ∧
      s.linePolicy l = if top = .onDemand ∧ s.demand l = true then .best else top)
end

