-- ==== Sys2Proof/Laws/Mixer.lean ====
section
/-! SUPPORT. What a group's legs contribute, to listeners and to the recording, said once. -/

namespace Sys2Proof.Machine

/-- R96, R98: a contribution of a group's legs is the far sample of a leg other than the line left out, at the gain asked,
not ducked. -/
theorem State.mem_legsHeard {s : State} {g : GroupNo} {skip : Option LineNo} {gain : Nat} {c : Contribution} :
    c ∈ s.legsHeard g skip gain ↔
      ∃ l ∈ s.legs g, skip ≠ some l ∧ c = { sample := s.farSample l, gain := gain, ducked := false } := by
  simp only [State.legsHeard, List.mem_map, List.mem_filter, decide_eq_true_eq, and_assoc]
  exact ⟨fun ⟨l, hl, hs, hc⟩ => ⟨l, hl, hs, hc.symm⟩, fun ⟨l, hl, hs, hc⟩ => ⟨l, hl, hs, hc.symm⟩⟩

/-- R99: the far side of a group's recording is the far sample of each leg at 16384, whatever the group's leg_gain. -/
theorem State.mem_recordFar_group {s : State} {g : GroupNo} {c : Contribution} :
    c ∈ s.recordFar (.group g) ↔ ∃ l ∈ s.legs g, c = { sample := s.farSample l, gain := 16384, ducked := false } := by
  simp [State.recordFar, State.mem_legsHeard]

end Sys2Proof.Machine
end

