-- ==== Sys2Proof/Laws/State.lean ====
section
/-! SUPPORT. One lemma for each block of the state and each named read under each named update, true by unfolding, so that no
later proof opens a record update. -/

namespace Sys2Proof.Machine
/-! ### `State.setLine` -/
@[simp] theorem State.setLine_lif (s : State) (l : LineNo) (r : LineRec) : (s.setLine l r).lif = s.lif := rfl
@[simp] theorem State.setLine_mga (s : State) (l : LineNo) (r : LineRec) : (s.setLine l r).mga = s.mga := rfl
@[simp] theorem State.setLine_psc (s : State) (l : LineNo) (r : LineRec) : (s.setLine l r).psc = s.psc := rfl
@[simp] theorem State.setLine_cxm (s : State) (l : LineNo) (r : LineRec) : (s.setLine l r).cxm = s.cxm := rfl
@[simp] theorem State.setLine_cdu (s : State) (l : LineNo) (r : LineRec) : (s.setLine l r).cdu = s.cdu := rfl
@[simp] theorem State.setLine_mix (s : State) (l : LineNo) (r : LineRec) : (s.setLine l r).mix = s.mix := rfl
@[simp] theorem State.setLine_gtu (s : State) (l : LineNo) (r : LineRec) : (s.setLine l r).gtu = s.gtu := rfl
@[simp] theorem State.setLine_prs (s : State) (l : LineNo) (r : LineRec) : (s.setLine l r).prs = s.prs := rfl
@[simp] theorem State.setLine_rcu (s : State) (l : LineNo) (r : LineRec) : (s.setLine l r).rcu = s.rcu := rfl
@[simp] theorem State.setLine_pending (s : State) (l : LineNo) (r : LineRec) :
    (s.setLine l r).pending = s.pending := rfl
@[simp] theorem State.setLine_position (s : State) (l : LineNo) (r : LineRec) (x : PosNo) :
    (s.setLine l r).position x = s.position x := rfl
@[simp] theorem State.setLine_key (s : State) (l : LineNo) (r : LineRec) (x : PosNo) (y : KeyNo) :
    (s.setLine l r).key x y = s.key x y := rfl
@[simp] theorem State.setLine_assign (s : State) (l : LineNo) (r : LineRec) (x : PosNo) (y : SpkNo) :
    (s.setLine l r).assign x y = s.assign x y := rfl
@[simp] theorem State.setLine_gen (s : State) (l : LineNo) (r : LineRec) (x : CgNo) :
    (s.setLine l r).gen x = s.gen x := rfl
@[simp] theorem State.setLine_group (s : State) (l : LineNo) (r : LineRec) (x : GroupNo) :
    (s.setLine l r).group x = s.group x := rfl
@[simp] theorem State.setLine_chan (s : State) (l : LineNo) (r : LineRec) (x : ChanNo) :
    (s.setLine l r).chan x = s.chan x := rfl
@[simp] theorem State.setLine_port (s : State) (l : LineNo) (r : LineRec) (x : PortNo) :
    (s.setLine l r).port x = s.port x := rfl
@[simp] theorem State.setLine_now (s : State) (l : LineNo) (r : LineRec) : (s.setLine l r).now = s.now := rfl
@[simp] theorem State.setLine_demand (s : State) (l : LineNo) (r : LineRec) (x : LineNo) :
    (s.setLine l r).demand x = s.demand x := rfl
@[simp] theorem State.setLine_keptNeed (s : State) (l : LineNo) (r : LineRec) (x : Target) :
    (s.setLine l r).keptNeed x = s.keptNeed x := by cases x <;> rfl
@[simp] theorem State.setLine_running (s : State) (l : LineNo) (r : LineRec) :
    (s.setLine l r).running = s.running := rfl
/-! ### `State.setPosition` -/
@[simp] theorem State.setPosition_lif (s : State) (p : PosNo) (r : PositionRec) : (s.setPosition p r).lif = s.lif := rfl
@[simp] theorem State.setPosition_mga (s : State) (p : PosNo) (r : PositionRec) : (s.setPosition p r).mga = s.mga := rfl
@[simp] theorem State.setPosition_lnc (s : State) (p : PosNo) (r : PositionRec) : (s.setPosition p r).lnc = s.lnc := rfl
@[simp] theorem State.setPosition_cxm (s : State) (p : PosNo) (r : PositionRec) : (s.setPosition p r).cxm = s.cxm := rfl
@[simp] theorem State.setPosition_cdu (s : State) (p : PosNo) (r : PositionRec) : (s.setPosition p r).cdu = s.cdu := rfl
@[simp] theorem State.setPosition_mix (s : State) (p : PosNo) (r : PositionRec) : (s.setPosition p r).mix = s.mix := rfl
@[simp] theorem State.setPosition_gtu (s : State) (p : PosNo) (r : PositionRec) : (s.setPosition p r).gtu = s.gtu := rfl
@[simp] theorem State.setPosition_prs (s : State) (p : PosNo) (r : PositionRec) : (s.setPosition p r).prs = s.prs := rfl
@[simp] theorem State.setPosition_rcu (s : State) (p : PosNo) (r : PositionRec) : (s.setPosition p r).rcu = s.rcu := rfl
@[simp] theorem State.setPosition_pending (s : State) (p : PosNo) (r : PositionRec) :
    (s.setPosition p r).pending = s.pending := rfl
@[simp] theorem State.setPosition_line (s : State) (p : PosNo) (r : PositionRec) (x : LineNo) :
    (s.setPosition p r).line x = s.line x := rfl
@[simp] theorem State.setPosition_gen (s : State) (p : PosNo) (r : PositionRec) (x : CgNo) :
    (s.setPosition p r).gen x = s.gen x := rfl
@[simp] theorem State.setPosition_group (s : State) (p : PosNo) (r : PositionRec) (x : GroupNo) :
    (s.setPosition p r).group x = s.group x := rfl
@[simp] theorem State.setPosition_chan (s : State) (p : PosNo) (r : PositionRec) (x : ChanNo) :
    (s.setPosition p r).chan x = s.chan x := rfl
@[simp] theorem State.setPosition_port (s : State) (p : PosNo) (r : PositionRec) (x : PortNo) :
    (s.setPosition p r).port x = s.port x := rfl
@[simp] theorem State.setPosition_now (s : State) (p : PosNo) (r : PositionRec) : (s.setPosition p r).now = s.now := rfl
@[simp] theorem State.setPosition_demand (s : State) (p : PosNo) (r : PositionRec) (x : LineNo) :
    (s.setPosition p r).demand x = s.demand x := rfl
@[simp] theorem State.setPosition_keptNeed (s : State) (p : PosNo) (r : PositionRec) (x : Target) :
    (s.setPosition p r).keptNeed x = s.keptNeed x := by cases x <;> rfl
@[simp] theorem State.setPosition_running (s : State) (p : PosNo) (r : PositionRec) :
    (s.setPosition p r).running = s.running := rfl
/-! ### `State.setGen` -/
@[simp] theorem State.setGen_lif (s : State) (n : CgNo) (g : Gen) : (s.setGen n g).lif = s.lif := rfl
@[simp] theorem State.setGen_mga (s : State) (n : CgNo) (g : Gen) : (s.setGen n g).mga = s.mga := rfl
@[simp] theorem State.setGen_lnc (s : State) (n : CgNo) (g : Gen) : (s.setGen n g).lnc = s.lnc := rfl
@[simp] theorem State.setGen_psc (s : State) (n : CgNo) (g : Gen) : (s.setGen n g).psc = s.psc := rfl
@[simp] theorem State.setGen_cxm (s : State) (n : CgNo) (g : Gen) : (s.setGen n g).cxm = s.cxm := rfl
@[simp] theorem State.setGen_mix (s : State) (n : CgNo) (g : Gen) : (s.setGen n g).mix = s.mix := rfl
@[simp] theorem State.setGen_gtu (s : State) (n : CgNo) (g : Gen) : (s.setGen n g).gtu = s.gtu := rfl
@[simp] theorem State.setGen_prs (s : State) (n : CgNo) (g : Gen) : (s.setGen n g).prs = s.prs := rfl
@[simp] theorem State.setGen_rcu (s : State) (n : CgNo) (g : Gen) : (s.setGen n g).rcu = s.rcu := rfl
@[simp] theorem State.setGen_pending (s : State) (n : CgNo) (g : Gen) : (s.setGen n g).pending = s.pending := rfl
@[simp] theorem State.setGen_line (s : State) (n : CgNo) (g : Gen) (x : LineNo) :
    (s.setGen n g).line x = s.line x := rfl
@[simp] theorem State.setGen_position (s : State) (n : CgNo) (g : Gen) (x : PosNo) :
    (s.setGen n g).position x = s.position x := rfl
@[simp] theorem State.setGen_key (s : State) (n : CgNo) (g : Gen) (x : PosNo) (y : KeyNo) :
    (s.setGen n g).key x y = s.key x y := rfl
@[simp] theorem State.setGen_assign (s : State) (n : CgNo) (g : Gen) (x : PosNo) (y : SpkNo) :
    (s.setGen n g).assign x y = s.assign x y := rfl
@[simp] theorem State.setGen_group (s : State) (n : CgNo) (g : Gen) (x : GroupNo) :
    (s.setGen n g).group x = s.group x := rfl
@[simp] theorem State.setGen_chan (s : State) (n : CgNo) (g : Gen) (x : ChanNo) :
    (s.setGen n g).chan x = s.chan x := rfl
@[simp] theorem State.setGen_port (s : State) (n : CgNo) (g : Gen) (x : PortNo) :
    (s.setGen n g).port x = s.port x := rfl
@[simp] theorem State.setGen_demand (s : State) (n : CgNo) (g : Gen) (x : LineNo) :
    (s.setGen n g).demand x = s.demand x := rfl
@[simp] theorem State.setGen_keptNeed (s : State) (n : CgNo) (g : Gen) (x : Target) :
    (s.setGen n g).keptNeed x = s.keptNeed x := by cases x <;> rfl
@[simp] theorem State.setGen_running (s : State) (n : CgNo) (g : Gen) : (s.setGen n g).running = s.running := rfl
/-! ### `State.setGroup` -/
@[simp] theorem State.setGroup_lif (s : State) (g : GroupNo) (r : GroupRec) : (s.setGroup g r).lif = s.lif := rfl
@[simp] theorem State.setGroup_mga (s : State) (g : GroupNo) (r : GroupRec) : (s.setGroup g r).mga = s.mga := rfl
@[simp] theorem State.setGroup_lnc (s : State) (g : GroupNo) (r : GroupRec) : (s.setGroup g r).lnc = s.lnc := rfl
@[simp] theorem State.setGroup_psc (s : State) (g : GroupNo) (r : GroupRec) : (s.setGroup g r).psc = s.psc := rfl
@[simp] theorem State.setGroup_cxm (s : State) (g : GroupNo) (r : GroupRec) : (s.setGroup g r).cxm = s.cxm := rfl
@[simp] theorem State.setGroup_cdu (s : State) (g : GroupNo) (r : GroupRec) : (s.setGroup g r).cdu = s.cdu := rfl
@[simp] theorem State.setGroup_mix (s : State) (g : GroupNo) (r : GroupRec) : (s.setGroup g r).mix = s.mix := rfl
@[simp] theorem State.setGroup_prs (s : State) (g : GroupNo) (r : GroupRec) : (s.setGroup g r).prs = s.prs := rfl
@[simp] theorem State.setGroup_rcu (s : State) (g : GroupNo) (r : GroupRec) : (s.setGroup g r).rcu = s.rcu := rfl
@[simp] theorem State.setGroup_pending (s : State) (g : GroupNo) (r : GroupRec) :
    (s.setGroup g r).pending = s.pending := rfl
@[simp] theorem State.setGroup_line (s : State) (g : GroupNo) (r : GroupRec) (x : LineNo) :
    (s.setGroup g r).line x = s.line x := rfl
@[simp] theorem State.setGroup_position (s : State) (g : GroupNo) (r : GroupRec) (x : PosNo) :
    (s.setGroup g r).position x = s.position x := rfl
@[simp] theorem State.setGroup_key (s : State) (g : GroupNo) (r : GroupRec) (x : PosNo) (y : KeyNo) :
    (s.setGroup g r).key x y = s.key x y := rfl
@[simp] theorem State.setGroup_assign (s : State) (g : GroupNo) (r : GroupRec) (x : PosNo) (y : SpkNo) :
    (s.setGroup g r).assign x y = s.assign x y := rfl
@[simp] theorem State.setGroup_gen (s : State) (g : GroupNo) (r : GroupRec) (x : CgNo) :
    (s.setGroup g r).gen x = s.gen x := rfl
@[simp] theorem State.setGroup_chan (s : State) (g : GroupNo) (r : GroupRec) (x : ChanNo) :
    (s.setGroup g r).chan x = s.chan x := rfl
@[simp] theorem State.setGroup_port (s : State) (g : GroupNo) (r : GroupRec) (x : PortNo) :
    (s.setGroup g r).port x = s.port x := rfl
@[simp] theorem State.setGroup_now (s : State) (g : GroupNo) (r : GroupRec) : (s.setGroup g r).now = s.now := rfl
@[simp] theorem State.setGroup_demand (s : State) (g : GroupNo) (r : GroupRec) (x : LineNo) :
    (s.setGroup g r).demand x = s.demand x := rfl
@[simp] theorem State.setGroup_keptNeed (s : State) (g : GroupNo) (r : GroupRec) (x : Target) :
    (s.setGroup g r).keptNeed x = s.keptNeed x := by cases x <;> rfl
@[simp] theorem State.setGroup_running (s : State) (g : GroupNo) (r : GroupRec) :
    (s.setGroup g r).running = s.running := rfl
/-! ### `State.setChan` -/
@[simp] theorem State.setChan_lif (s : State) (c : ChanNo) (r : Chan) : (s.setChan c r).lif = s.lif := rfl
@[simp] theorem State.setChan_mga (s : State) (c : ChanNo) (r : Chan) : (s.setChan c r).mga = s.mga := rfl
@[simp] theorem State.setChan_lnc (s : State) (c : ChanNo) (r : Chan) : (s.setChan c r).lnc = s.lnc := rfl
@[simp] theorem State.setChan_psc (s : State) (c : ChanNo) (r : Chan) : (s.setChan c r).psc = s.psc := rfl
@[simp] theorem State.setChan_cxm (s : State) (c : ChanNo) (r : Chan) : (s.setChan c r).cxm = s.cxm := rfl
@[simp] theorem State.setChan_cdu (s : State) (c : ChanNo) (r : Chan) : (s.setChan c r).cdu = s.cdu := rfl
@[simp] theorem State.setChan_mix (s : State) (c : ChanNo) (r : Chan) : (s.setChan c r).mix = s.mix := rfl
@[simp] theorem State.setChan_gtu (s : State) (c : ChanNo) (r : Chan) : (s.setChan c r).gtu = s.gtu := rfl
@[simp] theorem State.setChan_prs (s : State) (c : ChanNo) (r : Chan) : (s.setChan c r).prs = s.prs := rfl
@[simp] theorem State.setChan_pending (s : State) (c : ChanNo) (r : Chan) : (s.setChan c r).pending = s.pending := rfl
@[simp] theorem State.setChan_line (s : State) (c : ChanNo) (r : Chan) (x : LineNo) :
    (s.setChan c r).line x = s.line x := rfl
@[simp] theorem State.setChan_position (s : State) (c : ChanNo) (r : Chan) (x : PosNo) :
    (s.setChan c r).position x = s.position x := rfl
@[simp] theorem State.setChan_key (s : State) (c : ChanNo) (r : Chan) (x : PosNo) (y : KeyNo) :
    (s.setChan c r).key x y = s.key x y := rfl
@[simp] theorem State.setChan_assign (s : State) (c : ChanNo) (r : Chan) (x : PosNo) (y : SpkNo) :
    (s.setChan c r).assign x y = s.assign x y := rfl
@[simp] theorem State.setChan_gen (s : State) (c : ChanNo) (r : Chan) (x : CgNo) :
    (s.setChan c r).gen x = s.gen x := rfl
@[simp] theorem State.setChan_group (s : State) (c : ChanNo) (r : Chan) (x : GroupNo) :
    (s.setChan c r).group x = s.group x := rfl
@[simp] theorem State.setChan_port (s : State) (c : ChanNo) (r : Chan) (x : PortNo) :
    (s.setChan c r).port x = s.port x := rfl
@[simp] theorem State.setChan_now (s : State) (c : ChanNo) (r : Chan) : (s.setChan c r).now = s.now := rfl
@[simp] theorem State.setChan_demand (s : State) (c : ChanNo) (r : Chan) (x : LineNo) :
    (s.setChan c r).demand x = s.demand x := rfl
@[simp] theorem State.setChan_keptNeed (s : State) (c : ChanNo) (r : Chan) (x : Target) :
    (s.setChan c r).keptNeed x = s.keptNeed x := by cases x <;> rfl
@[simp] theorem State.setChan_running (s : State) (c : ChanNo) (r : Chan) : (s.setChan c r).running = s.running := rfl
/-! ### `State.setDemand` -/
@[simp] theorem State.setDemand_lif (s : State) (l : LineNo) (b : Bool) : (s.setDemand l b).lif = s.lif := rfl
@[simp] theorem State.setDemand_mga (s : State) (l : LineNo) (b : Bool) : (s.setDemand l b).mga = s.mga := rfl
@[simp] theorem State.setDemand_lnc (s : State) (l : LineNo) (b : Bool) : (s.setDemand l b).lnc = s.lnc := rfl
@[simp] theorem State.setDemand_psc (s : State) (l : LineNo) (b : Bool) : (s.setDemand l b).psc = s.psc := rfl
@[simp] theorem State.setDemand_cxm (s : State) (l : LineNo) (b : Bool) : (s.setDemand l b).cxm = s.cxm := rfl
@[simp] theorem State.setDemand_cdu (s : State) (l : LineNo) (b : Bool) : (s.setDemand l b).cdu = s.cdu := rfl
@[simp] theorem State.setDemand_mix (s : State) (l : LineNo) (b : Bool) : (s.setDemand l b).mix = s.mix := rfl
@[simp] theorem State.setDemand_gtu (s : State) (l : LineNo) (b : Bool) : (s.setDemand l b).gtu = s.gtu := rfl
@[simp] theorem State.setDemand_rcu (s : State) (l : LineNo) (b : Bool) : (s.setDemand l b).rcu = s.rcu := rfl
@[simp] theorem State.setDemand_pending (s : State) (l : LineNo) (b : Bool) :
    (s.setDemand l b).pending = s.pending := rfl
@[simp] theorem State.setDemand_line (s : State) (l : LineNo) (b : Bool) (x : LineNo) :
    (s.setDemand l b).line x = s.line x := rfl
@[simp] theorem State.setDemand_position (s : State) (l : LineNo) (b : Bool) (x : PosNo) :
    (s.setDemand l b).position x = s.position x := rfl
@[simp] theorem State.setDemand_key (s : State) (l : LineNo) (b : Bool) (x : PosNo) (y : KeyNo) :
    (s.setDemand l b).key x y = s.key x y := rfl
@[simp] theorem State.setDemand_assign (s : State) (l : LineNo) (b : Bool) (x : PosNo) (y : SpkNo) :
    (s.setDemand l b).assign x y = s.assign x y := rfl
@[simp] theorem State.setDemand_gen (s : State) (l : LineNo) (b : Bool) (x : CgNo) :
    (s.setDemand l b).gen x = s.gen x := rfl
@[simp] theorem State.setDemand_group (s : State) (l : LineNo) (b : Bool) (x : GroupNo) :
    (s.setDemand l b).group x = s.group x := rfl
@[simp] theorem State.setDemand_chan (s : State) (l : LineNo) (b : Bool) (x : ChanNo) :
    (s.setDemand l b).chan x = s.chan x := rfl
@[simp] theorem State.setDemand_port (s : State) (l : LineNo) (b : Bool) (x : PortNo) :
    (s.setDemand l b).port x = s.port x := rfl
@[simp] theorem State.setDemand_now (s : State) (l : LineNo) (b : Bool) : (s.setDemand l b).now = s.now := rfl
@[simp] theorem State.setDemand_running (s : State) (l : LineNo) (b : Bool) :
    (s.setDemand l b).running = s.running := rfl
/-! ### `State.setPort` -/
@[simp] theorem State.setPort_mga (s : State) (n : PortNo) (r : Port) : (s.setPort n r).mga = s.mga := rfl
@[simp] theorem State.setPort_lnc (s : State) (n : PortNo) (r : Port) : (s.setPort n r).lnc = s.lnc := rfl
@[simp] theorem State.setPort_psc (s : State) (n : PortNo) (r : Port) : (s.setPort n r).psc = s.psc := rfl
@[simp] theorem State.setPort_cxm (s : State) (n : PortNo) (r : Port) : (s.setPort n r).cxm = s.cxm := rfl
@[simp] theorem State.setPort_cdu (s : State) (n : PortNo) (r : Port) : (s.setPort n r).cdu = s.cdu := rfl
@[simp] theorem State.setPort_mix (s : State) (n : PortNo) (r : Port) : (s.setPort n r).mix = s.mix := rfl
@[simp] theorem State.setPort_gtu (s : State) (n : PortNo) (r : Port) : (s.setPort n r).gtu = s.gtu := rfl
@[simp] theorem State.setPort_prs (s : State) (n : PortNo) (r : Port) : (s.setPort n r).prs = s.prs := rfl
@[simp] theorem State.setPort_rcu (s : State) (n : PortNo) (r : Port) : (s.setPort n r).rcu = s.rcu := rfl
@[simp] theorem State.setPort_pending (s : State) (n : PortNo) (r : Port) : (s.setPort n r).pending = s.pending := rfl
@[simp] theorem State.setPort_line (s : State) (n : PortNo) (r : Port) (x : LineNo) :
    (s.setPort n r).line x = s.line x := rfl
@[simp] theorem State.setPort_position (s : State) (n : PortNo) (r : Port) (x : PosNo) :
    (s.setPort n r).position x = s.position x := rfl
@[simp] theorem State.setPort_key (s : State) (n : PortNo) (r : Port) (x : PosNo) (y : KeyNo) :
    (s.setPort n r).key x y = s.key x y := rfl
@[simp] theorem State.setPort_assign (s : State) (n : PortNo) (r : Port) (x : PosNo) (y : SpkNo) :
    (s.setPort n r).assign x y = s.assign x y := rfl
@[simp] theorem State.setPort_gen (s : State) (n : PortNo) (r : Port) (x : CgNo) :
    (s.setPort n r).gen x = s.gen x := rfl
@[simp] theorem State.setPort_group (s : State) (n : PortNo) (r : Port) (x : GroupNo) :
    (s.setPort n r).group x = s.group x := rfl
@[simp] theorem State.setPort_chan (s : State) (n : PortNo) (r : Port) (x : ChanNo) :
    (s.setPort n r).chan x = s.chan x := rfl
@[simp] theorem State.setPort_now (s : State) (n : PortNo) (r : Port) : (s.setPort n r).now = s.now := rfl
@[simp] theorem State.setPort_demand (s : State) (n : PortNo) (r : Port) (x : LineNo) :
    (s.setPort n r).demand x = s.demand x := rfl
@[simp] theorem State.setPort_keptNeed (s : State) (n : PortNo) (r : Port) (x : Target) :
    (s.setPort n r).keptNeed x = s.keptNeed x := by cases x <;> rfl
@[simp] theorem State.setPort_running (s : State) (n : PortNo) (r : Port) : (s.setPort n r).running = s.running := rfl
/-! ### `State.setPresent` -/
@[simp] theorem State.setPresent_mga (s : State) (p : PosNo) (b : Bool) : (s.setPresent p b).mga = s.mga := rfl
@[simp] theorem State.setPresent_lnc (s : State) (p : PosNo) (b : Bool) : (s.setPresent p b).lnc = s.lnc := rfl
@[simp] theorem State.setPresent_psc (s : State) (p : PosNo) (b : Bool) : (s.setPresent p b).psc = s.psc := rfl
@[simp] theorem State.setPresent_cxm (s : State) (p : PosNo) (b : Bool) : (s.setPresent p b).cxm = s.cxm := rfl
@[simp] theorem State.setPresent_cdu (s : State) (p : PosNo) (b : Bool) : (s.setPresent p b).cdu = s.cdu := rfl
@[simp] theorem State.setPresent_mix (s : State) (p : PosNo) (b : Bool) : (s.setPresent p b).mix = s.mix := rfl
@[simp] theorem State.setPresent_gtu (s : State) (p : PosNo) (b : Bool) : (s.setPresent p b).gtu = s.gtu := rfl
@[simp] theorem State.setPresent_prs (s : State) (p : PosNo) (b : Bool) : (s.setPresent p b).prs = s.prs := rfl
@[simp] theorem State.setPresent_rcu (s : State) (p : PosNo) (b : Bool) : (s.setPresent p b).rcu = s.rcu := rfl
@[simp] theorem State.setPresent_pending (s : State) (p : PosNo) (b : Bool) :
    (s.setPresent p b).pending = s.pending := rfl
@[simp] theorem State.setPresent_line (s : State) (p : PosNo) (b : Bool) (x : LineNo) :
    (s.setPresent p b).line x = s.line x := rfl
@[simp] theorem State.setPresent_position (s : State) (p : PosNo) (b : Bool) (x : PosNo) :
    (s.setPresent p b).position x = s.position x := rfl
@[simp] theorem State.setPresent_key (s : State) (p : PosNo) (b : Bool) (x : PosNo) (y : KeyNo) :
    (s.setPresent p b).key x y = s.key x y := rfl
@[simp] theorem State.setPresent_assign (s : State) (p : PosNo) (b : Bool) (x : PosNo) (y : SpkNo) :
    (s.setPresent p b).assign x y = s.assign x y := rfl
@[simp] theorem State.setPresent_gen (s : State) (p : PosNo) (b : Bool) (x : CgNo) :
    (s.setPresent p b).gen x = s.gen x := rfl
@[simp] theorem State.setPresent_group (s : State) (p : PosNo) (b : Bool) (x : GroupNo) :
    (s.setPresent p b).group x = s.group x := rfl
@[simp] theorem State.setPresent_chan (s : State) (p : PosNo) (b : Bool) (x : ChanNo) :
    (s.setPresent p b).chan x = s.chan x := rfl
@[simp] theorem State.setPresent_now (s : State) (p : PosNo) (b : Bool) : (s.setPresent p b).now = s.now := rfl
@[simp] theorem State.setPresent_demand (s : State) (p : PosNo) (b : Bool) (x : LineNo) :
    (s.setPresent p b).demand x = s.demand x := rfl
@[simp] theorem State.setPresent_keptNeed (s : State) (p : PosNo) (b : Bool) (x : Target) :
    (s.setPresent p b).keptNeed x = s.keptNeed x := by cases x <;> rfl
@[simp] theorem State.setPresent_running (s : State) (p : PosNo) (b : Bool) :
    (s.setPresent p b).running = s.running := rfl
/-! ### `State.setPrivacy` -/
@[simp] theorem State.setPrivacy_lif (s : State) (l : LineNo) (b : Bool) : (s.setPrivacy l b).lif = s.lif := rfl
@[simp] theorem State.setPrivacy_mga (s : State) (l : LineNo) (b : Bool) : (s.setPrivacy l b).mga = s.mga := rfl
@[simp] theorem State.setPrivacy_lnc (s : State) (l : LineNo) (b : Bool) : (s.setPrivacy l b).lnc = s.lnc := rfl
@[simp] theorem State.setPrivacy_psc (s : State) (l : LineNo) (b : Bool) : (s.setPrivacy l b).psc = s.psc := rfl
@[simp] theorem State.setPrivacy_cdu (s : State) (l : LineNo) (b : Bool) : (s.setPrivacy l b).cdu = s.cdu := rfl
@[simp] theorem State.setPrivacy_mix (s : State) (l : LineNo) (b : Bool) : (s.setPrivacy l b).mix = s.mix := rfl
@[simp] theorem State.setPrivacy_gtu (s : State) (l : LineNo) (b : Bool) : (s.setPrivacy l b).gtu = s.gtu := rfl
@[simp] theorem State.setPrivacy_prs (s : State) (l : LineNo) (b : Bool) : (s.setPrivacy l b).prs = s.prs := rfl
@[simp] theorem State.setPrivacy_rcu (s : State) (l : LineNo) (b : Bool) : (s.setPrivacy l b).rcu = s.rcu := rfl
@[simp] theorem State.setPrivacy_pending (s : State) (l : LineNo) (b : Bool) :
    (s.setPrivacy l b).pending = s.pending := rfl
@[simp] theorem State.setPrivacy_line (s : State) (l : LineNo) (b : Bool) (x : LineNo) :
    (s.setPrivacy l b).line x = s.line x := rfl
@[simp] theorem State.setPrivacy_position (s : State) (l : LineNo) (b : Bool) (x : PosNo) :
    (s.setPrivacy l b).position x = s.position x := rfl
@[simp] theorem State.setPrivacy_key (s : State) (l : LineNo) (b : Bool) (x : PosNo) (y : KeyNo) :
    (s.setPrivacy l b).key x y = s.key x y := rfl
@[simp] theorem State.setPrivacy_assign (s : State) (l : LineNo) (b : Bool) (x : PosNo) (y : SpkNo) :
    (s.setPrivacy l b).assign x y = s.assign x y := rfl
@[simp] theorem State.setPrivacy_gen (s : State) (l : LineNo) (b : Bool) (x : CgNo) :
    (s.setPrivacy l b).gen x = s.gen x := rfl
@[simp] theorem State.setPrivacy_group (s : State) (l : LineNo) (b : Bool) (x : GroupNo) :
    (s.setPrivacy l b).group x = s.group x := rfl
@[simp] theorem State.setPrivacy_chan (s : State) (l : LineNo) (b : Bool) (x : ChanNo) :
    (s.setPrivacy l b).chan x = s.chan x := rfl
@[simp] theorem State.setPrivacy_port (s : State) (l : LineNo) (b : Bool) (x : PortNo) :
    (s.setPrivacy l b).port x = s.port x := rfl
@[simp] theorem State.setPrivacy_now (s : State) (l : LineNo) (b : Bool) : (s.setPrivacy l b).now = s.now := rfl
@[simp] theorem State.setPrivacy_demand (s : State) (l : LineNo) (b : Bool) (x : LineNo) :
    (s.setPrivacy l b).demand x = s.demand x := rfl
@[simp] theorem State.setPrivacy_keptNeed (s : State) (l : LineNo) (b : Bool) (x : Target) :
    (s.setPrivacy l b).keptNeed x = s.keptNeed x := by cases x <;> rfl
@[simp] theorem State.setPrivacy_running (s : State) (l : LineNo) (b : Bool) :
    (s.setPrivacy l b).running = s.running := rfl
/-! ### `State.addConn` -/
@[simp] theorem State.addConn_lif (s : State) (c : Conn) : (s.addConn c).lif = s.lif := rfl
@[simp] theorem State.addConn_mga (s : State) (c : Conn) : (s.addConn c).mga = s.mga := rfl
@[simp] theorem State.addConn_lnc (s : State) (c : Conn) : (s.addConn c).lnc = s.lnc := rfl
@[simp] theorem State.addConn_psc (s : State) (c : Conn) : (s.addConn c).psc = s.psc := rfl
@[simp] theorem State.addConn_cdu (s : State) (c : Conn) : (s.addConn c).cdu = s.cdu := rfl
@[simp] theorem State.addConn_mix (s : State) (c : Conn) : (s.addConn c).mix = s.mix := rfl
@[simp] theorem State.addConn_gtu (s : State) (c : Conn) : (s.addConn c).gtu = s.gtu := rfl
@[simp] theorem State.addConn_prs (s : State) (c : Conn) : (s.addConn c).prs = s.prs := rfl
@[simp] theorem State.addConn_rcu (s : State) (c : Conn) : (s.addConn c).rcu = s.rcu := rfl
@[simp] theorem State.addConn_pending (s : State) (c : Conn) : (s.addConn c).pending = s.pending := rfl
@[simp] theorem State.addConn_line (s : State) (c : Conn) (x : LineNo) : (s.addConn c).line x = s.line x := rfl
@[simp] theorem State.addConn_position (s : State) (c : Conn) (x : PosNo) :
    (s.addConn c).position x = s.position x := rfl
@[simp] theorem State.addConn_key (s : State) (c : Conn) (x : PosNo) (y : KeyNo) :
    (s.addConn c).key x y = s.key x y := rfl
@[simp] theorem State.addConn_assign (s : State) (c : Conn) (x : PosNo) (y : SpkNo) :
    (s.addConn c).assign x y = s.assign x y := rfl
@[simp] theorem State.addConn_gen (s : State) (c : Conn) (x : CgNo) : (s.addConn c).gen x = s.gen x := rfl
@[simp] theorem State.addConn_group (s : State) (c : Conn) (x : GroupNo) : (s.addConn c).group x = s.group x := rfl
@[simp] theorem State.addConn_chan (s : State) (c : Conn) (x : ChanNo) : (s.addConn c).chan x = s.chan x := rfl
@[simp] theorem State.addConn_port (s : State) (c : Conn) (x : PortNo) : (s.addConn c).port x = s.port x := rfl
@[simp] theorem State.addConn_now (s : State) (c : Conn) : (s.addConn c).now = s.now := rfl
@[simp] theorem State.addConn_demand (s : State) (c : Conn) (x : LineNo) : (s.addConn c).demand x = s.demand x := rfl
@[simp] theorem State.addConn_keptNeed (s : State) (c : Conn) (x : Target) :
    (s.addConn c).keptNeed x = s.keptNeed x := by cases x <;> rfl
@[simp] theorem State.addConn_running (s : State) (c : Conn) : (s.addConn c).running = s.running := rfl
/-! ### `State.changeConn` -/
@[simp] theorem State.changeConn_lif (s : State) (c d : Conn) : (s.changeConn c d).lif = s.lif := rfl
@[simp] theorem State.changeConn_mga (s : State) (c d : Conn) : (s.changeConn c d).mga = s.mga := rfl
@[simp] theorem State.changeConn_lnc (s : State) (c d : Conn) : (s.changeConn c d).lnc = s.lnc := rfl
@[simp] theorem State.changeConn_psc (s : State) (c d : Conn) : (s.changeConn c d).psc = s.psc := rfl
@[simp] theorem State.changeConn_cdu (s : State) (c d : Conn) : (s.changeConn c d).cdu = s.cdu := rfl
@[simp] theorem State.changeConn_mix (s : State) (c d : Conn) : (s.changeConn c d).mix = s.mix := rfl
@[simp] theorem State.changeConn_gtu (s : State) (c d : Conn) : (s.changeConn c d).gtu = s.gtu := rfl
@[simp] theorem State.changeConn_prs (s : State) (c d : Conn) : (s.changeConn c d).prs = s.prs := rfl
@[simp] theorem State.changeConn_rcu (s : State) (c d : Conn) : (s.changeConn c d).rcu = s.rcu := rfl
@[simp] theorem State.changeConn_pending (s : State) (c d : Conn) : (s.changeConn c d).pending = s.pending := rfl
@[simp] theorem State.changeConn_line (s : State) (c d : Conn) (x : LineNo) :
    (s.changeConn c d).line x = s.line x := rfl
@[simp] theorem State.changeConn_position (s : State) (c d : Conn) (x : PosNo) :
    (s.changeConn c d).position x = s.position x := rfl
@[simp] theorem State.changeConn_key (s : State) (c d : Conn) (x : PosNo) (y : KeyNo) :
    (s.changeConn c d).key x y = s.key x y := rfl
@[simp] theorem State.changeConn_assign (s : State) (c d : Conn) (x : PosNo) (y : SpkNo) :
    (s.changeConn c d).assign x y = s.assign x y := rfl
@[simp] theorem State.changeConn_gen (s : State) (c d : Conn) (x : CgNo) : (s.changeConn c d).gen x = s.gen x := rfl
@[simp] theorem State.changeConn_group (s : State) (c d : Conn) (x : GroupNo) :
    (s.changeConn c d).group x = s.group x := rfl
@[simp] theorem State.changeConn_chan (s : State) (c d : Conn) (x : ChanNo) :
    (s.changeConn c d).chan x = s.chan x := rfl
@[simp] theorem State.changeConn_port (s : State) (c d : Conn) (x : PortNo) :
    (s.changeConn c d).port x = s.port x := rfl
@[simp] theorem State.changeConn_now (s : State) (c d : Conn) : (s.changeConn c d).now = s.now := rfl
@[simp] theorem State.changeConn_demand (s : State) (c d : Conn) (x : LineNo) :
    (s.changeConn c d).demand x = s.demand x := rfl
@[simp] theorem State.changeConn_keptNeed (s : State) (c d : Conn) (x : Target) :
    (s.changeConn c d).keptNeed x = s.keptNeed x := by cases x <;> rfl
@[simp] theorem State.changeConn_running (s : State) (c d : Conn) : (s.changeConn c d).running = s.running := rfl
/-! ### `State.respond` -/
@[simp] theorem State.respond_lif (s : State) (kind : Byte) (tag : U16) (code : ResultCode) (data : List Byte) :
    (s.respond kind tag code data).lif = s.lif := rfl
@[simp] theorem State.respond_lnc (s : State) (kind : Byte) (tag : U16) (code : ResultCode) (data : List Byte) :
    (s.respond kind tag code data).lnc = s.lnc := rfl
@[simp] theorem State.respond_psc (s : State) (kind : Byte) (tag : U16) (code : ResultCode) (data : List Byte) :
    (s.respond kind tag code data).psc = s.psc := rfl
@[simp] theorem State.respond_cxm (s : State) (kind : Byte) (tag : U16) (code : ResultCode) (data : List Byte) :
    (s.respond kind tag code data).cxm = s.cxm := rfl
@[simp] theorem State.respond_cdu (s : State) (kind : Byte) (tag : U16) (code : ResultCode) (data : List Byte) :
    (s.respond kind tag code data).cdu = s.cdu := rfl
@[simp] theorem State.respond_mix (s : State) (kind : Byte) (tag : U16) (code : ResultCode) (data : List Byte) :
    (s.respond kind tag code data).mix = s.mix := rfl
@[simp] theorem State.respond_gtu (s : State) (kind : Byte) (tag : U16) (code : ResultCode) (data : List Byte) :
    (s.respond kind tag code data).gtu = s.gtu := rfl
@[simp] theorem State.respond_prs (s : State) (kind : Byte) (tag : U16) (code : ResultCode) (data : List Byte) :
    (s.respond kind tag code data).prs = s.prs := rfl
@[simp] theorem State.respond_rcu (s : State) (kind : Byte) (tag : U16) (code : ResultCode) (data : List Byte) :
    (s.respond kind tag code data).rcu = s.rcu := rfl
@[simp] theorem State.respond_pending (s : State) (kind : Byte) (tag : U16) (code : ResultCode) (data : List Byte) :
    (s.respond kind tag code data).pending = s.pending := rfl
@[simp] theorem State.respond_line (s : State) (kind : Byte) (tag : U16) (code : ResultCode) (data : List Byte) (x : LineNo) :
    (s.respond kind tag code data).line x = s.line x := rfl
@[simp] theorem State.respond_position (s : State) (kind : Byte) (tag : U16) (code : ResultCode) (data : List Byte) (x : PosNo) :
    (s.respond kind tag code data).position x = s.position x := rfl
@[simp] theorem State.respond_key (s : State) (kind : Byte) (tag : U16) (code : ResultCode) (data : List Byte) (x : PosNo) (y : KeyNo) :
    (s.respond kind tag code data).key x y = s.key x y := rfl
@[simp] theorem State.respond_assign (s : State) (kind : Byte) (tag : U16) (code : ResultCode) (data : List Byte) (x : PosNo) (y : SpkNo) :
    (s.respond kind tag code data).assign x y = s.assign x y := rfl
@[simp] theorem State.respond_gen (s : State) (kind : Byte) (tag : U16) (code : ResultCode) (data : List Byte) (x : CgNo) :
    (s.respond kind tag code data).gen x = s.gen x := rfl
@[simp] theorem State.respond_group (s : State) (kind : Byte) (tag : U16) (code : ResultCode) (data : List Byte) (x : GroupNo) :
    (s.respond kind tag code data).group x = s.group x := rfl
@[simp] theorem State.respond_chan (s : State) (kind : Byte) (tag : U16) (code : ResultCode) (data : List Byte) (x : ChanNo) :
    (s.respond kind tag code data).chan x = s.chan x := rfl
@[simp] theorem State.respond_port (s : State) (kind : Byte) (tag : U16) (code : ResultCode) (data : List Byte) (x : PortNo) :
    (s.respond kind tag code data).port x = s.port x := rfl
@[simp] theorem State.respond_now (s : State) (kind : Byte) (tag : U16) (code : ResultCode) (data : List Byte) :
    (s.respond kind tag code data).now = s.now := rfl
@[simp] theorem State.respond_demand (s : State) (kind : Byte) (tag : U16) (code : ResultCode) (data : List Byte) (x : LineNo) :
    (s.respond kind tag code data).demand x = s.demand x := rfl
@[simp] theorem State.respond_keptNeed (s : State) (kind : Byte) (tag : U16) (code : ResultCode) (data : List Byte) (x : Target) :
    (s.respond kind tag code data).keptNeed x = s.keptNeed x := by cases x <;> rfl
/-! ### `State.discard` -/
@[simp] theorem State.discard_lif (s : State) : (s.discard).lif = s.lif := rfl
@[simp] theorem State.discard_lnc (s : State) : (s.discard).lnc = s.lnc := rfl
@[simp] theorem State.discard_psc (s : State) : (s.discard).psc = s.psc := rfl
@[simp] theorem State.discard_cxm (s : State) : (s.discard).cxm = s.cxm := rfl
@[simp] theorem State.discard_cdu (s : State) : (s.discard).cdu = s.cdu := rfl
@[simp] theorem State.discard_mix (s : State) : (s.discard).mix = s.mix := rfl
@[simp] theorem State.discard_gtu (s : State) : (s.discard).gtu = s.gtu := rfl
@[simp] theorem State.discard_prs (s : State) : (s.discard).prs = s.prs := rfl
@[simp] theorem State.discard_rcu (s : State) : (s.discard).rcu = s.rcu := rfl
@[simp] theorem State.discard_pending (s : State) : (s.discard).pending = s.pending := rfl
@[simp] theorem State.discard_line (s : State) (x : LineNo) : (s.discard).line x = s.line x := rfl
@[simp] theorem State.discard_position (s : State) (x : PosNo) : (s.discard).position x = s.position x := rfl
@[simp] theorem State.discard_key (s : State) (x : PosNo) (y : KeyNo) : (s.discard).key x y = s.key x y := rfl
@[simp] theorem State.discard_assign (s : State) (x : PosNo) (y : SpkNo) : (s.discard).assign x y = s.assign x y := rfl
@[simp] theorem State.discard_gen (s : State) (x : CgNo) : (s.discard).gen x = s.gen x := rfl
@[simp] theorem State.discard_group (s : State) (x : GroupNo) : (s.discard).group x = s.group x := rfl
@[simp] theorem State.discard_chan (s : State) (x : ChanNo) : (s.discard).chan x = s.chan x := rfl
@[simp] theorem State.discard_port (s : State) (x : PortNo) : (s.discard).port x = s.port x := rfl
@[simp] theorem State.discard_now (s : State) : (s.discard).now = s.now := rfl
@[simp] theorem State.discard_demand (s : State) (x : LineNo) : (s.discard).demand x = s.demand x := rfl
@[simp] theorem State.discard_keptNeed (s : State) (x : Target) :
    (s.discard).keptNeed x = s.keptNeed x := by cases x <;> rfl
/-! ### Reading back what was written -/
/-- Reading a record after writing one. -/
theorem State.setLine_line_eq (s : State) (l : LineNo) (r : LineRec) (x : LineNo) :
    (s.setLine l r).line x = if l = x then r else s.line x := by
  simp [State.setLine, State.line, Vector.getElem_set, Fin.ext_iff]

@[simp] theorem State.setLine_line_self (s : State) (l : LineNo) (r : LineRec) : (s.setLine l r).line l = r := by
  simp [State.setLine_line_eq]

theorem State.setLine_line_ne (s : State) {l x : LineNo} (r : LineRec) (h : l ≠ x) : (s.setLine l r).line x = s.line x := by
  simp [State.setLine_line_eq, h]
/-- Reading a record after writing one. -/
theorem State.setPosition_position_eq (s : State) (l : PosNo) (r : PositionRec) (x : PosNo) :
    (s.setPosition l r).position x = if l = x then r else s.position x := by
  simp [State.setPosition, State.position, Vector.getElem_set, Fin.ext_iff]

@[simp] theorem State.setPosition_position_self (s : State) (l : PosNo) (r : PositionRec) :
    (s.setPosition l r).position l = r := by
  simp [State.setPosition_position_eq]

theorem State.setPosition_position_ne (s : State) {l x : PosNo} (r : PositionRec) (h : l ≠ x) : (s.setPosition l r).position x = s.position x := by
  simp [State.setPosition_position_eq, h]
/-- Reading a record after writing one. -/
theorem State.setGen_gen_eq (s : State) (l : CgNo) (r : Gen) (x : CgNo) :
    (s.setGen l r).gen x = if l = x then r else s.gen x := by
  simp [State.setGen, State.gen, Vector.getElem_set, Fin.ext_iff]

@[simp] theorem State.setGen_gen_self (s : State) (l : CgNo) (r : Gen) : (s.setGen l r).gen l = r := by
  simp [State.setGen_gen_eq]

theorem State.setGen_gen_ne (s : State) {l x : CgNo} (r : Gen) (h : l ≠ x) : (s.setGen l r).gen x = s.gen x := by
  simp [State.setGen_gen_eq, h]
/-- Reading a record after writing one. -/
theorem State.setGroup_group_eq (s : State) (l : GroupNo) (r : GroupRec) (x : GroupNo) :
    (s.setGroup l r).group x = if l = x then r else s.group x := by
  simp [State.setGroup, State.group, Vector.getElem_set, Fin.ext_iff]

@[simp] theorem State.setGroup_group_self (s : State) (l : GroupNo) (r : GroupRec) : (s.setGroup l r).group l = r := by
  simp [State.setGroup_group_eq]

theorem State.setGroup_group_ne (s : State) {l x : GroupNo} (r : GroupRec) (h : l ≠ x) : (s.setGroup l r).group x = s.group x := by
  simp [State.setGroup_group_eq, h]
/-- Reading a record after writing one. -/
theorem State.setChan_chan_eq (s : State) (l : ChanNo) (r : Chan) (x : ChanNo) :
    (s.setChan l r).chan x = if l = x then r else s.chan x := by
  simp [State.setChan, State.chan, Vector.getElem_set, Fin.ext_iff]

@[simp] theorem State.setChan_chan_self (s : State) (l : ChanNo) (r : Chan) : (s.setChan l r).chan l = r := by
  simp [State.setChan_chan_eq]

theorem State.setChan_chan_ne (s : State) {l x : ChanNo} (r : Chan) (h : l ≠ x) : (s.setChan l r).chan x = s.chan x := by
  simp [State.setChan_chan_eq, h]
/-- Reading a record after writing one. -/
theorem State.setPort_port_eq (s : State) (l : PortNo) (r : Port) (x : PortNo) :
    (s.setPort l r).port x = if l = x then r else s.port x := by
  simp [State.setPort, State.port, Vector.getElem_set, Fin.ext_iff]

@[simp] theorem State.setPort_port_self (s : State) (l : PortNo) (r : Port) : (s.setPort l r).port l = r := by
  simp [State.setPort_port_eq]

theorem State.setPort_port_ne (s : State) {l x : PortNo} (r : Port) (h : l ≠ x) : (s.setPort l r).port x = s.port x := by
  simp [State.setPort_port_eq, h]
/-- Reading a record after writing one. -/
theorem State.setDemand_demand_eq (s : State) (l : LineNo) (r : Bool) (x : LineNo) :
    (s.setDemand l r).demand x = if l = x then r else s.demand x := by
  simp [State.setDemand, State.demand, Vector.getElem_set, Fin.ext_iff]

@[simp] theorem State.setDemand_demand_self (s : State) (l : LineNo) (r : Bool) : (s.setDemand l r).demand l = r := by
  simp [State.setDemand_demand_eq]

theorem State.setDemand_demand_ne (s : State) {l x : LineNo} (r : Bool) (h : l ≠ x) : (s.setDemand l r).demand x = s.demand x := by
  simp [State.setDemand_demand_eq, h]
@[simp] theorem State.setPosition_key (s : State) (p : PosNo) (r : PositionRec) (x : PosNo) (y : KeyNo) :
    (s.setPosition p r).key x y = s.key x y := rfl
@[simp] theorem State.setPosition_assign (s : State) (p : PosNo) (r : PositionRec) (x : PosNo) (y : SpkNo) :
    (s.setPosition p r).assign x y = s.assign x y := rfl
@[simp] theorem State.setGen_now (s : State) (n : CgNo) (g : Gen) : (s.setGen n g).now = s.now := rfl
@[simp] theorem State.setDemand_keptNeed (s : State) (l : LineNo) (b : Bool) (x : Target) :
    (s.setDemand l b).keptNeed x = s.keptNeed x := by cases x <;> rfl
@[simp] theorem State.respond_running (s : State) (kind : Byte) (tag : U16) (code : ResultCode) (data : List Byte) :
    (s.respond kind tag code data).running = s.running := rfl
@[simp] theorem State.discard_running (s : State) : s.discard.running = s.running := rfl
/-! ### `State.setKeptNeed` -/
@[simp] theorem State.setKeptNeed_lif (s : State) (t : Target) (n : Need) :
    (s.setKeptNeed t n).lif = s.lif := by cases t <;> rfl
@[simp] theorem State.setKeptNeed_mga (s : State) (t : Target) (n : Need) :
    (s.setKeptNeed t n).mga = s.mga := by cases t <;> rfl
@[simp] theorem State.setKeptNeed_lnc (s : State) (t : Target) (n : Need) :
    (s.setKeptNeed t n).lnc = s.lnc := by cases t <;> rfl
@[simp] theorem State.setKeptNeed_psc (s : State) (t : Target) (n : Need) :
    (s.setKeptNeed t n).psc = s.psc := by cases t <;> rfl
@[simp] theorem State.setKeptNeed_cxm (s : State) (t : Target) (n : Need) :
    (s.setKeptNeed t n).cxm = s.cxm := by cases t <;> rfl
@[simp] theorem State.setKeptNeed_cdu (s : State) (t : Target) (n : Need) :
    (s.setKeptNeed t n).cdu = s.cdu := by cases t <;> rfl
@[simp] theorem State.setKeptNeed_mix (s : State) (t : Target) (n : Need) :
    (s.setKeptNeed t n).mix = s.mix := by cases t <;> rfl
@[simp] theorem State.setKeptNeed_gtu (s : State) (t : Target) (n : Need) :
    (s.setKeptNeed t n).gtu = s.gtu := by cases t <;> rfl
@[simp] theorem State.setKeptNeed_rcu (s : State) (t : Target) (n : Need) :
    (s.setKeptNeed t n).rcu = s.rcu := by cases t <;> rfl
@[simp] theorem State.setKeptNeed_pending (s : State) (t : Target) (n : Need) :
    (s.setKeptNeed t n).pending = s.pending := by cases t <;> rfl
@[simp] theorem State.setKeptNeed_line (s : State) (t : Target) (n : Need) (x : LineNo) :
    (s.setKeptNeed t n).line x = s.line x := by cases t <;> rfl
@[simp] theorem State.setKeptNeed_position (s : State) (t : Target) (n : Need) (x : PosNo) :
    (s.setKeptNeed t n).position x = s.position x := by cases t <;> rfl
@[simp] theorem State.setKeptNeed_key (s : State) (t : Target) (n : Need) (x : PosNo) (y : KeyNo) :
    (s.setKeptNeed t n).key x y = s.key x y := by cases t <;> rfl
@[simp] theorem State.setKeptNeed_assign (s : State) (t : Target) (n : Need) (x : PosNo) (y : SpkNo) :
    (s.setKeptNeed t n).assign x y = s.assign x y := by cases t <;> rfl
@[simp] theorem State.setKeptNeed_gen (s : State) (t : Target) (n : Need) (x : CgNo) :
    (s.setKeptNeed t n).gen x = s.gen x := by cases t <;> rfl
@[simp] theorem State.setKeptNeed_group (s : State) (t : Target) (n : Need) (x : GroupNo) :
    (s.setKeptNeed t n).group x = s.group x := by cases t <;> rfl
@[simp] theorem State.setKeptNeed_chan (s : State) (t : Target) (n : Need) (x : ChanNo) :
    (s.setKeptNeed t n).chan x = s.chan x := by cases t <;> rfl
@[simp] theorem State.setKeptNeed_port (s : State) (t : Target) (n : Need) (x : PortNo) :
    (s.setKeptNeed t n).port x = s.port x := by cases t <;> rfl
@[simp] theorem State.setKeptNeed_now (s : State) (t : Target) (n : Need) :
    (s.setKeptNeed t n).now = s.now := by cases t <;> rfl
@[simp] theorem State.setKeptNeed_running (s : State) (t : Target) (n : Need) :
    (s.setKeptNeed t n).running = s.running := by cases t <;> rfl
/-- Reading a kept need after keeping one. -/
theorem State.setKeptNeed_keptNeed_eq (s : State) (t : Target) (n : Need) (x : Target) :
    (s.setKeptNeed t n).keptNeed x = if t = x then n else s.keptNeed x := by
  cases t <;> cases x <;> simp [State.setKeptNeed, State.keptNeed, Vector.getElem_set, Fin.ext_iff]

/-! ### Occurrences -/

/-- R184: an occurrence changes nothing but MGA's state. -/
theorem State.raise_eq (s : State) (o : Occurrence) :
    s.raise o = { s with mga := if s.mga.phase = .init then s.mga else s.mga.take o s.now } := by
  unfold State.raise; split <;> rfl

/-- A switching block's occurrence changes nothing but MGA's state. -/
theorem State.raiseRunning_eq (s : State) (o : Occurrence) :
    s.raiseRunning o = { s with mga := if s.running then s.mga.take o s.now else s.mga } := by
  unfold State.raiseRunning
  split
  · rename_i h
    rw [State.raise_eq]
    have : ¬ s.mga.phase = .init := by
      intro hp; simp [State.running, hp] at h
    simp [this]
  · rfl
@[simp] theorem State.raise_lif (s : State) (o : Occurrence) : (s.raise o).lif = s.lif := by rw [State.raise_eq]
@[simp] theorem State.raise_lnc (s : State) (o : Occurrence) : (s.raise o).lnc = s.lnc := by rw [State.raise_eq]
@[simp] theorem State.raise_psc (s : State) (o : Occurrence) : (s.raise o).psc = s.psc := by rw [State.raise_eq]
@[simp] theorem State.raise_cxm (s : State) (o : Occurrence) : (s.raise o).cxm = s.cxm := by rw [State.raise_eq]
@[simp] theorem State.raise_cdu (s : State) (o : Occurrence) : (s.raise o).cdu = s.cdu := by rw [State.raise_eq]
@[simp] theorem State.raise_mix (s : State) (o : Occurrence) : (s.raise o).mix = s.mix := by rw [State.raise_eq]
@[simp] theorem State.raise_gtu (s : State) (o : Occurrence) : (s.raise o).gtu = s.gtu := by rw [State.raise_eq]
@[simp] theorem State.raise_prs (s : State) (o : Occurrence) : (s.raise o).prs = s.prs := by rw [State.raise_eq]
@[simp] theorem State.raise_rcu (s : State) (o : Occurrence) : (s.raise o).rcu = s.rcu := by rw [State.raise_eq]
@[simp] theorem State.raise_pending (s : State) (o : Occurrence) :
    (s.raise o).pending = s.pending := by rw [State.raise_eq]
@[simp] theorem State.raise_line (s : State) (o : Occurrence) (x : LineNo) :
    (s.raise o).line x = s.line x := by rw [State.raise_eq]; rfl
@[simp] theorem State.raise_position (s : State) (o : Occurrence) (x : PosNo) :
    (s.raise o).position x = s.position x := by rw [State.raise_eq]; rfl
@[simp] theorem State.raise_key (s : State) (o : Occurrence) (x : PosNo) (y : KeyNo) :
    (s.raise o).key x y = s.key x y := by rw [State.raise_eq]; rfl
@[simp] theorem State.raise_assign (s : State) (o : Occurrence) (x : PosNo) (y : SpkNo) :
    (s.raise o).assign x y = s.assign x y := by rw [State.raise_eq]; rfl
@[simp] theorem State.raise_gen (s : State) (o : Occurrence) (x : CgNo) :
    (s.raise o).gen x = s.gen x := by rw [State.raise_eq]; rfl
@[simp] theorem State.raise_group (s : State) (o : Occurrence) (x : GroupNo) :
    (s.raise o).group x = s.group x := by rw [State.raise_eq]; rfl
@[simp] theorem State.raise_chan (s : State) (o : Occurrence) (x : ChanNo) :
    (s.raise o).chan x = s.chan x := by rw [State.raise_eq]; rfl
@[simp] theorem State.raise_port (s : State) (o : Occurrence) (x : PortNo) :
    (s.raise o).port x = s.port x := by rw [State.raise_eq]; rfl
@[simp] theorem State.raise_now (s : State) (o : Occurrence) : (s.raise o).now = s.now := by rw [State.raise_eq]; rfl
@[simp] theorem State.raise_demand (s : State) (o : Occurrence) (x : LineNo) :
    (s.raise o).demand x = s.demand x := by rw [State.raise_eq]; rfl
@[simp] theorem State.raise_keptNeed (s : State) (o : Occurrence) (x : Target) :
    (s.raise o).keptNeed x = s.keptNeed x := by rw [State.raise_eq]; cases x <;> rfl
@[simp] theorem State.raiseRunning_lif (s : State) (o : Occurrence) :
    (s.raiseRunning o).lif = s.lif := by rw [State.raiseRunning_eq]
@[simp] theorem State.raiseRunning_lnc (s : State) (o : Occurrence) :
    (s.raiseRunning o).lnc = s.lnc := by rw [State.raiseRunning_eq]
@[simp] theorem State.raiseRunning_psc (s : State) (o : Occurrence) :
    (s.raiseRunning o).psc = s.psc := by rw [State.raiseRunning_eq]
@[simp] theorem State.raiseRunning_cxm (s : State) (o : Occurrence) :
    (s.raiseRunning o).cxm = s.cxm := by rw [State.raiseRunning_eq]
@[simp] theorem State.raiseRunning_cdu (s : State) (o : Occurrence) :
    (s.raiseRunning o).cdu = s.cdu := by rw [State.raiseRunning_eq]
@[simp] theorem State.raiseRunning_mix (s : State) (o : Occurrence) :
    (s.raiseRunning o).mix = s.mix := by rw [State.raiseRunning_eq]
@[simp] theorem State.raiseRunning_gtu (s : State) (o : Occurrence) :
    (s.raiseRunning o).gtu = s.gtu := by rw [State.raiseRunning_eq]
@[simp] theorem State.raiseRunning_prs (s : State) (o : Occurrence) :
    (s.raiseRunning o).prs = s.prs := by rw [State.raiseRunning_eq]
@[simp] theorem State.raiseRunning_rcu (s : State) (o : Occurrence) :
    (s.raiseRunning o).rcu = s.rcu := by rw [State.raiseRunning_eq]
@[simp] theorem State.raiseRunning_pending (s : State) (o : Occurrence) :
    (s.raiseRunning o).pending = s.pending := by rw [State.raiseRunning_eq]
@[simp] theorem State.raiseRunning_line (s : State) (o : Occurrence) (x : LineNo) :
    (s.raiseRunning o).line x = s.line x := by rw [State.raiseRunning_eq]; rfl
@[simp] theorem State.raiseRunning_position (s : State) (o : Occurrence) (x : PosNo) :
    (s.raiseRunning o).position x = s.position x := by rw [State.raiseRunning_eq]; rfl
@[simp] theorem State.raiseRunning_key (s : State) (o : Occurrence) (x : PosNo) (y : KeyNo) :
    (s.raiseRunning o).key x y = s.key x y := by rw [State.raiseRunning_eq]; rfl
@[simp] theorem State.raiseRunning_assign (s : State) (o : Occurrence) (x : PosNo) (y : SpkNo) :
    (s.raiseRunning o).assign x y = s.assign x y := by rw [State.raiseRunning_eq]; rfl
@[simp] theorem State.raiseRunning_gen (s : State) (o : Occurrence) (x : CgNo) :
    (s.raiseRunning o).gen x = s.gen x := by rw [State.raiseRunning_eq]; rfl
@[simp] theorem State.raiseRunning_group (s : State) (o : Occurrence) (x : GroupNo) :
    (s.raiseRunning o).group x = s.group x := by rw [State.raiseRunning_eq]; rfl
@[simp] theorem State.raiseRunning_chan (s : State) (o : Occurrence) (x : ChanNo) :
    (s.raiseRunning o).chan x = s.chan x := by rw [State.raiseRunning_eq]; rfl
@[simp] theorem State.raiseRunning_port (s : State) (o : Occurrence) (x : PortNo) :
    (s.raiseRunning o).port x = s.port x := by rw [State.raiseRunning_eq]; rfl
@[simp] theorem State.raiseRunning_now (s : State) (o : Occurrence) :
    (s.raiseRunning o).now = s.now := by rw [State.raiseRunning_eq]; rfl
@[simp] theorem State.raiseRunning_demand (s : State) (o : Occurrence) (x : LineNo) :
    (s.raiseRunning o).demand x = s.demand x := by rw [State.raiseRunning_eq]; rfl
@[simp] theorem State.raiseRunning_keptNeed (s : State) (o : Occurrence) (x : Target) :
    (s.raiseRunning o).keptNeed x = s.keptNeed x := by rw [State.raiseRunning_eq]; cases x <;> rfl

end Sys2Proof.Machine
end

