-- ==== Sys2Proof/Laws/Switching.lean ====
section
/-! SUPPORT. What the switching blocks' operations can touch, said once for each operation and cited instead of unfolding it.
`Base s t`: the links, the queue, the floor clock, the line configurations and the set of DISABLED lines are as before, and
MGA's state has only taken occurrences. `Calm s t`: the connection table and the privacy flags are as before too. -/

namespace Sys2Proof.Machine

/-! ### The two relations -/

/-- MGA's state after taking some occurrences. -/
inductive Raised : Mga → Mga → Prop where
  | refl (m : Mga) : Raised m m
  | take {m n : Mga} (o : Occurrence) (stamp : Clock) (h : Raised m n) : Raised m (n.take o stamp)

theorem Raised.trans {a b c : Mga} (h : Raised a b) (k : Raised b c) : Raised a c := by
  induction k with
  | refl => exact h
  | take o st _ ih => exact .take o st ih

/-- What an operation of the switching blocks leaves as it was. -/
structure Base (s t : State) : Prop where
  lif : t.lif = s.lif
  pending : t.pending = s.pending
  mga : Raised s.mga t.mga
  clock : t.cdu.clock = s.cdu.clock
  cfg : ∀ l, (t.line l).cfg = (s.line l).cfg
  disabled : ∀ l, (t.line l).state = .disabled ↔ (s.line l).state = .disabled

/-- What an operation that makes, moves and removes no connection leaves as it was. -/
structure Calm (s t : State) : Prop extends Base s t where
  cxm : t.cxm = s.cxm

theorem Base.refl (s : State) : Base s s := ⟨rfl, rfl, .refl _, rfl, fun _ => rfl, fun _ => Iff.rfl⟩

theorem Base.trans {a b c : State} (h : Base a b) (k : Base b c) : Base a c :=
  ⟨k.lif.trans h.lif, k.pending.trans h.pending, h.mga.trans k.mga, k.clock.trans h.clock,
    fun l => (k.cfg l).trans (h.cfg l), fun l => (k.disabled l).trans (h.disabled l)⟩

theorem Calm.refl (s : State) : Calm s s := ⟨Base.refl s, rfl⟩

theorem Calm.trans {a b c : State} (h : Calm a b) (k : Calm b c) : Calm a c :=
  ⟨h.toBase.trans k.toBase, k.cxm.trans h.cxm⟩

theorem Base.ite {s a b : State} (p : Prop) [Decidable p] (h : Base s a) (k : Base s b) : Base s (if p then a else b) := by
  split
  · exact h
  · exact k

theorem Calm.ite {s a b : State} (p : Prop) [Decidable p] (h : Calm s a) (k : Calm s b) : Calm s (if p then a else b) := by
  split
  · exact h
  · exact k

theorem Base.foldl {α : Type} (f : State → α → State) (h : ∀ s a, Base s (f s a)) (s : State) (l : List α) :
    Base s (l.foldl f s) := by
  induction l generalizing s with
  | nil => exact Base.refl s
  | cons a l ih => exact (h s a).trans (ih _)

theorem Calm.foldl {α : Type} (f : State → α → State) (h : ∀ s a, Calm s (f s a)) (s : State) (l : List α) :
    Calm s (l.foldl f s) := by
  induction l generalizing s with
  | nil => exact Calm.refl s
  | cons a l ih => exact (h s a).trans (ih _)

/-- A fold of operations each of which is calm on a line that is not DISABLED. -/
theorem Base.foldl_lines (f : State → LineNo → State) (h : ∀ s l, (s.line l).state ≠ .disabled → Base s (f s l)) (s : State)
    (ls : List LineNo) (hs : ∀ l ∈ ls, (s.line l).state ≠ .disabled) : Base s (ls.foldl f s) := by
  induction ls generalizing s with
  | nil => exact Base.refl s
  | cons a ls ih =>
    have h1 := h s a (hs a (by simp))
    refine h1.trans (ih _ fun l hl => ?_)
    exact fun hd => hs l (by simp [hl]) ((h1.disabled l).1 hd)

theorem Calm.foldl_lines (f : State → LineNo → State) (h : ∀ s l, (s.line l).state ≠ .disabled → Calm s (f s l)) (s : State)
    (ls : List LineNo) (hs : ∀ l ∈ ls, (s.line l).state ≠ .disabled) : Calm s (ls.foldl f s) := by
  induction ls generalizing s with
  | nil => exact Calm.refl s
  | cons a ls ih =>
    have h1 := h s a (hs a (by simp))
    refine h1.trans (ih _ fun l hl => ?_)
    exact fun hd => hs l (by simp [hl]) ((h1.disabled l).1 hd)

/-- An update that touches neither the lines, the links, MGA, the clock, the queue nor the connections. -/
theorem Calm.of_eq {s t : State} (h1 : t.lif = s.lif) (h2 : t.pending = s.pending) (h3 : t.mga = s.mga)
    (h4 : t.cdu.clock = s.cdu.clock) (h5 : t.lnc = s.lnc) (h6 : t.cxm = s.cxm) : Calm s t :=
  ⟨⟨h1, h2, by rw [h3]; exact .refl _, h4, fun l => by simp [State.line, h5], fun l => by simp [State.line, h5]⟩, h6⟩

/-- As `Calm.of_eq`, for an update of the connections. -/
theorem Base.of_eq {s t : State} (h1 : t.lif = s.lif) (h2 : t.pending = s.pending) (h3 : t.mga = s.mga)
    (h4 : t.cdu.clock = s.cdu.clock) (h5 : t.lnc = s.lnc) : Base s t :=
  ⟨h1, h2, by rw [h3]; exact .refl _, h4, fun l => by simp [State.line, h5], fun l => by simp [State.line, h5]⟩

/-- Writing a line record with the same configuration and the same standing towards DISABLED. -/
theorem Calm.setLine (s : State) (l : LineNo) (r : LineRec) (hc : r.cfg = (s.line l).cfg)
    (hd : r.state = .disabled ↔ (s.line l).state = .disabled) : Calm s (s.setLine l r) := by
  refine ⟨⟨rfl, rfl, .refl _, rfl, fun x => ?_, fun x => ?_⟩, rfl⟩
  all_goals
    rw [State.setLine_line_eq]
    split
    · subst_vars; assumption
    · rfl

/-! ### Occurrences and shared operations -/

theorem calm_raise (s : State) (o : Occurrence) : Calm s (s.raise o) := by
  rw [State.raise_eq]
  refine ⟨⟨rfl, rfl, ?_, rfl, fun _ => rfl, fun _ => Iff.rfl⟩, rfl⟩
  show Raised s.mga (if s.mga.phase = .init then s.mga else s.mga.take o s.now)
  split
  · exact .refl _
  · exact .take _ _ (.refl _)

theorem calm_raiseRunning (s : State) (o : Occurrence) : Calm s (s.raiseRunning o) := by
  unfold State.raiseRunning
  exact Calm.ite _ (calm_raise s o) (Calm.refl s)

theorem calm_setPosition (s : State) (p : PosNo) (r : PositionRec) : Calm s (s.setPosition p r) :=
  .of_eq rfl rfl rfl rfl rfl rfl

theorem calm_setGen (s : State) (n : CgNo) (g : Gen) : Calm s (s.setGen n g) := .of_eq rfl rfl rfl rfl rfl rfl

theorem calm_setGroup (s : State) (g : GroupNo) (r : GroupRec) : Calm s (s.setGroup g r) := .of_eq rfl rfl rfl rfl rfl rfl

theorem calm_setChan (s : State) (c : ChanNo) (r : Chan) : Calm s (s.setChan c r) := .of_eq rfl rfl rfl rfl rfl rfl

theorem calm_setDemand (s : State) (l : LineNo) (b : Bool) : Calm s (s.setDemand l b) := .of_eq rfl rfl rfl rfl rfl rfl

theorem calm_setKeptNeed (s : State) (t : Target) (n : Need) : Calm s (s.setKeptNeed t n) := by
  cases t <;> exact .of_eq rfl rfl rfl rfl rfl rfl

theorem calm_rcu (s : State) (r : Rcu) : Calm s { s with rcu := r } := .of_eq rfl rfl rfl rfl rfl rfl

theorem calm_psc (s : State) (r : Psc) : Calm s { s with psc := r } := .of_eq rfl rfl rfl rfl rfl rfl

theorem calm_mix (s : State) (r : Mix) : Calm s { s with mix := r } := .of_eq rfl rfl rfl rfl rfl rfl

theorem calm_prs (s : State) (r : Prs) : Calm s { s with prs := r } := .of_eq rfl rfl rfl rfl rfl rfl

theorem base_cxm (s : State) (r : Cxm) : Base s { s with cxm := r } := .of_eq rfl rfl rfl rfl rfl

/-! ### Recorder channels and policy (spec/07, spec/08) -/

theorem calm_bindTo (s : State) (c : ChanNo) (t : Target) (cause : RecordCause) : Calm s (s.bindTo c t cause) := by
  unfold State.bindTo
  exact ((calm_setChan s _ _).trans (calm_rcu _ _)).trans (calm_raiseRunning _ _)

theorem calm_ask {s t : State} (x : Target) (h : s.ask x = some t) : Calm s t := by
  unfold State.ask at h
  split at h
  · obtain rfl := Option.some.inj h
    exact (calm_bindTo s _ _ _).trans (calm_setKeptNeed _ _ _)
  · cases h

theorem calm_recordingCheck {s t : State} (x : Target) (p : PolicyCode) (h : s.recordingCheck x p = some t) : Calm s t := by
  unfold State.recordingCheck at h
  split at h
  · obtain rfl := Option.some.inj h; exact Calm.refl _
  · split at h
    · obtain rfl := Option.some.inj h; exact Calm.refl _
    · exact calm_ask x h

theorem calm_rankChange (s : State) (t : Target) (r : Rank) : Calm s (s.rankChange t r) := by
  unfold State.rankChange
  refine Calm.ite _ (Calm.refl s) ?_
  exact Calm.ite _ ((calm_rcu s _).trans (calm_raiseRunning _ _)) (calm_rcu s _)

theorem calm_joinWaitList (s : State) (t : Target) (r : Rank) : Calm s (s.joinWaitList t r) := by
  unfold State.joinWaitList
  exact (calm_rcu s _).trans (calm_raiseRunning _ _)

theorem calm_needsRecording (s : State) (t : Target) (r : Rank) : Calm s (s.needsRecording t r) := by
  unfold State.needsRecording
  refine Calm.ite _ (calm_rankChange s t r) ?_
  split
  · exact calm_bindTo s _ _ _
  · exact calm_joinWaitList s t r

theorem calm_noLongerNeeds (s : State) (t : Target) : Calm s (s.noLongerNeeds t) := by
  unfold State.noLongerNeeds
  split
  · exact (calm_setChan s _ _).trans (calm_raiseRunning _ _)
  · exact calm_rcu s _

theorem calm_passStop (s : State) (c : NeedChange) : Calm s (s.passStop c) := by
  unfold State.passStop
  exact Calm.ite _ ((calm_setKeptNeed s _ _).trans (calm_noLongerNeeds _ _)) (Calm.refl s)

theorem calm_passRank (s : State) (c : NeedChange) : Calm s (s.passRank c) := by
  unfold State.passRank
  split
  · exact (calm_setKeptNeed s _ _).trans (calm_rankChange _ _ _)
  · exact (calm_setKeptNeed s _ _).trans (calm_rankChange _ _ _)
  · exact Calm.refl s

theorem calm_passStart (s : State) (c : NeedChange) : Calm s (s.passStart c) := by
  unfold State.passStart
  split
  · exact (calm_setKeptNeed s _ _).trans (calm_needsRecording _ _ _)
  · exact (calm_setKeptNeed s _ _).trans (calm_needsRecording _ _ _)
  · exact Calm.refl s

theorem calm_reResolve (s : State) (ts : List Target) : Calm s (s.reResolve ts) := by
  unfold State.reResolve
  exact ((Calm.foldl _ calm_passStop s _).trans (Calm.foldl _ calm_passRank _ _)).trans (Calm.foldl _ calm_passStart _ _)

theorem calm_clearDemand (s : State) (l : LineNo) : Calm s (s.clearDemand l) := by
  unfold State.clearDemand
  exact Calm.ite _ (calm_setDemand s _ _) (Calm.refl s)

theorem calm_noticeLines (s : State) (ls : List LineNo) : Calm s (s.noticeLines ls) :=
  (Calm.foldl _ calm_clearDemand s ls).trans (calm_reResolve _ _)

theorem calm_noticeGroups (s : State) (gs : List GroupNo) : Calm s (s.noticeGroups gs) := calm_reResolve s _

theorem calm_reResolveTables (s : State) : Calm s s.reResolveTables := calm_reResolve s _

theorem calm_reResolvePosition (s : State) (p : PosNo) : Calm s (s.reResolvePosition p) := calm_reResolve s _

theorem calm_toggleDemand (s : State) (l : LineNo) : Calm s (s.toggleDemand l) := by
  unfold State.toggleDemand
  exact Calm.ite _ (Calm.refl s) ((calm_setDemand s _ _).trans (calm_reResolve _ _))

/-! ### Denials and line states (spec/01, R43) -/

theorem calm_deny (s : State) (p : PosNo) (k : KeyNo) (r : DenyReason) (t : DenyTarget) : Calm s (s.deny p k r t) := by
  unfold State.deny
  exact (Calm.ite _ (calm_setPosition s _ _) (Calm.refl s)).trans (calm_raiseRunning _ _)

theorem calm_denialSteps (s : State) : Calm s s.denialSteps := calm_psc s _

theorem calm_endDenial (s : State) (p : PosNo) : Calm s (s.endDenial p) := calm_setPosition s _ _

theorem calm_moveLine (s : State) (l : LineNo) (new : LineState) (c : LineCause) (h : (s.line l).state ≠ .disabled)
    (h' : new ≠ .disabled) : Calm s (s.moveLine l new c) := by
  unfold State.moveLine
  exact (Calm.setLine s l _ (by rfl) (by simp [LineRec.enter, h, h'])).trans (calm_raiseRunning _ _)

theorem calm_clearLine (s : State) (l : LineNo) (c : LineCause) (h : (s.line l).state ≠ .disabled) :
    Calm s (s.clearLine l c) := by
  unfold State.clearLine
  exact calm_moveLine s l _ c h (by split <;> simp)

theorem calm_connectionEvent (s : State) (l : LineNo) (old new : Totals) : Calm s (s.connectionEvent l old new) := by
  unfold State.connectionEvent
  simp only
  split <;> rename_i hst
  all_goals
    repeat' first
      | exact Calm.refl s
      | exact calm_clearLine s l _ (by simp [hst])
      | exact calm_moveLine s l _ _ (by simp [hst]) (by simp)
      | split

theorem calm_report (s : State) (l : LineNo) : Calm s (s.report l) := by
  unfold State.report
  exact Calm.ite _ ((Calm.setLine s l _ (by rfl) (by rfl)).trans (calm_connectionEvent _ _ _ _)) (Calm.setLine s l _ (by rfl) (by rfl))

/-! ### Talk groups (spec/06) -/

theorem calm_talkEvent (s : State) (k : TalkKind) (g : GroupNo) (e : TalkEntry) (c : Option TalkCause) (w : Bool) :
    Calm s (s.talkEvent k g e c w) := calm_raiseRunning s _

theorem calm_talkCheck {s t : State} (g : GroupNo) (p : PosNo) (h : s.talkCheck g p = some t) : Calm s t :=
  calm_recordingCheck _ _ h

theorem calm_promoteEntry (g : GroupNo) (s : State) (e : TalkEntry) : Calm s (State.promoteEntry g s e) := by
  unfold State.promoteEntry
  refine Calm.ite _ ?_ (Calm.refl s)
  split
  · rename_i t h
    exact ((calm_talkCheck _ _ h).trans (calm_setGroup _ _ _)).trans (calm_talkEvent _ _ _ _ _ _)
  · exact Calm.refl s

theorem calm_promote (s : State) (g : GroupNo) : Calm s (s.promote g) := Calm.foldl _ (calm_promoteEntry g) s _

theorem calm_tryPromotions (s : State) : Calm s s.tryPromotions := by
  unfold State.tryPromotions
  exact (Calm.foldl _ calm_promote s _).trans (calm_noticeGroups _ _)

theorem calm_grant (s : State) (g : GroupNo) (e : TalkEntry) (c : TalkCause) : Calm s (s.grant g e c) := by
  unfold State.grant
  exact (calm_setGroup s _ _).trans (calm_talkEvent _ _ _ _ _ _)

theorem calm_requeue (s : State) (g : GroupNo) (e : TalkEntry) (c : TalkCause) : Calm s (s.requeue g e c) := by
  unfold State.requeue
  exact Calm.ite _ ((calm_setGroup s _ _).trans (calm_talkEvent _ _ _ _ _ _)) (calm_talkEvent s _ _ _ _ _)

theorem calm_preempt (s : State) (g : GroupNo) (q e : TalkEntry) : Calm s (s.preempt g q e) := by
  unfold State.preempt
  exact ((calm_setGroup s _ _).trans (calm_requeue _ _ _ _)).trans (calm_grant _ _ _ _)

theorem calm_placeTalk (s : State) (g : GroupNo) (e : TalkEntry) : Calm s (s.placeTalk g e) := by
  unfold State.placeTalk
  refine Calm.ite _ (calm_grant s _ _ _) ?_
  split
  · exact calm_preempt s _ _ _
  · exact Calm.ite _ ((calm_setGroup s _ _).trans (calm_talkEvent _ _ _ _ _ _)) (calm_raiseRunning s _)

theorem calm_dropOffline (ps : List PosNo) (s : State) (g : GroupNo) : Calm s (State.dropOffline ps s g) := by
  unfold State.dropOffline
  exact ((calm_setGroup s _ _).trans (Calm.foldl _ (fun s e => calm_talkEvent s _ _ e _ _) _ _)).trans
    (Calm.foldl _ (fun s e => calm_talkEvent s _ _ e _ _) _ _)

theorem calm_talkOffline (s : State) (ps : List PosNo) : Calm s (s.talkOffline ps) := by
  unfold State.talkOffline
  exact ((Calm.foldl _ (calm_dropOffline ps) s _).trans (Calm.foldl _ calm_promote _ _)).trans (calm_noticeGroups _ _)

theorem calm_dropLate (s : State) (p : PosNo) (g : GroupNo) : Calm s (s.dropLate p g) := by
  unfold State.dropLate
  exact Calm.ite _ (Calm.refl s)
    (Calm.ite _ ((calm_dropOffline [p] s g).trans (calm_promote _ _)) (calm_dropOffline [p] s g))

theorem calm_talkRequest (s : State) (p : PosNo) (g : GroupNo) (c : TalkClass) (k : KeyNo) :
    Calm s (s.talkRequest p g c k) := by
  unfold State.talkRequest
  refine Calm.ite _ ((calm_raiseRunning s _).trans (calm_deny _ _ _ _ _)) (Calm.ite _ (Calm.refl s) ?_)
  split
  · exact (calm_raiseRunning s _).trans (calm_deny _ _ _ _ _)
  · rename_i h
    exact (((calm_talkCheck _ _ h).trans (calm_placeTalk _ _ _)).trans (calm_dropLate _ _ _)).trans (calm_noticeGroups _ _)

theorem calm_talkRelease (s : State) (p : PosNo) (g : GroupNo) : Calm s (s.talkRelease p g) := by
  unfold State.talkRelease
  simp only
  split
  · exact (((calm_setGroup s _ _).trans (calm_talkEvent _ _ _ _ _ _)).trans (calm_promote _ _)).trans (calm_noticeGroups _ _)
  · split
    · exact (calm_setGroup s _ _).trans (calm_talkEvent _ _ _ _ _ _)
    · exact calm_setGroup s _ _

theorem calm_timeOutGroup (s : State) (g : GroupNo) : Calm s (s.timeOutGroup g) :=
  ((calm_setGroup s _ _).trans (Calm.foldl _ (fun s e => calm_talkEvent s _ _ e _ _) _ _)).trans (calm_promote _ _)

theorem calm_timeoutStep (s : State) (gs : List GroupNo) : Calm s (s.timeoutStep gs) :=
  (Calm.foldl _ calm_timeOutGroup s _).trans (calm_noticeGroups _ _)

theorem calm_talkTimeout (s : State) (g : GroupNo) : Calm s (s.talkTimeout g) := calm_timeoutStep s _

theorem calm_talkTimeouts (s : State) : Calm s s.talkTimeouts := calm_timeoutStep s _

theorem calm_lowerOnce (g : GroupNo) (s : State) : Calm s (State.lowerOnce g s) := by
  unfold State.lowerOnce
  split
  · exact (calm_setGroup s _ _).trans (calm_requeue _ _ _ _)
  · exact Calm.refl s

theorem calm_lowerBy (g : GroupNo) (n : Nat) (s : State) : Calm s (State.lowerBy g n s) := by
  induction n generalizing s with
  | zero => exact Calm.refl s
  | succ n ih => exact (calm_lowerOnce g s).trans (ih _)

theorem calm_limitChanged (s : State) (g : GroupNo) (old : Nat) : Calm s (s.limitChanged g old) := by
  unfold State.limitChanged
  refine Calm.ite _ (Calm.refl s) ?_
  exact Calm.ite _ ((calm_lowerBy g _ s).trans (calm_promote _ _)) (calm_lowerBy g _ s)

theorem legLines_state {s : State} {g : GroupNo} {st : LineState} {l : LineNo} (h : l ∈ s.legLines g st) :
    (s.line l).state = st := by
  simp [State.legLines] at h; exact h.2

theorem calm_groupEnabled (s : State) (g : GroupNo) : Calm s (s.groupEnabled g) :=
  Calm.foldl_lines _ (fun s l h => calm_moveLine s l _ _ h (by simp)) s _
    (fun l h => by rw [legLines_state h]; simp)

theorem calm_groupDisabled (s : State) (g : GroupNo) : Calm s (s.groupDisabled g) := by
  unfold State.groupDisabled
  simp only
  refine Calm.trans ?_ (Calm.foldl_lines _ (fun s l h => calm_moveLine s l _ _ h (by simp)) _ _
    (fun l h => by rw [legLines_state h]; simp))
  exact ((calm_setGroup s _ _).trans (Calm.foldl _ (fun s e => calm_talkEvent s _ _ e _ _) _ _)).trans
    (Calm.foldl _ (fun s e => calm_talkEvent s _ _ e _ _) _ _)

/-! ### Service (spec/08) -/

theorem calm_serveOnce (s : State) : Calm s s.serveOnce := by
  unfold State.serveOnce
  split
  · exact calm_bindTo s _ _ _
  · exact Calm.refl s

theorem calm_serveUpTo (n : Nat) (s : State) : Calm s (State.serveUpTo n s) := by
  induction n generalizing s with
  | zero => exact Calm.refl s
  | succ n ih => exact (calm_serveOnce s).trans (ih _)

theorem calm_serve (s : State) : Calm s s.serve := by
  unfold State.serve
  exact Calm.ite _ ((calm_serveUpTo _ s).trans (calm_tryPromotions _)) (calm_serveUpTo _ s)

theorem calm_closeExpiry (s : State) (c : ChanNo) : Calm s (s.closeExpiry c) := by
  unfold State.closeExpiry
  exact Calm.ite _ (Calm.ite _ ((calm_setChan s _ _).trans (calm_serve _)) (calm_setChan s _ _)) (Calm.refl s)

theorem calm_closeSteps (s : State) : Calm s s.closeSteps := by
  unfold State.closeSteps
  exact (calm_rcu s _).trans (Calm.foldl _ calm_closeExpiry _ _)

theorem calm_suspend (cause : RecordCause) (s : State) (c : ChanNo) : Calm s (State.suspend cause s c) := by
  unfold State.suspend
  split
  · exact (calm_setChan s _ _).trans (calm_raiseRunning _ _)
  · exact calm_setChan s _ _

theorem calm_resume (cause : RecordCause) (s : State) (c : ChanNo) : Calm s (State.resume cause s c) := by
  unfold State.resume
  split
  · exact (calm_setChan s _ _).trans (calm_raiseRunning _ _)
  · exact calm_setChan s _ _

theorem calm_readyChange (s : State) (c : ChanNo) (old : Bool) : Calm s (s.readyChange c old) := by
  unfold State.readyChange
  refine Calm.ite _ (Calm.refl s) ?_
  split
  · exact Calm.ite _ (Calm.refl s) (calm_suspend _ s c)
  · exact Calm.ite _ (calm_resume _ s c) (Calm.refl s)
  · exact Calm.refl s
  · exact Calm.refl s

theorem calm_slotReadyIn (s : State) (c : ChanNo) (b : Bool) : Calm s (s.slotReadyIn c b) := by
  unfold State.slotReadyIn
  exact (calm_rcu s _).trans (calm_readyChange _ _ _)

theorem calm_readiesIn (s : State) (r : Vector Bool 128) : Calm s (s.readiesIn r) :=
  Calm.foldl _ (fun s i => calm_slotReadyIn s i _) s _

theorem calm_recorderLost (s : State) : Calm s s.recorderLost := Calm.foldl _ (calm_suspend _) s _

theorem calm_recorderBack (s : State) : Calm s s.recorderBack := by
  unfold State.recorderBack
  exact Calm.ite _ ((Calm.foldl _ (calm_resume _) s _).trans (calm_serve _)) (Calm.refl s)

/-! ### Connections (spec/03) -/

theorem calm_notify (s : State) (rs ns : List LineNo) : Calm s (s.notify rs ns) :=
  (Calm.foldl _ calm_report s rs).trans (calm_noticeLines _ _)

theorem calm_connEvent (s : State) (k : ConnectKind) (c : Conn) (cause : ConnectCause) : Calm s (s.connEvent k c cause) :=
  calm_raiseRunning s _

theorem base_changeConn (s : State) (c d : Conn) : Base s (s.changeConn c d) := base_cxm s _

theorem base_addConn (s : State) (c : Conn) : Base s (s.addConn c) := base_cxm s _

theorem base_setPrivacy (s : State) (l : LineNo) (b : Bool) : Base s (s.setPrivacy l b) := base_cxm s _

theorem base_leavePrivacy (s : State) (c : Conn) : Base s (s.leavePrivacy c) := by
  unfold State.leavePrivacy
  exact Base.ite _ ((base_setPrivacy s _ _).trans (calm_connEvent _ _ _ _).toBase) (Base.refl s)

theorem base_dropConns (s : State) (gone : Conn → Bool) (cause : ConnectCause) : Base s (s.dropConns gone cause) := by
  unfold State.dropConns
  simp only
  exact ((base_cxm s _).trans (Calm.foldl _ (fun s c => calm_connEvent s _ c _) _ _).toBase).trans
    (Base.foldl _ base_leavePrivacy _ _)

theorem base_removeConns (s : State) (gone : Conn → Bool) (cause : ConnectCause) : Base s (s.removeConns gone cause) := by
  unfold State.removeConns
  exact Base.ite _ (Base.refl s) ((base_dropConns s _ _).trans (calm_notify _ _ _).toBase)

theorem base_removeLine (s : State) (l : LineNo) (cause : ConnectCause) : Base s (s.removeLine l cause) :=
  base_removeConns s _ _

theorem base_removePositions (s : State) (ps : List PosNo) : Base s (s.removePositions ps) := base_removeConns s _ _

theorem calm_admission {s t : State} (p : PosNo) (l : LineNo) (gone : Option Conn) (h : s.admission p l gone = .ok t) :
    Calm s t := by
  unfold State.admission at h
  simp only at h
  repeat' (split at h <;> try cases h)
  rename_i hc
  exact calm_recordingCheck _ _ hc

theorem base_displace (s : State) (p : PosNo) (d : Conn) : Base s (s.displace p d) := by
  unfold State.displace
  exact Base.ite _ ((base_changeConn s _ _).trans (calm_connEvent _ _ _ _).toBase) (base_dropConns s _ _)

theorem base_finishRequest (s : State) (p : PosNo) (l : LineNo) (c : Option Conn) (b : Bool) :
    Base s (s.finishRequest p l c b) := by
  unfold State.finishRequest
  split
  · exact (calm_notify s _ _).toBase
  · exact (base_displace s p _).trans (calm_notify _ _ _).toBase

theorem base_bringConn (s : State) (p : PosNo) (h : Handset) (c : Conn) (k : ConnectKind) (cause : ConnectCause) :
    Base s (s.bringConn p h c k cause) := by
  unfold State.bringConn
  exact ((base_changeConn s _ _).trans (calm_connEvent _ _ _ _).toBase).trans (base_finishRequest _ _ _ _ _)

theorem base_defaultPrivacy (s : State) (c : Conn) (b : Bool) : Base s (s.defaultPrivacy c b) := by
  unfold State.defaultPrivacy
  exact Base.ite _ ((base_setPrivacy s _ _).trans (calm_connEvent _ _ _ _).toBase) (Base.refl s)

theorem base_connect (s : State) (p : PosNo) (h : Handset) (l : LineNo) : Base s (s.connect p h l) := by
  unfold State.connect
  exact (((base_addConn s _).trans (calm_connEvent _ _ _ _).toBase).trans (base_defaultPrivacy _ _ _)).trans
    (base_finishRequest _ _ _ _ _)

theorem base_pickup (s : State) (p : PosNo) (h : Handset) (l : LineNo) (c : Conn) : Base s (s.pickup p h l c) := by
  unfold State.pickup
  exact (((base_cxm s _).trans (calm_connEvent _ _ _ _).toBase).trans (calm_connEvent _ _ _ _).toBase).trans
    (base_finishRequest _ _ _ _ _)

theorem calm_lateLineRequest (s : State) (p : PosNo) (l : LineNo) (k : KeyNo) : Calm s (s.lateLineRequest p l k) := by
  unfold State.lateLineRequest
  split <;> exact calm_deny s _ _ _ _

theorem base_lineRequest (s : State) (p : PosNo) (h : Handset) (l : LineNo) (k : KeyNo) : Base s (s.lineRequest p h l k) := by
  unfold State.lineRequest
  refine Base.ite _ (calm_lateLineRequest s p l k).toBase ?_
  split
  · exact Base.refl s
  · exact base_bringConn s _ _ _ _ _
  · exact base_bringConn s _ _ _ _ _
  · split
    · exact (calm_deny s _ _ _ _).toBase
    · rename_i hc; exact (calm_admission _ _ _ hc).toBase.trans (base_pickup _ _ _ _ _)
  · split
    · exact (calm_deny s _ _ _ _).toBase
    · rename_i hc; exact (calm_admission _ _ _ hc).toBase.trans (base_connect _ _ _ _)

theorem base_releaseKey (s : State) (p : PosNo) (h : Handset) (k : KeyNo) : Base s (s.releaseKey p h k) := by
  unfold State.releaseKey
  split
  · exact base_removeConns s _ _
  · exact (calm_deny s _ _ _ _).toBase

theorem base_hookRelease (s : State) (p : PosNo) (h : Handset) : Base s (s.hookRelease p h) := by
  unfold State.hookRelease
  split
  · exact base_removeConns s _ _
  · exact Base.refl s

theorem base_holdKey (s : State) (p : PosNo) (h : Handset) (k : KeyNo) : Base s (s.holdKey p h k) := by
  unfold State.holdKey
  split
  · exact (calm_deny s _ _ _ _).toBase
  · exact Base.ite _ (calm_deny s _ _ _ _).toBase
      (((base_changeConn s _ _).trans (calm_connEvent _ _ _ _).toBase).trans (calm_notify _ _ _).toBase)

theorem base_privacyKey (s : State) (p : PosNo) (h : Handset) (k : KeyNo) : Base s (s.privacyKey p h k) := by
  unfold State.privacyKey
  split
  · exact (calm_deny s _ _ _ _).toBase
  · split
    · exact (base_setPrivacy s _ _).trans (calm_connEvent _ _ _ _).toBase
    · exact (base_setPrivacy s _ _).trans (calm_connEvent _ _ _ _).toBase
    · exact (calm_deny s _ _ _ _).toBase
    · exact Base.refl s

theorem base_speakerTalk (s : State) (p : PosNo) (c : SpkNo) (b : Bool) : Base s (s.speakerTalk p c b) := base_cxm s _

theorem base_makeMonitors (s : State) (ps : List (PosNo × SpkNo)) : Base s (s.makeMonitors ps) := by
  unfold State.makeMonitors
  exact Base.ite _ (Base.refl s) ((base_cxm s _).trans (calm_notify _ _ _).toBase)

theorem base_makeLineMonitors (s : State) (l : LineNo) : Base s (s.makeLineMonitors l) := base_makeMonitors s _

theorem base_makePositionMonitors (s : State) (p : PosNo) : Base s (s.makePositionMonitors p) := base_makeMonitors s _

theorem base_makeAllMonitors (s : State) : Base s s.makeAllMonitors := Base.foldl _ base_makeLineMonitors s _

theorem base_clearLineConns (s : State) (l : LineNo) (c : ConnectCause) : Base s (s.clearLineConns l c) := by
  unfold State.clearLineConns
  exact Base.ite _ (Base.refl s) ((base_removeLine s l c).trans (base_makeLineMonitors _ l))

/-! ### Generators (spec/04) -/

theorem endBurst_cfg (es : List CgNo) (r : LineRec) : (r.endBurst es).cfg = r.cfg := by
  unfold LineRec.endBurst; split <;> [split; skip] <;> rfl

theorem endBurst_state (es : List CgNo) (r : LineRec) : (r.endBurst es).state = r.state := by
  unfold LineRec.endBurst; split <;> [split; skip] <;> rfl

theorem calm_endBursts (s : State) (es : List CgNo) : Calm s (s.endBursts es) := by
  refine ⟨⟨rfl, rfl, .refl _, rfl, fun l => ?_, fun l => ?_⟩, rfl⟩
  · simp [State.endBursts, State.line, endBurst_cfg]
  · simp [State.endBursts, State.line, endBurst_state]

theorem calm_gens (s : State) (g : Vector Gen 16) : Calm s { s with cdu := { s.cdu with gens := g } } :=
  .of_eq rfl rfl rfl rfl rfl rfl

theorem calm_passOn (s : State) (es : List CgNo) : Calm s (s.passOn es) := by
  unfold State.passOn
  exact (calm_gens s _).trans (calm_endBursts _ _)

theorem calm_stepGens (s : State) : Calm s s.stepGens := by
  unfold State.stepGens
  exact (calm_gens s _).trans (calm_passOn _ _)

theorem calm_wrapGen (s : State) (n : CgNo) : Calm s (s.wrapGen n) := by
  unfold State.wrapGen
  exact Calm.ite _ ((calm_setGen s _ _).trans (calm_passOn _ _)) (Calm.refl s)

theorem calm_completeGen (s : State) (n : CgNo) : Calm s (s.completeGen n) := by
  unfold State.completeGen
  exact Calm.ite _ ((calm_setGen s _ _).trans (calm_passOn _ _)) (Calm.refl s)

theorem calm_triggerGen (s : State) (n : CgNo) : Calm s (s.triggerGen n) := by
  unfold State.triggerGen
  exact Calm.ite _ (calm_setGen s _ _) (Calm.refl s)

theorem calm_enableGen (s : State) (n : CgNo) : Calm s (s.enableGen n) := calm_setGen s _ _

theorem calm_disableGen (s : State) (n : CgNo) : Calm s (s.disableGen n) := by
  unfold State.disableGen
  exact Calm.ite _ ((calm_setGen s _ _).trans (calm_passOn _ _)) ((calm_setGen s _ _).trans (calm_endBursts _ _))

theorem calm_ringRequest (s : State) (l : LineNo) : Calm s (s.ringRequest l) := by
  unfold State.ringRequest
  exact Calm.ite _ ((Calm.setLine s l _ (by rfl) (by rfl)).trans (calm_triggerGen _ _)) (Calm.refl s)

/-! ### Lines (spec/01) -/

theorem base_enterFault (s : State) (l : LineNo) (c : LineCause) (h : (s.line l).state ≠ .disabled) :
    Base s (s.enterFault l c) := by
  unfold State.enterFault
  exact (calm_moveLine s l _ _ h (by simp)).toBase.trans (base_removeLine _ _ _)

theorem faultExitState_ne (s : State) (l : LineNo) : s.faultExitState l ≠ .disabled := by
  unfold State.faultExitState
  simp only
  split <;> first | (split <;> simp) | simp

theorem base_exitFault (s : State) (l : LineNo) (c : LineCause) (h : (s.line l).state ≠ .disabled) :
    Base s (s.exitFault l c) := by
  unfold State.exitFault
  exact (calm_moveLine s l _ _ h (faultExitState_ne s l)).toBase.trans (base_makeLineMonitors _ _)

theorem base_testExit (s : State) (l : LineNo) (c : LineCause) : Base s (s.testExit l c) := by
  unfold State.testExit
  split
  · rename_i h; exact base_exitFault s l c (by simp [h.1])
  · exact Base.refl s

theorem base_startGuard (s : State) (l : LineNo) : Base s (s.startGuard l) := by
  unfold State.startGuard
  exact Base.ite _ ((Calm.setLine s l _ (by rfl) (by rfl)).toBase.trans (base_testExit _ _ _)) (Calm.setLine s l _ (by rfl) (by rfl)).toBase

theorem calm_freshFault (s : State) (l : LineNo) : Calm s (s.freshFault l) := Calm.setLine s l _ (by rfl) (by rfl)

theorem calm_farGone (s : State) (l : LineNo) (h : (s.line l).state ≠ .disabled) : Calm s (s.farGone l) := by
  unfold State.farGone
  exact Calm.ite _ (calm_moveLine s l _ _ h (by simp)) (Calm.setLine s l _ (by rfl) (by rfl))

theorem calm_farAnswer (s : State) (l : LineNo) (h : (s.line l).state ≠ .disabled) : Calm s (s.farAnswer l) := by
  unfold State.farAnswer
  exact Calm.ite _ (Calm.refl s) (calm_moveLine s l _ _ h (by split <;> simp))

theorem base_farChange (s : State) (l : LineNo) (old : FarSignal) (c : LineCause) : Base s (s.farChange l old c) := by
  unfold State.farChange
  simp only
  split <;> rename_i hst
  all_goals
    repeat' first
      | exact Base.refl s
      | exact (calm_freshFault s l).toBase
      | exact base_startGuard s l
      | exact base_enterFault s l c (by simp [hst])
      | exact (calm_moveLine s l _ _ (by simp [hst]) (by simp)).toBase
      | exact (calm_farGone s l (by simp [hst])).toBase
      | exact (calm_farAnswer s l (by simp [hst])).toBase
      | exact (calm_raiseRunning s _).toBase
      | exact (Calm.setLine s l _ (by rfl) (by rfl)).toBase
      | split

theorem base_farSignal (s : State) (c : LineCause) (l : LineNo) (f : FarSignal) : Base s (s.farSignal c l f) := by
  unfold State.farSignal
  refine Base.ite _ (Base.refl s) ?_
  exact Base.ite _ ((Calm.setLine s l _ (by rfl) (by rfl)).toBase.trans (base_farChange _ _ _ _)) (Calm.setLine s l _ (by rfl) (by rfl)).toBase

theorem base_linePortLost (s : State) (n : QuadNo) : Base s (s.linePortLost n) :=
  Base.foldl _ (fun s l => base_farSignal s _ l _) s _

theorem calm_ringExpiry (s : State) (l : LineNo) : Calm s (s.ringExpiry l) := by
  unfold State.ringExpiry
  simp only
  split
  · rename_i h
    exact calm_moveLine s l _ _ (by simp at h; simp [h.1.2]) (by simp)
  · exact Calm.refl s

theorem base_answerExpiry (s : State) (l : LineNo) : Base s (s.answerExpiry l) := by
  unfold State.answerExpiry
  exact Base.ite _ ((Calm.setLine s l _ (by rfl) (by rfl)).toBase.trans (base_clearLineConns _ _ _)) (Base.refl s)

theorem calm_hangExpiry (s : State) (l : LineNo) : Calm s (s.hangExpiry l) := by
  unfold State.hangExpiry
  simp only
  split
  · rename_i h
    refine calm_moveLine s l _ _ ?_ (by simp)
    intro hd
    simp [hd, LineState.isRinging] at h
  · exact Calm.refl s

theorem base_guardExpiry (s : State) (l : LineNo) : Base s (s.guardExpiry l) := by
  unfold State.guardExpiry
  exact Base.ite _ ((Calm.setLine s l _ (by rfl) (by rfl)).toBase.trans (base_testExit _ _ _)) (Base.refl s)

theorem base_lineExpiries (r : LineRec) (s : State) (l : LineNo) : Base s (State.lineExpiries r s l) := by
  unfold State.lineExpiries
  simp only
  refine Base.trans ?_ (Base.ite _ (base_guardExpiry _ l) (Base.refl _))
  refine Base.trans ?_ (Base.ite _ (calm_hangExpiry _ l).toBase (Base.refl _))
  refine Base.trans ?_ (Base.ite _ (base_answerExpiry _ l) (Base.refl _))
  exact Base.ite _ (calm_ringExpiry _ l).toBase (Base.refl _)

theorem base_lineTimers (s : State) : Base s s.lineTimers := by
  unfold State.lineTimers
  refine Base.trans ?_ (Base.foldl _ (fun t l => base_lineExpiries (s.line l) t l) _ _)
  refine ⟨rfl, rfl, .refl _, rfl, fun l => ?_, fun l => ?_⟩
  · simp [State.line, LineRec.tick]
  · simp [State.line, LineRec.tick]

theorem base_evaluate (s : State) (l : LineNo) (c : LineCause) (h : (s.line l).state ≠ .disabled) :
    Base s (s.evaluate l c) := by
  unfold State.evaluate
  simp only
  exact Base.ite _ (base_enterFault s l c h) (Base.ite _ (calm_moveLine s l _ _ h (by simp)).toBase
    (Base.ite _ (calm_moveLine s l _ _ h (by simp)).toBase (Base.ite _ (calm_moveLine s l _ _ h (by simp)).toBase (Base.refl s))))

theorem base_evaluateAll (s : State) : Base s s.evaluateAll :=
  Base.foldl_lines _ (fun s l h => base_evaluate s l _ h) s _ (fun l h => by simpa using h)

theorem base_clearFault (s : State) (l : LineNo) : Base s (s.clearFault l) :=
  (Calm.setLine s l _ (by rfl) (by rfl)).toBase.trans (base_testExit _ _ _)

/-! ### Positions (spec/02) -/

theorem calm_quietPosition (s : State) (p : PosNo) : Calm s (s.quietPosition p) :=
  (calm_setPosition s _ _).trans (calm_raise _ _)

theorem base_goOffline (s : State) (ps : List PosNo) : Base s (s.goOffline ps) :=
  ((base_removePositions s ps).trans (calm_talkOffline _ ps).toBase).trans (Calm.foldl _ calm_quietPosition _ ps).toBase

theorem base_goOnline (s : State) (p : PosNo) : Base s (s.goOnline p) := by
  unfold State.goOnline
  exact ((calm_setPosition s _ _).trans (calm_raise _ _)).toBase.trans (base_makePositionMonitors _ _)

theorem calm_talkKeyDown (s : State) (p : PosNo) (k : KeyNo) (g : GroupNo) : Calm s (s.talkKeyDown p k g) :=
  (calm_setPosition s _ _).trans (calm_talkRequest _ _ _ _ _)

theorem base_speakerKeyDown (s : State) (p : PosNo) (k : KeyNo) (c : SpkNo) : Base s (s.speakerKeyDown p k c) := by
  unfold State.speakerKeyDown
  split
  · exact (calm_talkKeyDown s _ _ _).toBase
  · exact Base.ite _ ((calm_setPosition s _ _).toBase.trans (base_speakerTalk _ _ _ _)) (Base.refl s)
  · exact Base.refl s

theorem calm_ringKey (s : State) (p : PosNo) (k : KeyNo) : Calm s (s.ringKey p k) := by
  unfold State.ringKey
  split
  · exact calm_deny s _ _ _ _
  · exact Calm.ite _ (calm_ringRequest s _) (calm_deny s _ _ _ _)

theorem calm_recordKey (s : State) (p : PosNo) (k : KeyNo) : Calm s (s.recordKey p k) := by
  unfold State.recordKey
  split
  · exact calm_deny s _ _ _ _
  · exact calm_toggleDemand s _

theorem base_keyAction (s : State) (p : PosNo) (k : KeyNo) : Base s (s.keyAction p k) := by
  unfold State.keyAction
  simp only
  split
  · exact Base.refl s
  · exact base_lineRequest s _ _ _ _
  · exact base_releaseKey s _ _ _
  · exact base_holdKey s _ _ _
  · exact (calm_ringKey s _ _).toBase
  · exact base_privacyKey s _ _ _
  · exact Base.ite _ (Base.refl s) (calm_talkKeyDown s _ _ _).toBase
  · exact Base.ite _ (Base.refl s) (base_speakerKeyDown s _ _ _)
  · exact (calm_recordKey s _ _).toBase
  · exact (calm_raiseRunning s _).toBase

theorem base_releasePressed (s : State) (p : PosNo) (k : KeyNo) (t : PressedTarget) : Base s (s.releasePressed p k t) := by
  unfold State.releasePressed
  split
  · exact ((calm_setPosition s _ _).trans (calm_talkRelease _ _ _)).toBase
  · exact (calm_setPosition s _ _).toBase.trans (base_speakerTalk _ _ _ _)

theorem base_keyRelease (s : State) (p : PosNo) (k : KeyNo) : Base s (s.keyRelease p k) := by
  unfold State.keyRelease
  split
  · exact base_releasePressed s _ _ _
  · exact Base.ite _ (calm_raiseRunning s _).toBase (Base.refl s)

theorem base_keyDown (s : State) (p : PosNo) (b : Byte) : Base s (s.keyDown p b) := by
  unfold State.keyDown
  split
  · exact Base.ite _ (base_keyAction s _ _) (Base.refl s)
  · exact Base.refl s

theorem base_keyUp (s : State) (p : PosNo) (b : Byte) : Base s (s.keyUp p b) := by
  unfold State.keyUp
  split
  · exact Base.ite _ (base_keyRelease s _ _) (Base.refl s)
  · exact Base.refl s

theorem base_putDown (s : State) (p : PosNo) (h : Handset) : Base s (s.putDown p h) := by
  unfold State.putDown
  exact Base.ite _ ((calm_setPosition s _ _).toBase.trans (base_hookRelease _ _ _)) (calm_setPosition s _ _).toBase

theorem base_hookCell (s : State) (p : PosNo) (h v : Byte) : Base s (s.hookCell p h v) := by
  unfold State.hookCell
  split
  · exact Base.refl s
  · exact Base.ite _ (Base.refl s) (Base.ite _ (calm_setPosition s _ _).toBase
      (Base.ite _ (base_putDown s _ _) (Base.refl s)))

theorem calm_levelCell (s : State) (p : PosNo) (e : Byte) (v : U16) : Calm s (s.levelCell p e v) := by
  unfold State.levelCell
  split
  · exact Calm.ite _ (calm_setPosition s _ _) (Calm.refl s)
  · exact Calm.refl s

/-! ### The mixer (spec/05) -/

theorem calm_countClip (s : State) (i : OutNo) : Calm s (s.countClip i) := by
  unfold State.countClip
  exact Calm.ite _ ((calm_mix s _).trans (calm_raiseRunning _ _)) (calm_mix s _)

theorem calm_advanceTones (s : State) : Calm s s.advanceTones := by
  unfold State.advanceTones
  exact Calm.ite _ (calm_mix s _) (Calm.refl s)

end Sys2Proof.Machine
end

