-- ==== Sys2Proof/Tests/Slice0.lean ====
section
/-! SUPPORT. Small tests: the checks of WellFormed, cells written out by hand, the manual's worked numbers, one step of each
family of commands, and for every statement with hypotheses a theorem with a state that meets them. -/

namespace Sys2Proof.Tests

open Sys2Proof.Machine

-- One theorem after another: kernel evaluations side by side take too much memory.
set_option Elab.async false

/-! ### States the tests stand on -/

/-- A line record of a kind, in a state, with the far end at a signal and the totals that LNC last took. -/
def record (kind : LineKind) (state : LineState) (far : FarSignal) (unheld held : Nat) : LineRec :=
  { LineRec.reset with
    cfg := { LineCfg.reset with kind := kind, answerTimeout := 20, group := 3 }
    state := state
    far := far
    totals := { unheld := unheld, held := held, speaker := 0 } }

/-- A shelf with every port UP and every position online, in a phase, with line 5 configured as given, the connections
given (all on line 5), and a kept need of line 5. Every other line is UNUSED. A hook release waits in the queue. -/
def shelf (phase : Phase) (r : LineRec) (conns : List Conn) (need : Need) : State :=
  let s := State.reset
  { s with
    lif := { s.lif with
      ports := Vector.replicate 9 { align := .up, good := 8, miss := 0 }
      present := Vector.replicate 32 true }
    mga := { s.mga with phase := phase }
    lnc := { lines := s.lnc.lines.set 5 r }
    cxm := { s.cxm with conns := conns }
    prs := { s.prs with lineNeed := s.prs.lineNeed.set 5 need }
    rcu := { s.rcu with slotReady := Vector.replicate 128 true }
    pending := [.hookRelease 2 .left] }

/-- A connection of line 5. -/
def conn (p : PosNo) (place : Place) : Conn := { line := 5, pos := p, place := place, talk := false, joined := 0 }

/-- An idle ARD line 5 on a running shelf. -/
def idle : State := shelf .running (record .ard .idle .idle 0 0) [] .none

/-- The same shelf held. -/
def held : State := shelf .held (record .ard .idle .idle 0 0) [] .none

/-- Position 2 talks on line 5 at its left handset. -/
def call : State := shelf .running (record .ard .active .answer 1 0) [conn 2 .left] .best

/-- The outcome's next state; the block has no other. -/
def next (o : Host.Outcome State Fault Refusal) : State :=
  match o with
  | .next s => s
  | .fault f => nomatch f
  | .refused _ => State.reset

/-! ### The laws at these states -/

theorem shelf_line (ph : Phase) (r : LineRec) (cs : List Conn) (n : Need) (l : LineNo) :
    (shelf ph r cs n).line l = if l = 5 then r else LineRec.reset := by
  simp only [State.line, shelf, State.reset, State.atReset, Lnc.reset, Fin.getElem_fin, Vector.getElem_set,
    Vector.getElem_replicate]
  by_cases h : l = 5
  · simp [h]
  · rw [if_neg (fun e => h (Fin.ext e.symm)), if_neg h]

theorem shelf_lineConns (ph : Phase) (r : LineRec) (cs : List Conn) (n : Need) (h : ∀ c ∈ cs, c.line = 5) (l : LineNo) :
    (shelf ph r cs n).lineConns l = if l = 5 then cs else [] := by
  simp only [State.lineConns, shelf]
  by_cases hl : l = 5
  · simpa [hl] using h
  · simp only [hl, if_false, List.filter_eq_nil_iff, decide_eq_true_eq]
    intro c hc e
    exact hl (by rw [← e, h c hc])

theorem shelf_assign (ph : Phase) (r : LineRec) (cs : List Conn) (n : Need) (i : Fin 256) :
    (shelf ph r cs n).psc.assigns[i] = .none := by
  simp [shelf, State.reset, State.atReset, Psc.reset]

theorem shelf_totals (ph : Phase) (r : LineRec) (cs : List Conn) (n : Need) (h : ∀ c ∈ cs, c.line = 5)
    (ht : r.totals = (shelf ph r cs n).totalsNow 5) : (shelf ph r cs n).totalsReported := by
  intro l
  rw [shelf_line]
  by_cases hl : l = 5
  · rw [if_pos hl, hl, ht]
  · rw [if_neg hl]
    simp only [State.totalsNow, State.monitors, shelf_lineConns ph r cs n h, if_neg hl]
    rfl

theorem shelf_disabled (ph : Phase) (r : LineRec) (cs : List Conn) (n : Need)
    (h : r.state = .disabled ↔ r.cfg.kind = .unused) : (shelf ph r cs n).disabledIsUnused := by
  intro l
  rw [shelf_line]
  by_cases hl : l = 5
  · rw [if_pos hl]; exact h
  · rw [if_neg hl]; decide

theorem shelf_needs (ph : Phase) (r : LineRec) (cs : List Conn) (n : Need) (h : ∀ c ∈ cs, c.line = 5)
    (hn : n = (shelf ph r cs n).needNow (.line 5)) : (shelf ph r cs n).needsSettled := by
  intro t
  cases t with
  | group g =>
    simp [State.keptNeed, State.needNow, State.groupPolicy, State.group, shelf, State.reset, State.atReset, Prs.reset,
      Gtu.reset, GroupRec.reset]
  | line l =>
    by_cases hl : l = 5
    · rw [hl, ← hn]; simp [State.keptNeed, shelf]
    · have h5 : (5 : Nat) ≠ l.val := fun e => hl (Fin.ext e.symm)
      simp [State.needNow, shelf_lineConns ph r cs n h, hl]
      simp [State.keptNeed, shelf, State.reset, State.atReset, Prs.reset, h5]

theorem shelf_lawful (ph : Phase) (r : LineRec) (cs : List Conn) (n : Need) (h : ∀ c ∈ cs, c.line = 5)
    (hp : cs.Pairwise (fun c d => c.pos = d.pos → c.place = d.place → c.place = .hold) ∧
      cs.Pairwise (fun c d => c.pos = d.pos → c.line = d.line → c.place.isHandset = true → d.place.isHandset = false) ∧
      (∀ c ∈ cs, c.place.isHandset = true) ∧ cs.length ≤ 4)
    (hs : cs ≠ [] → r.state ≠ .fault ∧ r.state ≠ .disabled) : (shelf ph r cs n).connectionsLawful := by
  refine ⟨hp.1, hp.2.1, ?_, ?_, ?_, ?_⟩
  · intro c hc k hk
    have := hp.2.2.1 c hc
    rw [hk] at this
    cases this
  · intro l
    have hb := shelf_lineConns ph r cs n h l
    refine ⟨?_, ?_, ?_⟩
    · refine Nat.le_trans (List.length_filter_le _ _) ?_
      rw [hb]; split
      · exact hp.2.2.2
      · exact Nat.zero_le _
    · refine Nat.le_trans (List.length_filter_le _ _) ?_
      rw [hb]; split
      · exact Nat.le_trans hp.2.2.2 (by decide)
      · exact Nat.zero_le _
    · simp only [State.assignments, shelf, State.reset, State.atReset, Psc.reset, Vector.toList_replicate,
        List.filter_replicate, reduceCtorEq, decide_false, Bool.false_eq_true, if_false, List.length_nil, Nat.zero_le]
  · intro l hl
    rw [shelf_line] at hl
    rw [shelf_lineConns ph r cs n h]
    by_cases h5 : l = 5
    · rw [if_pos h5] at hl ⊢
      by_contra hne
      have := hs hne
      tauto
    · rw [if_neg h5]
  · intro p
    exact Nat.le_trans (List.length_filter_le _ _) (Nat.le_trans hp.2.2.2 (by decide))

theorem shelf_groups (ph : Phase) (r : LineRec) (cs : List Conn) (n : Need) : (shelf ph r cs n).groupsLawful := by
  refine ⟨?_, ?_⟩
  · intro g
    simp [State.group, shelf, State.reset, State.atReset, Gtu.reset, GroupRec.reset, GroupCfg.reset]
  · simp [State.poolUsed, shelf, State.reset, State.atReset, Gtu.reset, GroupRec.reset]

theorem shelf_ranges (ph : Phase) (r : LineRec) (cs : List Conn) (n : Need) : (shelf ph r cs n).rangesKept := by
  refine ⟨?_, ?_, ?_, ?_⟩ <;> intro i
  · simp [State.port, shelf, Port.wellFormed]
  · simp [State.gen, shelf, State.reset, State.atReset, Cdu.reset, Gen.reset, Gen.wellFormed, Shape.reset]
  · simp [shelf, State.reset, State.atReset, Mix.reset, Tone.reset, Tone.wellFormed]
  · simp [shelf, State.reset, State.atReset, Mix.reset]

theorem shelf_mga (ph : Phase) (r : LineRec) (cs : List Conn) (n : Need) : (shelf ph r cs n).mgaSafe := by
  refine ⟨⟨Nat.zero_le _, Nat.zero_le _⟩, ⟨(by decide : 1 ≤ 4), (by decide : 4 ≤ 8), Nat.zero_le _⟩, ?_, ?_⟩
  · intro c
    cases c <;> exact Nat.zero_le _
  · rfl

theorem shelf_quiet (r : LineRec) (hr : r.quiet) : (shelf .held r [] .none).quietUnlessRunning := by
  intro _
  refine ⟨?_, rfl, ?_, ?_, ?_, ?_, ?_, rfl, ?_⟩
  · intro l
    refine ⟨?_, ?_, ?_⟩
    · rw [shelf_line]
      split
      · exact hr
      · exact ⟨Or.inl rfl, rfl, rfl, rfl, rfl, rfl, rfl⟩
    · simp [shelf, State.reset, State.atReset, Cxm.reset]
    · simp [State.demand, shelf, State.reset, State.atReset, Prs.reset]
  · intro p; simp [State.position, shelf, State.reset, State.atReset, Psc.reset, PositionRec.reset]
  · intro n; simp [State.gen, shelf, State.reset, State.atReset, Cdu.reset, Gen.reset]
  · intro i; simp [shelf, State.reset, State.atReset, Mix.reset, Tone.reset]
  · intro g; simp [State.group, shelf, State.reset, State.atReset, Gtu.reset, GroupRec.reset]
  · intro x
    cases x with
    | line l => simp [State.keptNeed, shelf, State.reset, State.atReset, Prs.reset]
    | group g => simp [State.keptNeed, shelf, State.reset, State.atReset, Prs.reset]
  · intro c; simp [State.chan, shelf, State.reset, State.atReset, Rcu.reset, Chan.reset]

theorem idle_switching : idle.switching := ⟨rfl, rfl⟩

theorem call_switching : call.switching := ⟨rfl, rfl⟩

theorem idle_serving : idle.serving := ⟨rfl, by decide, by decide⟩

theorem held_serving : held.serving := ⟨rfl, by decide, by decide⟩

theorem call_laws : call.mgaSafe ∧ call.disabledIsUnused ∧ call.connectionsLawful ∧ call.totalsReported ∧
    call.groupsLawful ∧ call.needsSettled ∧ call.rangesKept ∧ call.quietUnlessRunning :=
  ⟨shelf_mga _ _ _ _, shelf_disabled _ _ _ _ (by decide), shelf_lawful _ _ _ _ (by decide) (by decide) (by decide),
    shelf_totals _ _ _ _ (by decide) (by decide +kernel), shelf_groups _ _ _ _,
    shelf_needs _ _ _ _ (by decide) (by decide +kernel), shelf_ranges _ _ _ _, fun h => absurd rfl h⟩

/-- The call of position 2, recorded by channel 0. -/
def recordedCall : State :=
  { call with rcu := { call.rcu with
    chans := call.rcu.chans.set 0 { state := .recording, target := some (.line 5), segment := 1, closeCount := 0 } } }

theorem recordedCall_chan (c : ChanNo) : recordedCall.chan c =
    if c = 0 then { state := .recording, target := some (.line 5), segment := 1, closeCount := 0 } else Chan.reset := by
  simp only [State.chan, recordedCall, call, shelf, State.reset, State.atReset, Rcu.reset, Fin.getElem_fin,
    Vector.getElem_set, Vector.getElem_replicate]
  by_cases h : c = 0
  · simp [h]
  · rw [if_neg (fun e => h (Fin.ext e.symm)), if_neg h]

theorem recordedCall_need (t : Target) : recordedCall.keptNeed t = if t = .line 5 then .best else .none := by
  cases t with
  | group g => simp [State.keptNeed, recordedCall, call, shelf, State.reset, State.atReset, Prs.reset]
  | line l =>
    by_cases h : l = 5
    · simp [h, State.keptNeed, recordedCall, call, shelf]
    · have h5 : (5 : Nat) ≠ l.val := fun e => h (Fin.ext e.symm)
      simp [State.keptNeed, recordedCall, call, shelf, State.reset, State.atReset, Prs.reset, h, h5]

theorem recordedCall_laws : recordedCall.privacyLawful ∧ recordedCall.sourcesEnd ∧ recordedCall.recordersLawful ∧
    recordedCall.quietUnlessRunning := by
  refine ⟨fun l h => ?_, fun n => ?_, ⟨fun t => ?_, nofun, fun c => ?_, fun c h => ?_, fun _ h => absurd rfl h⟩,
    fun h => absurd rfl h⟩
  · simp [recordedCall, call, shelf, State.reset, State.atReset, Cxm.reset] at h
  · simp [State.follow, State.gen, recordedCall, call, shelf, State.reset, State.atReset, Cdu.reset, Gen.reset]
  · by_cases ht : t = .line 5
    · rw [ht]; decide +kernel
    · have h1 : recordedCall.boundChans t = [] := by
        simp only [State.boundChans, List.filter_eq_nil_iff, recordedCall_chan]
        intro c _
        split
        · simp
          exact fun _ e => ht e.symm
        · simp [Chan.reset, ChanState.isBound]
      rw [h1, recordedCall_need, if_neg ht]
      rfl
  · rw [recordedCall_chan]; split <;> simp [Chan.reset]
  · exact absurd h (by have := c.isLt; simp [recordedCall, call, shelf, State.reset, State.atReset, Rcu.reset, RecMode.channels])

/-! ### Checks of WellFormed: an ill-formed command for each, which the check refuses -/

/-- Frames of one period with every marker good or bad; each cell slot of a line port has the given number of bytes. -/
def frames (good : Bool) (cell : Nat) : Inbound :=
  { lines := Vector.replicate 4
      { good := good, channels := Vector.replicate 128 { sample := 0, far := .idle }
        cells := List.replicate 4 (List.replicate cell 0) }
    positions := Vector.replicate 4
      { good := good, slots := Vector.replicate 8
          { present := true, micLeft := 0, micRight := 0, micSpeaker := 0, cells := [[0, 0, 0, 0], [0, 0, 0, 0]] } }
    recorder := { good := good, ready := Vector.replicate 128 true }
    mixFirst := true }

theorem test_wellformed_refuses_short_cell_slots :
    (Instr.framePeriod (frames true 511)).wellFormed = false ∧ (Instr.framePeriod (frames true 512)).wellFormed = true := by
  decide +kernel

theorem test_wellformed_refuses_one_console_slot :
    (SlotIn.wellFormed { present := true, micLeft := 0, micRight := 0, micSpeaker := 0, cells := [[0, 0, 0, 0]] }) = false := by
  decide

theorem test_wellformed_refuses_tone_bodies_that_do_not_fit :
    (Instr.writeTone 0 1024 (.sample 5)).wellFormed = false ∧ (Instr.writeTone 0 1023 (.sample 5)).wellFormed = true ∧
    (Instr.writeTone 0 1023 (.control 8 0)).wellFormed = false ∧
    (Instr.writeTone 0 1024 (.control 8 0)).wellFormed = true := by decide

theorem test_wellformed_refuses_empty_slot_as_malformed :
    (Instr.malformedRequest 0 7).wellFormed = false ∧ (Instr.malformedRequest 1 7).wellFormed = true := by decide

theorem test_wellformed_refuses_known_table_as_unknown :
    (Instr.unknownTableWrite 7 11).wellFormed = false ∧ (Instr.unknownTableWrite 7 12).wellFormed = true := by decide

/-! ### Cells written out by hand from spec/11 -/

theorem test_cell_read_entry : requestOf ([1, 0, 0, 5, 0, 3, 0, 0, 2, 0x02, 0x0A] ++ List.replicate 501 0) =
    some (.readEntry 5 2 522) := by decide +kernel

theorem test_cell_set_event_mode : requestOf ([7, 0, 0, 6, 0, 2, 0, 0, 6, 3] ++ List.replicate 502 0) =
    some (.setEventMode 6 6 3) := by decide +kernel

theorem test_cell_line_cfg : requestOf ([2, 0, 1, 2, 0, 17, 0, 0, 0, 0x01, 0x2C, 1, 0, 0x40, 0, 0x2E, 0xE0, 4, 5, 30, 20, 10,
      1, 50, 63] ++ List.replicate 487 0) =
    some (.writeLineCfg 0x0102 300
      { kind := 1, privacyDefault := 0, rxGain := 16384, txGain := 12000, ringCg := 4, burstCg := 5, ringTimeout := 30
        answerTimeout := 20, ringHang := 10, faultMode := 1, faultGuard := 50, group := 63 }) := by decide +kernel

theorem test_cell_with_reserved_byte_is_malformed :
    requestOf ([1, 0, 0, 5, 0, 3, 1, 0, 2, 2, 10] ++ List.replicate 501 0) = some (.malformedRequest 1 5) := by
  decide +kernel

theorem test_console_cells : consoleOf 4 [1, 17, 0, 0] = some (.keyDown 4 17) ∧ consoleOf 4 [2, 17, 0, 0] = some (.keyUp 4 17) ∧
    consoleOf 4 [3, 0, 1, 0] = some (.hook 4 0 1) ∧ consoleOf 4 [4, 2, 0x20, 0] = some (.level 4 2 8192) ∧
    consoleOf 4 [0, 0, 0, 0] = none := by decide

/-! ### States that meet the hypotheses of the statements -/

theorem witness_StepTakesFrontCommand :
    call.pending = .hookRelease 2 .left :: [] ∧ State.reset.pending = [] := ⟨rfl, rfl⟩

/-- A state that meets every law, with a command waiting that changes its call. -/
theorem witness_laws_kept : (call.mgaSafe ∧ call.disabledIsUnused ∧ call.connectionsLawful ∧ call.totalsReported ∧
    call.groupsLawful ∧ call.needsSettled ∧ call.rangesKept ∧ call.quietUnlessRunning) ∧ ∃ t : State, step call = .next t :=
  ⟨call_laws, _, rfl⟩

/-- A state that meets the laws of privacy, of the sources and of the recorder channels, with a target bound. -/
theorem witness_more_laws_kept : (recordedCall.privacyLawful ∧ recordedCall.sourcesEnd ∧ recordedCall.recordersLawful ∧
    recordedCall.quietUnlessRunning) ∧ ∃ t : State, step recordedCall = .next t :=
  ⟨recordedCall_laws, _, rfl⟩

theorem witness_QuietUnlessRunningKept : held.mga.phase ≠ .running ∧ held.quietUnlessRunning :=
  ⟨by decide, shelf_quiet _ ⟨Or.inr rfl, rfl, rfl, rfl, rfl, rfl, rfl⟩⟩

theorem witness_RequestCellsReadBack :
    (Instr.writeKeyMap 1 1535 { action := 9, target := 65535, colour := 2 }).wellFormed = true ∧
    (Instr.writeKeyMap 1 1535 { action := 9, target := 65535, colour := 2 }).isRequest = true := by decide +kernel

theorem witness_InitEndRaisesReady : State.reset.awake ∧ State.reset.mga.phase = .init ∧ held.awake ∧
    held.mga.phase ≠ .init := ⟨rfl, rfl, rfl, by decide⟩

theorem witness_RstLowLosesCells : ({ held with lif := { held.lif with rstLow := true } }).lif.rstLow = true ∧
    (∀ m : QuadNo, Instr.initEnd ≠ .hardReset m) ∧ Instr.initEnd ≠ .rstLow :=
  ⟨rfl, (fun _ h => nomatch h), by decide⟩

theorem witness_HoldStopsTheBlocks : idle.serving ∧ idle.mga.phase = .running ∧ held.serving ∧ held.mga.phase = .held :=
  ⟨idle_serving, rfl, held_serving, rfl⟩

/-- The held shelf with line 5 as given. -/
def heldLine (kind : LineKind) (far : FarSignal) : State := shelf .held (record kind .idle far 0 0) [] .none

/-- The held shelf with speaker channel 1 of position 2 assigned to line 5. -/
def heldMonitor : State :=
  { held with psc := { held.psc with assigns := held.psc.assigns.set (assignIndex 2 1) (.line 5) } }

theorem witness_HoldReleaseStartsTheBlocks :
    (∀ kind far, (heldLine kind far).serving ∧ (heldLine kind far).mga.phase = .held ∧
      (heldLine kind far).quietUnlessRunning ∧ (heldLine kind far).totalsReported ∧
      ((heldLine kind far).line 5).state = .idle ∧
      ((heldLine kind far).line 6).state = .disabled) ∧
    (heldLine .ard .loss).faultCondition 5 = true ∧ (heldLine .hootLeg .idle).faultCondition 5 = false ∧
    (heldMonitor.quietUnlessRunning ∧ heldMonitor.totalsReported) ∧
    (heldLine .mrd .calling).faultCondition 5 = false ∧ heldMonitor.online 2 = true ∧ heldMonitor.assign 2 1 = .line 5 ∧
    heldMonitor.faultCondition 5 = false ∧ (heldMonitor.line 5).state = .idle := by
  refine ⟨fun kind far => ⟨⟨rfl, nofun, (by decide : 0 < 16)⟩, rfl,
    shelf_quiet _ ⟨Or.inr rfl, rfl, rfl, rfl, rfl, rfl, rfl⟩,
    shelf_totals _ _ _ _ (by decide) (by simp [State.totalsNow, State.monitors, shelf_lineConns, record]),
    by simp [heldLine, shelf_line, record], by simp [heldLine, shelf_line, LineRec.reset]⟩, by decide +kernel,
    by decide +kernel,
    ⟨shelf_quiet (record .ard .idle .idle 0 0) ⟨Or.inr rfl, rfl, rfl, rfl, rfl, rfl, rfl⟩,
      shelf_totals .held (record .ard .idle .idle 0 0) [] .none (by decide) (by decide +kernel)⟩, ?_⟩
  decide +kernel

theorem witness_FramePeriodSendsAndCounts : State.reset.awake ∧ State.reset.mga.phase = .init ∧ held.awake ∧
    held.mga.phase ≠ .init ∧ held.portUp held.mgmtPort = true := ⟨rfl, rfl, rfl, by decide, by decide⟩

/-- The shelf on which key 7 of position 2 has action `a`, the position talks on line 5, and its speaker channel 1 stands
for `x`. -/
def lamps (a : KeyAction) (x : Assign) : State :=
  { call with psc := { call.psc with
    keyMap := call.psc.keyMap.set (keyIndex 2 7) { action := a, colour := .red }
    assigns := call.psc.assigns.set (assignIndex 2 1) x } }

theorem witness_FramePeriodSendsAndCounts_lamps :
    held.mga.phase ≠ .running ∧ (∀ a ∈ [KeyAction.none, .line 5, .release, .hold, .ring, .privacy, .talkGroup 3, .record, .host],
      (lamps a .none).mga.phase = .running ∧ (lamps a .none).online 2 = true ∧ ((lamps a .none).key 2 7).action = a ∧
      ((lamps a .none).position 2).denial = none) ∧
    (∀ x ∈ [Assign.none, .line 5, .group 3], ((lamps (.talkSpeaker 1) x).key 2 7).action = .talkSpeaker 1 ∧
      (lamps (.talkSpeaker 1) x).assign 2 1 = x) ∧
    (lamps .record .none).connAt 2 (handsetPlace ((lamps .record .none).position 2).selected) = some (conn 2 .left) ∧
    (lamps .record .none).connAt 3 (handsetPlace ((lamps .record .none).position 3).selected) = none := by
  decide +kernel

theorem witness_FramePeriodTakesInbound :
    held.awake ∧ (∀ n : PortNo, (frames true 512).good n = true ∧ (frames false 512).good n = false ∧
      held.portUp n = true ∧ ((held.port n).judge true).align = .up ∧
      (({ align := .up, good := 8, miss := 3 } : Port).judge false).align = .down) := by
  refine ⟨rfl, ?_⟩
  decide +kernel

/-- The shelf of a state with every port one bad marker from DOWN. -/
def worn (s : State) : State :=
  { s with lif := { s.lif with ports := Vector.replicate 9 { align := .up, good := 8, miss := 3 } } }

/-- What the further clauses ask of a line: each state with its far signal, at an online shelf that runs. -/
theorem witness_FramePeriodTakesInbound_lines :
    (∀ n : PortNo, (worn idle).portUp n = true ∧ ((worn idle).judgePort n false).portUp n = false ∧
      (idle.judgePort n true).portUp n = true ∧ (idle.judgePort n false).portUp n = true) ∧
    ((State.reset.port 0).align ≠ ((State.reset.port 0).judge true).align) ∧
    (∀ x ∈ [(LineState.idle, FarSignal.idle), (.ringingIn, .calling), (.unanswered, .calling), (.callingOut, .idle),
        (.active, .answer), (.held, .answer), (.fault, .loss), (.fault, .idle)],
      let s := shelf .running (record .ard x.1 x.2 0 0) [] .none
      s.mga.phase = .running ∧ (s.line 5).state = x.1 ∧ (s.line 5).far = x.2 ∧ (s.line 5).cfg.faultGuard ≠ 0 ∧
      s.lineConns 5 = [] ∧ (s.line 5).cfg.ringHang = 0 ∧ (s.line 5).answer ≠ .expired) ∧
    offHook .calling = true ∧ offHook .idle = false := by
  decide +kernel

theorem witness_FramePeriodTakesInbound_cells :
    ({ idle with lif := { idle.lif with handOver := [[11, 0, 0, 9]] } }).lif.handOver = [11, 0, 0, 9] :: [] ∧
    idle.awake ∧ requestOf ([11, 0, 0, 9] ++ List.replicate 508 0) = some (.hold 9) ∧
    consoleOf 2 [1, 47, 0, 0] = some (.keyDown 2 47) ∧ consoleOf 2 [0, 0, 0, 0] = none := by
  unfold State.awake; decide +kernel

theorem witness_FramePeriodTakesInbound_recorder :
    held.mga.phase ≠ .running ∧ idle.mga.phase = .running ∧ idle.rcu.waiting = [] ∧
    (∀ g : GroupNo, (idle.group g).waits = []) ∧ (∀ c ∈ idle.cxm.conns, c.pos ∉ [(2 : PosNo), 3]) ∧
    (recordedCall.chan 0).state = .recording ∧ recordedCall.chanReady 0 = true ∧
    (recordedCall.readiesIn (Vector.replicate 128 false)).chanReady 0 = false ∧
    (let s := recordedCall.recorderLost;
      (s.chan 0).state = .suspended ∧ s.portUp recPort = true ∧
      (s.readiesIn (Vector.replicate 128 false)).chanReady 0 = false) := by decide +kernel

/-- Generator 0 wraps at the next step, generator 1 follows it and generator 5 follows that one, generator 2 is a ONESHOT
generator waiting for generator 0, and generator 3 a ONESHOT generator that completes at the next step. Line 5 follows
generator 3. -/
def cadence : State :=
  let g : Gen := { Gen.reset with enable := true, active := { period := 2, rise := 0, fall := 1 }, phase := 1 }
  { shelf .running { record .mrd .active .answer 0 0 with ringPending := some 3 } [] .none with
    cdu :=
      { gens := ((((Cdu.reset.gens.set 0 { g with running := true }).set 1
          { g with running := true, mode := .follow, source := some 0, phase := 0 }).set 2
          { g with mode := .oneshot, source := some 0, phase := 0 }).set 3 { g with mode := .oneshot, running := true }).set 5
          { g with running := true, mode := .follow, source := some 1, phase := 0 }
        clock := 0xFFFFFFFF } }

theorem witness_CadenceStepAdvancesGenerators : held.awake ∧ held.mga.phase ≠ .running ∧ cadence.awake ∧
    cadence.mga.phase = .running ∧ (cadence.gen 0).mode = .free ∧ (cadence.gen 1).enable = true ∧
    (cadence.gen 1).source = some 0 ∧ (cadence.gen 1).mode = .follow ∧ (cadence.gen 2).enable = true ∧
    (cadence.gen 2).source = some 0 ∧ (cadence.gen 2).mode = .oneshot ∧ (cadence.gen 0).enable = true ∧
    (cadence.gen 0).running = true ∧ (cadence.gen 0).active.period ≤ (cadence.gen 0).phase + 1 := by
  unfold State.awake; decide +kernel

/-- The chain of FOLLOW generators: the wrap of generator 0 reaches generator 5 through generator 1. -/
theorem witness_CadenceStepAdvancesGenerators_chain : cadence.EndsAt 1 ∧ (cadence.gen 5).source = some 1 ∧
    (cadence.gen 5).enable = true ∧ (cadence.gen 5).mode = .follow ∧ cadence.EndsAt 3 ∧
    (cadence.line 5).ringPending = some 3 ∧ ¬ cadence.EndsAt 4 ∧ (∀ m : CgNo, (cadence.gen 0).source ≠ some m) := by
  refine ⟨.sync 1 0 (by decide +kernel) (by decide +kernel) (by decide +kernel)
      (.wrap 0 (by decide +kernel) (by decide +kernel) (by decide +kernel)), by decide +kernel, by decide +kernel,
    by decide +kernel, .wrap 3 (by decide +kernel) (by decide +kernel) (by decide +kernel), by decide +kernel, ?_,
    by decide +kernel⟩
  have off : (cadence.gen 4).enable = false := by decide +kernel
  intro h
  cases h with
  | wrap _ on => rw [off] at on; cases on
  | sync _ _ on => rw [off] at on; cases on

/-- A running shelf with line 5 ringing: one step of its ring timer left, `hang` for its hang timer. -/
def ringing (hang : Timer) : State :=
  shelf .running { record .ard .ringingIn .calling 0 0 with ring := .running 1, hang := hang } [] .none

/-- Position 2's last key request was denied: `left` steps of its display remain. -/
def denied (left : Nat) : State :=
  idle.setPosition 2 { idle.position 2 with denial := some { key := 7, reason := .noLine, left := left } }

/-- Group 3 is enabled with a talk length of 1 s; position 4 has talked for 99 steps and position 5 waits. -/
def talking (maxTalk : Nat) (talkers waits : List TalkEntry) : State :=
  idle.setGroup 3
    { cfg := { GroupCfg.reset with enabled := true, maxTalk := maxTalk }, talkers := talkers, waits := waits, marks := [9] }

/-- A talk entry of a position, of class NORMAL, stamped 0. -/
def entry (p : PosNo) : TalkEntry := { pos := p, cls := .normal, stamp := 0 }

theorem witness_CadenceStepCountsDown : (ringing (.running 2)).switching ∧
    ((ringing (.running 2)).line 5).state = .ringingIn ∧ ((ringing (.running 2)).line 5).ring = .running 1 ∧
    ((ringing (.running 2)).line 5).answer = .stopped ∧ ((ringing (.running 2)).line 5).hang.due = false ∧
    ((ringing (.running 2)).line 5).guard = .stopped ∧ ((ringing (.running 2)).line 6).anyDue = false ∧
    (denied 2).switching ∧ ((denied 2).position 2).denial = some { key := 7, reason := .noLine, left := 2 } ∧
    ((denied 2).position 3).denial = none ∧ (talking 1 [entry 4] []).switching ∧
    (∀ e ∈ ((talking 1 [entry 4] []).group 3).talkers,
      ((talking 1 [entry 4] []).cdu.clock + 1 - e.stamp).toNat < ((talking 1 [entry 4] []).group 3).cfg.maxTalk * 100) := by
  unfold State.switching State.awake; decide +kernel

theorem witness_GeneratorWrapPassesOn : cadence.switching ∧ (cadence.gen 0).enable = true ∧
    (cadence.gen 0).running = true ∧ (cadence.gen 0).mode ≠ .oneshot ∧ (cadence.gen 1).source = some 0 ∧
    (cadence.gen 1).mode = .follow ∧ (cadence.gen 2).source = some 0 ∧ (cadence.gen 2).mode = .oneshot ∧
    (cadence.gen 4).enable = false ∧ (cadence.line 5).ringPending = some 3 := by
  unfold State.switching State.awake; decide +kernel

theorem witness_OneshotCompletionPassesOn : cadence.switching ∧ (cadence.gen 3).enable = true ∧
    (cadence.gen 3).running = true ∧ (cadence.gen 3).mode = .oneshot ∧
    cadence.closesCycle 3 (cadence.gen 3).source = false ∧ (cadence.gen 2).running = false ∧
    (cadence.line 5).ringPending = some 3 ∧ (cadence.line 6).ringPending = none := by
  unfold State.switching State.awake; decide +kernel

theorem witness_RingHangAndDenialExpiry : (ringing (.running 1)).switching ∧
    ((ringing (.running 1)).line 5).state = .ringingIn ∧ ((ringing (.running 1)).line 5).ring = .running 1 ∧
    ((ringing (.running 1)).line 5).hang = .running 1 ∧ idle.switching ∧ (idle.line 5).state ≠ .ringingIn ∧
    (idle.line 5).state ≠ .unanswered := by
  unfold State.switching State.awake; decide +kernel

/-- Position 2 calls out on ARD line 5, one step before the answer timer expires. -/
def calling : State :=
  shelf .running { record .ard .callingOut .idle 1 0 with answer := .running 1 } [conn 2 .left] .best

theorem witness_AnswerExpiryClearsTheCall : calling.switching ∧ (calling.line 5).state = .callingOut ∧
    (calling.line 5).answer = .running 1 ∧ (calling.line 5).cfg.kind = .ard ∧ calling.totalsReported ∧
    calling.lineConns 5 ≠ [] ∧ calling.bridge 5 ≠ [] ∧ (idle.line 5).state ≠ .callingOut :=
  ⟨⟨rfl, rfl⟩, by decide +kernel, by decide +kernel, by decide +kernel,
    shelf_totals _ _ _ _ (by decide) (by decide +kernel), by decide +kernel, by decide +kernel, by decide +kernel⟩

/-- Line 5 in FAULT, its guard timer about to expire or expired. -/
def faulted (mode : FaultMode) (mark : Bool) (guard : Timer) : State :=
  let r := record .ard .fault .calling 0 0
  shelf .running { r with cfg := { r.cfg with faultMode := mode }, faultClear := mark, guard := guard } [] .none

/-- The same with speaker channel 1 of position 2 assigned to the line. -/
def faultedMonitor : State :=
  let s := faulted .follow false (.running 1)
  { s with psc := { s.psc with assigns := s.psc.assigns.set (assignIndex 2 1) (.line 5) } }

theorem faulted_assigns (mode : FaultMode) (mark : Bool) (guard : Timer) (i : Fin 256) :
    (faulted mode mark guard).psc.assigns[i] ≠ .line 5 := by
  rw [faulted, shelf_assign]; decide

theorem witness_GuardExpiryLeavesFault :
    (∀ mode mark, (faulted mode mark (.running 1)).switching ∧
      ((faulted mode mark (.running 1)).line 5).state = .fault ∧
      ((faulted mode mark (.running 1)).line 5).guard = .running 1 ∧
      ((faulted mode mark (.running 1)).line 5).cfg.faultMode = mode ∧
      ((faulted mode mark (.running 1)).line 5).faultClear = mark ∧
      ∀ (p : PosNo) (c : SpkNo), (faulted mode mark (.running 1)).assign p c ≠ .line 5) ∧
    faultedMonitor.switching ∧ faultedMonitor.assign 2 1 = .line 5 ∧ faultedMonitor.online 2 = true ∧
    faultedMonitor.connAt 2 (.spk 1) = none ∧ (faultedMonitor.line 5).cfg.kind.isWire = true ∧
    faultedMonitor.lineConns 5 = [] ∧ faultedMonitor.totalsReported ∧ (idle.line 5).state ≠ .fault := by
  refine ⟨fun mode mark => ⟨⟨rfl, rfl⟩, by simp [faulted, shelf_line, record], by simp [faulted, shelf_line],
    by simp [faulted, shelf_line], by simp [faulted, shelf_line], fun _ _ => faulted_assigns _ _ _ _⟩, ⟨rfl, rfl⟩, by decide +kernel,
    by decide +kernel, by decide +kernel, by decide +kernel, by decide +kernel, ?_, by decide +kernel⟩
  exact shelf_totals .running (LineRec.mk _ _ _ _ _ _ _ _ _ _) [] .none (by decide) (by decide +kernel)

theorem witness_TalkTimeoutRemovesAndPromotes :
    let s := { talking 1 [entry 4] [entry 5] with cdu := { Cdu.reset with clock := 100 } }
    s.switching ∧ (s.group 3).cfg.maxTalk ≠ 0 ∧
    (s.group 3).talkers.filter
      (fun e => decide ((s.group 3).cfg.maxTalk * 100 ≤ (s.cdu.clock - e.stamp).toNat)) ≠ [] ∧
    (s.group 3).cfg.recordCode = .never ∧ (s.group 3).waits ≠ [] ∧ (idle.group 3).cfg.maxTalk = 0 := by
  unfold State.switching State.awake; decide +kernel

/-- Channel 1 is CLOSING and a target waits, with the recorder port UP or DOWN. -/
def closing (up : Bool) (waiting : List RecWait) : State :=
  { idle with
    lif := { idle.lif with ports := if up then idle.lif.ports else idle.lif.ports.set 8 Port.reset }
    rcu := { idle.rcu with
      chans := idle.rcu.chans.set 1 { state := .closing, target := some (.line 9), segment := 4, closeCount := 1 }
      waiting := waiting } }

theorem witness_CloseCountExpiryFreesTheChannel :
    let e : RecWait := { target := .line 5, rank := .best, number := 1 }
    let freed := fun s : State => s.setChan 1 { s.chan 1 with state := .stopped, target := none, closeCount := 0 }
    (closing false [e]).switching ∧ ((closing false [e]).chan 1).state = .closing ∧
    (closing false [e]).portUp recPort = false ∧ (closing true [e]).switching ∧
    ((closing true [e]).chan 1).state = .closing ∧ (closing true [e]).portUp recPort = true ∧
    (closing true [e]).rcu.waiting = [e] ∧ (closing true []).rcu.waiting = [] ∧
    (∀ g : GroupNo, ((closing true [e]).group g).waits = []) ∧
    (freed (closing true [e])).lowestStopped = some 0 ∧ (idle.chan 1).state ≠ .closing := by
  unfold State.switching State.awake; decide +kernel

/-- Channel 1 is CLOSING, every other channel records, and two targets wait, the MANDATORY one behind. -/
def allBusy : State :=
  let s := closing true [{ target := .line 5, rank := .best, number := 1 }, { target := .group 3, rank := .mandatory, number := 2 }]
  { s with rcu := { s.rcu with
    chans := (Vector.replicate 128 { state := .recording, target := some (.line 6), segment := 0, closeCount := 0 }).set 1
      (s.chan 1) } }

theorem witness_CloseCountExpiryFreesTheChannel_head : allBusy.switching ∧ (allBusy.chan 1).state = .closing ∧
    allBusy.portUp recPort = true ∧ allBusy.rcu.mode = .mono ∧ allBusy.lowestStopped = none ∧
    (allBusy.rcu.waiting.find? (fun x => x.rank = .mandatory)).or allBusy.rcu.waiting.head? =
      some { target := .group 3, rank := .mandatory, number := 2 } := by
  unfold State.switching State.awake; decide +kernel

/-- Key 47 of position 2 with an action, on the shelf where position 2 has line 5 at its left handset. -/
def keyed (a : KeyAction) : State :=
  { call with psc := { call.psc with keyMap := call.psc.keyMap.set (keyIndex 2 47) { action := a, colour := .red } } }

/-- The same with the key pressed. -/
def pressed (a : KeyAction) (t : PressedTarget) : State :=
  (keyed a).setPosition 2 { (keyed a).position 2 with pressed := [{ key := 47, target := t }] }

theorem witness_KeysActAsMapped :
    held.awake ∧ held.mga.phase ≠ .running ∧ (keyed .none).awake ∧ (keyed .none).mga.phase = .running ∧
    (keyed .none).online 2 = true ∧ (47 : Byte).toNat = (47 : KeyNo).val ∧ 48 ≤ (48 : Byte).toNat ∧
    (∀ a ∈ [KeyAction.none, .line 511, .release, .hold, .ring, .privacy, .talkGroup 63, .talkSpeaker 7, .record, .host],
      ((keyed a).key 2 47).action = a) ∧
    (keyed .ring).connAt 2 (handsetPlace ((keyed .ring).position 2).selected) = some (conn 2 .left) ∧
    idle.connAt 2 (handsetPlace (idle.position 2).selected) = none ∧
    ((pressed .host (.group 3)).position 2).pressed.find? (fun e => e.key = 47) = some { key := 47, target := .group 3 } ∧
    ((keyed .host).position 2).pressed.any (fun e => e.key = 47) = false := by
  unfold State.awake; decide +kernel

/-- The shelf of a state with position `p` gone offline. -/
def away (s : State) (p : PosNo) : State := { s with lif := { s.lif with present := s.lif.present.set p false } }

/-- Position 2 is offline. -/
def offline : State := away idle 2

theorem witness_HookAndLevelCells : State.reset.awake ∧ State.reset.mga.phase = .init ∧ offline.awake ∧
    offline.online 2 = false ∧ 1 < (2 : Byte).toNat ∧ 9 < (10 : Byte).toNat ∧ held.awake ∧ held.mga.phase ≠ .init ∧
    held.online 2 = true := by
  unfold State.awake; decide +kernel

theorem needs_at_rest (s : State) (hc : s.cxm.conns = []) (hg : ∀ g, (s.group g).talkers = [])
    (hk : ∀ x, s.keptNeed x = .none) : s.needsSettled := by
  intro x
  cases x with
  | line l => simp [hk, State.needNow, State.lineConns, hc]
  | group g => simp [hk, State.needNow, State.groupPolicy, hg]

/-- A shelf without connections whose lines are all MANDATORY, with line 5 as given and the recorder port UP or DOWN. -/
def mandatory (r : LineRec) (up : Bool) : State :=
  let s := shelf .running r [] .none
  { s with
    lif := { s.lif with ports := if up then s.lif.ports else s.lif.ports.set 8 Port.reset }
    prs := { s.prs with defaultCode := .mandatory } }

theorem mandatory_needs (r : LineRec) (up : Bool) : (mandatory r up).needsSettled := by
  apply needs_at_rest
  · rfl
  · intro g
    exact congrArg GroupRec.talkers (by simp [State.group, mandatory, shelf, State.reset, State.atReset, Gtu.reset] :
      (mandatory r up).group g = GroupRec.reset)
  · intro x
    cases x <;> simp [State.keptNeed, mandatory, shelf, State.reset, State.atReset, Prs.reset]

/-- A line request that connects: an idle line, a ringing line, and a line where another position already talks. -/
theorem witness_LineRequestConnects :
    (∀ s ∈ [shelf .running (record .ard .idle .idle 0 0) [] .none, shelf .running (record .mrd .idle .idle 0 0) [] .none,
        shelf .running (record .ard .ringingIn .calling 0 0) [] .none,
        shelf .running (record .ard .active .answer 1 0) [conn 2 .left] .best],
      s.switching ∧ s.online 3 = true ∧
      (∀ c ∈ s.cxm.conns, c.pos = 3 → c.line = 5 → c.place.isHandset = false) ∧
      (∀ c ∈ s.cxm.conns, c.line = 5 → c.place.isHold = true →
        ∃ d ∈ s.cxm.conns, d.line = 5 ∧ d.place.isUnheld = true) ∧
      (s.line 5).cfg.kind.isWire = true ∧ (s.line 5).state ≠ .disabled ∧ (s.line 5).state ≠ .fault ∧
      s.privateFrom 5 3 = false ∧ (s.bridge 5).length < 4 ∧ s.linePolicyWith 5 3 none ≠ .mandatory) ∧
    (∀ (kind : LineKind) (state : LineState) (far : FarSignal), state ≠ .disabled → kind ≠ .unused →
      (shelf .running (record kind state far 0 0) [] .none).connectionsLawful ∧
      (shelf .running (record kind state far 0 0) [] .none).totalsReported ∧
      (shelf .running (record kind state far 0 0) [] .none).needsSettled) ∧
    call.connectionsLawful ∧ call.totalsReported ∧ call.needsSettled := by
  refine ⟨by unfold State.switching State.awake; decide +kernel, fun kind state far _ _ => ⟨?_, ?_, ?_⟩,
    call_laws.2.2.1, call_laws.2.2.2.1, call_laws.2.2.2.2.2.1⟩
  · exact shelf_lawful _ _ _ _ (by decide) (by decide) (fun h => absurd rfl h)
  · exact shelf_totals _ _ _ _ (by decide) (by simp [State.totalsNow, State.monitors, shelf_lineConns, record])
  · exact shelf_needs _ _ _ _ (by decide) (by simp [State.needNow, shelf_lineConns])

/-- The clause on a MANDATORY line that is not bound. -/
theorem witness_LineRequestConnects_mandatory :
    let s := mandatory (record .ard .idle .idle 0 0) true
    s.switching ∧ s.online 2 = true ∧ s.needsSettled ∧ s.linePolicyWith 5 2 none = .mandatory ∧
    s.boundChan (.line 5) = none ∧ s.allocatable = some 0 ∧ s.connAt 2 .left = none :=
  ⟨⟨rfl, rfl⟩, by decide +kernel, mandatory_needs _ _, by decide +kernel, by decide +kernel, by decide +kernel,
    by decide +kernel⟩

/-- Position 2 holds line 5, and no one else has it. -/
def heldCall : State := shelf .running (record .ard .held .answer 0 1) [conn 2 .hold] .best

theorem heldCall_laws : heldCall.connectionsLawful ∧ heldCall.totalsReported :=
  ⟨shelf_lawful _ _ _ _ (by decide) (by decide) (by decide), shelf_totals _ _ _ _ (by decide) (by decide +kernel)⟩

theorem witness_LineRequestMovesRetrievesPicksUp :
    (call.switching ∧ call.online 2 = true ∧ (call.connOn 2 5 .left).isSome = true) ∧
    (call.connectionsLawful ∧ call.totalsReported ∧ call.connAt 2 .right = none ∧
      call.connOn 2 5 (handsetPlace (otherHandset .right)) = some (conn 2 .left)) ∧
    (heldCall.switching ∧ heldCall.connectionsLawful ∧ heldCall.totalsReported ∧ heldCall.online 2 = true ∧
      heldCall.connAt 2 .left = none ∧ heldCall.connOn 2 5 .right = none ∧
      heldCall.connOn 2 5 .hold = some (conn 2 .hold) ∧ (heldCall.line 5).cfg.kind.isWire = true ∧
      (heldCall.line 5).state = .held ∧ (heldCall.line 5).totals.allHeld = true) ∧
    (heldCall.online 3 = true ∧ heldCall.connAt 3 .left = none ∧
      (∀ c ∈ heldCall.cxm.conns, c.pos = 3 → c.line = 5 → c.place.isHandset = false) ∧
      (∀ c ∈ heldCall.cxm.conns, c.line = 5 → c.place.isUnheld = false) ∧
      (heldCall.bridge 5).head? = some (conn 2 .hold) ∧ heldCall.cxm.privacy[(5 : LineNo)] = false ∧
      heldCall.linePolicyWith 5 3 (some (conn 2 .hold)) ≠ .mandatory) := by
  refine ⟨⟨call_switching, by decide +kernel⟩, ⟨call_laws.2.2.1, call_laws.2.2.2.1, by decide +kernel⟩,
    ⟨⟨rfl, rfl⟩, heldCall_laws.1, heldCall_laws.2, by decide +kernel⟩, by decide +kernel⟩

/-- The call of position 2, made private. -/
def exclusiveCall : State := { call with cxm := { call.cxm with privacy := call.cxm.privacy.set 5 true } }

/-- Four positions share line 5. -/
def crowded : State :=
  shelf .running (record .ard .active .answer 4 0) [conn 10 .left, conn 11 .left, conn 12 .right, conn 13 .left] .best

theorem witness_LineRequestDenials :
    idle.switching ∧ idle.online 2 = true ∧ (idle.line 6).cfg.kind = .unused ∧
    (let s := shelf .running (record .hootLeg .active .idle 0 0) [] .none;
      s.switching ∧ s.online 2 = true ∧ s.cxm.conns = [] ∧ (s.line 5).cfg.kind = .hootLeg) ∧
    (faulted .follow false .stopped).switching ∧ ((faulted .follow false .stopped).line 5).cfg.kind = .ard ∧
    ((faulted .follow false .stopped).line 5).state = .fault ∧ (faulted .follow false .stopped).cxm.conns = [] ∧
    exclusiveCall.switching ∧ exclusiveCall.online 3 = true ∧ exclusiveCall.share 5 = .exclusive 2 ∧ (exclusiveCall.line 5).state ≠ .fault ∧
    (∀ c ∈ exclusiveCall.cxm.conns, c.pos = 3 → c.line = 5 → c.place.isHandset = false) ∧
    (∀ c ∈ exclusiveCall.cxm.conns, c.line = 5 → c.place.isHold = false) ∧
    crowded.switching ∧ crowded.online 2 = true ∧ 4 ≤ (crowded.bridge 5).length ∧
    (∀ c ∈ crowded.cxm.conns, c.pos = 2 → c.line = 5 → c.place.isHandset = false) ∧
    (∀ c ∈ crowded.cxm.conns, c.line = 5 → c.place.isHold = false) ∧
    (let s := mandatory (record .ard .idle .idle 0 0) false;
      s.switching ∧ s.online 2 = true ∧ s.share 5 = .none ∧ (s.bridge 5).length < 4 ∧
      s.linePolicyWith 5 2 none = .mandatory ∧ s.boundChan (.line 5) = none ∧ s.allocatable = none) ∧
    offline.switching ∧ offline.online 2 = false ∧ (offline.line 5).cfg.kind = .ard ∧ (offline.line 5).state ≠ .fault ∧
    offline.share 5 = .none ∧ offline.linePolicyWith 5 2 none ≠ .mandatory := by
  unfold State.switching State.awake; decide +kernel

/-- Late line requests: each reason of admission, and the three ways to pass it; a late release, hold and privacy toggle. -/
theorem witness_LineRequestDenials_late :
    (offline.switching ∧ offline.online 2 = false ∧ (offline.line 6).cfg.kind = .unused ∧
      offline.connAt 2 .left = none) ∧
    (let s := away (shelf .running (record .hootLeg .active .idle 0 0) [] .none) 2;
      s.switching ∧ s.online 2 = false ∧ (s.line 5).cfg.kind = .hootLeg) ∧
    (let s := away (faulted .follow false .stopped) 2;
      s.switching ∧ s.online 2 = false ∧ (s.line 5).cfg.kind = .ard ∧ (s.line 5).state = .fault) ∧
    (let s := away exclusiveCall 3;
      s.switching ∧ s.online 3 = false ∧ s.share 5 = .exclusive 2 ∧ (s.line 5).state ≠ .fault) ∧
    (let s := away crowded 2;
      s.switching ∧ s.online 2 = false ∧ 4 ≤ (s.bridge 5).length) ∧
    (∀ up : Bool, let s := away (mandatory (record .ard .idle .idle 0 0) up) 2;
      s.switching ∧ s.online 2 = false ∧ s.share 5 = .none ∧ (s.bridge 5).length < 4 ∧
      s.linePolicyWith 5 2 none = .mandatory ∧ s.boundChan (.line 5) = none ∧ s.allocatable.isSome = up) := by
  unfold State.switching State.awake; decide +kernel

theorem witness_ReleasesRemoveTheConnection : idle.switching ∧ idle.totalsReported ∧ idle.connAt 2 .left = none ∧
    idle.online 2 = true ∧ call.switching ∧ call.totalsReported ∧ call.connAt 2 .left = some (conn 2 .left) ∧
    (call.line 5).cfg.kind.isWire = true ∧ (call.line 5).state = .active :=
  ⟨idle_switching, shelf_totals _ _ _ _ (by decide) (by decide +kernel), by decide +kernel, by decide +kernel,
    call_switching, call_laws.2.2.2.1, by decide +kernel⟩

/-- Position 2 has line 5 at its left handset and eight HOLD entries. -/
def laden : State :=
  shelf .running (record .ard .active .answer 1 8) (conn 2 .left :: List.replicate 8 (conn 2 .hold)) .best

theorem witness_HoldRequestHolds : idle.switching ∧ idle.totalsReported ∧ idle.online 2 = true ∧
    idle.connAt 2 .left = none ∧ call.switching ∧ call.totalsReported ∧ call.online 2 = true ∧
    call.connAt 2 .left = some (conn 2 .left) ∧ call.holdSlots 2 < 8 ∧ (calling.line 5).state = .callingOut ∧
    calling.connAt 2 .left = some (conn 2 .left) ∧ laden.switching ∧ laden.totalsReported ∧ laden.online 2 = true ∧
    laden.connAt 2 .left = some (conn 2 .left) ∧ 8 ≤ laden.holdSlots 2 :=
  ⟨idle_switching, shelf_totals _ _ _ _ (by decide) (by decide +kernel), by decide +kernel, by decide +kernel,
    call_switching, call_laws.2.2.2.1, by decide +kernel, by decide +kernel, by decide +kernel, by decide +kernel,
    by decide +kernel, ⟨rfl, rfl⟩, shelf_totals _ _ _ _ (by decide) (by decide +kernel), by decide +kernel⟩

theorem witness_PrivacyToggles : idle.switching ∧ idle.online 2 = true ∧ idle.connAt 2 .left = none ∧ call.switching ∧
    call.online 2 = true ∧ call.connAt 2 .left = some (conn 2 .left) ∧ call.share 5 = .sole ∧ exclusiveCall.switching ∧
    exclusiveCall.connAt 2 .left = some (conn 2 .left) ∧ exclusiveCall.share 5 = .exclusive 2 ∧ crowded.switching ∧
    crowded.connAt 13 .left = some (conn 13 .left) ∧ crowded.share 5 = .bridged := by
  unfold State.switching State.awake; decide +kernel

theorem witness_SpeakerTalkTakesTheValue : call.switching ∧ call.connAt 2 (.spk 7) = none := by
  unfold State.switching State.awake; decide +kernel

/-- MRD line 5, ACTIVE, following `follows`; its burst_cg, generator 1, is a waiting ONESHOT generator when enabled. -/
def bursting (follows : Option CgNo) (enable : Bool) : State :=
  let s := shelf .running { record .mrd .active .answer 0 0 with ringPending := follows } [] .none
  s.setGen 1 { Gen.reset with enable := enable, mode := .oneshot }

theorem witness_RingRequestStartsABurst :
    (∀ e, (bursting none e).switching ∧ ((bursting none e).line 5).cfg.kind = .mrd ∧
      ((bursting none e).line 5).state = .active ∧ ((bursting none e).line 5).ringPending = none ∧
      ((bursting none e).gen ((bursting none e).line 5).cfg.burstCg).enable = e) ∧
    ((bursting (some 1) true).line 5).ringPending ≠ none := by
  unfold State.switching State.awake; decide +kernel

/-- The call of position 2 on a line recorded on demand. -/
def onDemand : State :=
  let s := shelf .running (record .ard .active .answer 1 0) [conn 2 .left] .none
  { s with prs := { s.prs with defaultCode := .onDemand } }

theorem witness_DemandToggleInverts : idle.switching ∧ idle.lineConns 5 = [] ∧ onDemand.switching ∧
    onDemand.lineConns 5 ≠ [] ∧ onDemand.keptNeed (.line 5) = .none ∧ onDemand.boundChan (.line 5) = none ∧
    onDemand.isWaiting (.line 5) = false ∧ onDemand.allocatable = some 0 := by
  unfold State.switching State.awake; decide +kernel

/-- Group 3, enabled and recorded as given. -/
def recorded (code : PolicyCode) (up : Bool) : State :=
  let s := closing up []
  s.setGroup 3 { GroupRec.reset with cfg := { GroupCfg.reset with enabled := true, recordCode := code } }

/-- Sixty-four wait entries of class NORMAL. -/
def fullQueue : List TalkEntry := List.replicate 64 (entry 31)

theorem witness_TalkRequestOutcomes :
    (idle.switching ∧ idle.online 2 = true ∧ (idle.group 3).cfg.enabled = false) ∧
    (let s := talking 0 [entry 4] [entry 5];
      s.switching ∧ (s.group 3).cfg.enabled = true ∧ (s.group 3).talks 4 = true ∧ (s.group 3).waitsFor 5 = true ∧
      (9 : PosNo) ∈ (s.group 3).marks ∧ s.online 2 = true ∧ (s.group 3).talks 2 = false ∧
      (s.group 3).waitsFor 2 = false ∧ (2 : PosNo) ∉ (s.group 3).marks ∧ (s.group 3).cfg.recordCode = .never ∧
      s.keptNeed (.group 3) = .none ∧ (s.group 3).cfg.talkerLimit ≤ (s.group 3).talkers.length ∧
      (s.group 3).talkers.find? (fun x => x.cls = .normal) = some (entry 4) ∧ 0 < s.poolFree) ∧
    (let s := talking 0 [] [];
      (s.group 3).talkers.length < (s.group 3).cfg.talkerLimit ∧ (s.group 3).talks 2 = false) ∧
    (let s := talking 0 [entry 4] fullQueue;
      s.poolFree = 0 ∧ (s.group 3).talks 2 = false ∧ (s.group 3).waitsFor 2 = false) ∧
    (let s := talking 0 [{ entry 4 with cls := .override }] [];
      (s.group 3).talkers.find? (fun x => x.cls = .normal) = none ∧ 0 < s.poolFree) ∧
    (let s := recorded .mandatory false;
      s.switching ∧ s.online 2 = true ∧ (s.group 3).cfg.enabled = true ∧ (s.group 3).cfg.recordCode = .mandatory ∧
      s.boundChan (.group 3) = none ∧ s.allocatable = none) := by
  unfold State.switching State.awake; decide +kernel

/-- Group 3 is MANDATORY and recorded by channel 0. -/
def recordedGroup : State :=
  let s := recorded .mandatory true
  { s with
    prs := { s.prs with groupNeed := s.prs.groupNeed.set 3 .mandatory }
    rcu := { s.rcu with
      chans := s.rcu.chans.set 0 { state := .recording, target := some (.group 3), segment := 1, closeCount := 0 } } }

/-- Late talk requests: ignored, refused, granted with and without an ask, queued, refused by the pool, and by pre-emption. -/
theorem witness_TalkRequestOutcomes_late :
    (offline.switching ∧ offline.online 2 = false ∧ (offline.group 3).cfg.enabled = false) ∧
    ((away (talking 0 [entry 4] [entry 5]) 4).online 4 = false ∧
      ((away (talking 0 [entry 4] [entry 5]) 4).group 3).talks 4 = true) ∧
    (∀ up : Bool, let s := away (recorded .mandatory up) 2;
      s.switching ∧ s.online 2 = false ∧ (s.group 3).cfg.enabled = true ∧ (s.group 3).talks 2 = false ∧
      (s.group 3).waitsFor 2 = false ∧ (2 : PosNo) ∉ (s.group 3).marks ∧
      s.checkFails 3 ((s.group 3).talkers.map (fun x => x.pos) ++ [2]) = !up ∧
      s.mandatoryWith 3 ((s.group 3).talkers.map (fun x => x.pos) ++ [2]) = true ∧ s.boundChan (.group 3) = none ∧
      s.allocatable = (if up then some 0 else none) ∧ (s.group 3).talkers.length < (s.group 3).cfg.talkerLimit) ∧
    (∀ ts ∈ [[], [entry 4], [{ entry 4 with cls := .override }]], let s := away (talking 0 ts []) 2;
      s.switching ∧ s.online 2 = false ∧ (s.group 3).cfg.enabled = true ∧ (s.group 3).talks 2 = false ∧
      (s.group 3).waitsFor 2 = false ∧ (2 : PosNo) ∉ (s.group 3).marks ∧ (s.group 3).cfg.recordCode = .never ∧
      s.keptNeed (.group 3) = .none ∧ (s.group 3).waits = [] ∧ 0 < s.poolFree ∧
      s.checkFails 3 ((s.group 3).talkers.map (fun x => x.pos) ++ [2]) = false ∧
      ((s.group 3).cfg.talkerLimit ≤ (s.group 3).talkers.length ↔ ts ≠ [])) ∧
    (let s := away (talking 0 [entry 4] fullQueue) 2;
      s.poolFree = 0 ∧ s.online 2 = false ∧ (s.group 3).talks 2 = false ∧ (s.group 3).waitsFor 2 = false) := by
  unfold State.switching State.awake; decide +kernel

theorem witness_TalkRequestOutcomes_recorded :
    recordedGroup.switching ∧ recordedGroup.online 2 = true ∧ (recordedGroup.group 3).cfg.enabled = true ∧
    (recordedGroup.group 3).cfg.recordCode = .mandatory ∧ recordedGroup.keptNeed (.group 3) = .mandatory ∧
    (recordedGroup.boundChan (.group 3)).isSome = true ∧ 1 ≤ (recordedGroup.group 3).cfg.talkerLimit ∧
    (recordedGroup.group 3).talkers.length < (recordedGroup.group 3).cfg.talkerLimit := by
  unfold State.switching State.awake; decide +kernel

theorem witness_TalkReleaseOutcomes :
    let s := talking 0 [entry 4] [entry 5]
    s.switching ∧ (s.group 3).talkers.find? (fun x => x.pos = 4) = some (entry 4) ∧ (s.group 3).cfg.recordCode = .never ∧
    s.keptNeed (.group 3) = .none ∧ (s.group 3).talks 5 = false ∧
    (s.group 3).waits.find? (fun x => x.pos = 5) = some (entry 5) ∧ (s.group 3).talks 9 = false ∧
    (s.group 3).waitsFor 9 = false ∧ (9 : PosNo) ∈ (s.group 3).marks ∧ (2 : PosNo) ∉ (s.group 3).marks := by
  unfold State.switching State.awake; decide +kernel

/-- A LINE_CFG entry with the codes given, group 3 and gains that clamp. -/
def lineEntry (kind : Byte) (group : Byte) : LineEntry :=
  { kind := kind, privacyDefault := 1, rxGain := 65535, txGain := 32767, ringCg := 15, burstCg := 0, ringTimeout := 0
    answerTimeout := 255, ringHang := 0, faultMode := 1, faultGuard := 255, group := group }

/-- What it stands for. -/
def lineCfg (kind : LineKind) (group : GroupNo) : LineCfg :=
  { kind := kind, privacyDefault := true, rxGain := 32767, txGain := 32767, ringCg := 15, burstCg := 0, ringTimeout := 0
    answerTimeout := 255, ringHang := 0, faultMode := .latched, faultGuard := 255, group := group }

/-- Lines 8 to 11 are the four HOOT_LEG lines of group 63. -/
def fourLegs : State :=
  let leg := { record .hootLeg .idle .idle 0 0 with cfg := { LineCfg.reset with kind := .hootLeg, group := 63 } }
  (((held.setLine 8 leg).setLine 9 leg).setLine 10 leg).setLine 11 leg

theorem witness_ReadEntry_ReadState : held.serving ∧ 12 ≤ (12 : Byte).toNat ∧ 8 ≤ (8 : Byte).toNat ∧
    512 ≤ (512 : U16).toNat ∧ held.rcu.mode = .mono ∧ 1028 ≤ (1028 : U16).toNat :=
  ⟨held_serving, by decide, by decide, by decide, rfl, by decide⟩

/-- The last channel of a recorder in STEREO and its slots, and a class's bitmap at its last bit. -/
theorem witness_ReadState_stereo :
    let s : State := { held with rcu := { held.rcu with mode := .stereo } }
    s.serving ∧ s.rcu.mode = .stereo ∧ (126 : ChanNo).val = 2 * (63 : ChanNo).val ∧
    (127 : ChanNo).val = 2 * (63 : ChanNo).val + 1 ∧
    (ClassRec.bytes { held.mga.cls .port with objects := [0, 8] } .port).drop 6 = [1, 1] :=
  ⟨held_serving, rfl, rfl, rfl, by decide +kernel⟩

/-- R198: a talker takes six bytes, a mark one, and a line of number 258 two; an event cell's fixed part, by hand. -/
theorem test_bytes_by_hand :
    targetBytes (some (.line 258)) = [1, 1, 2] ∧ LineSource.bytes (.fixed 63) = [1, 63] ∧
    ((OutCell.event { what := .clip 959, stamp := 66051, lost := true }).bytes).take 14 =
      [128, 6, 0, 0, 255, 1, 0, 1, 2, 3, 3, 191, 0, 0] ∧
    outputAt 0 = .ear 0 .left ∧ outputAt 319 = .speaker 31 7 ∧ outputAt 320 = .lineOut 0 ∧ outputAt 831 = .lineOut 511 ∧
    outputAt 832 = .slot 0 ∧ outputAt 959 = .slot 127 := by decide +kernel

theorem witness_WriteLineCfgChecksAndStores :
    (held.serving ∧ idle.serving ∧ call.serving) ∧
    (∀ (kind : LineKind) (group : GroupNo), group = 3 ∨ group = 63 →
      let e := lineEntry (BitVec.ofNat 8 kind.code) (BitVec.ofNat 8 group.val)
      let cfg := lineCfg kind group
      e.kind.toNat = cfg.kind.code ∧ e.privacyDefault.toNat = (if cfg.privacyDefault then 1 else 0) ∧
      e.faultMode.toNat = cfg.faultMode.code ∧ e.ringCg.toNat = cfg.ringCg.val ∧ e.burstCg.toNat = cfg.burstCg.val ∧
      e.group.toNat = cfg.group.val ∧ cfg.rxGain = min e.rxGain.toNat 32767 ∧ cfg.txGain = min e.txGain.toNat 32767 ∧
      cfg.ringTimeout = e.ringTimeout.toNat ∧ cfg.answerTimeout = e.answerTimeout.toNat ∧
      cfg.ringHang = e.ringHang.toNat ∧ cfg.faultGuard = e.faultGuard.toNat) ∧
    3 < (4 : Byte).toNat ∧ 15 < (16 : Byte).toNat ∧ 63 < (64 : Byte).toNat ∧
    ((call.line 5).cfg.kind = .ard ∧ (call.line 5).state = .active) ∧
    (held.mga.phase = .held ∧ (held.line 0).cfg.kind = .unused ∧ (held.line 0).state = .disabled ∧
      (held.line 5).state = .idle ∧ (held.line 5).cfg.group = 3) ∧
    (idle.mga.phase = .running ∧ (idle.line 5).cfg.kind = .ard ∧ (idle.line 5).state = .idle ∧ idle.lineConns 5 = []) ∧
    ((idle.line 0).cfg.kind = .unused ∧ idle.faultCondition 0 = true ∧ idle.lineConns 0 = []) := by
  refine ⟨⟨held_serving, idle_serving, ⟨rfl, by decide, by decide⟩⟩, ?_, by decide +kernel⟩
  intro kind group hg
  rcases hg with rfl | rfl <;> cases kind <;> decide

theorem witness_WriteLineCfg_fifth_leg : fourLegs.serving ∧
    4 ≤ ((List.finRange 512).filter fun x => decide (x ≠ (5 : LineNo)) && decide ((fourLegs.line x).cfg.kind = .hootLeg) &&
      decide ((fourLegs.line x).cfg.group = 63)).length ∧ (fourLegs.line 5).state = .idle := by
  refine ⟨⟨rfl, nofun, (by decide : 0 < 16)⟩, ?_, by decide +kernel⟩
  have h : ∀ x ∈ [(8 : LineNo), 9, 10, 11], x ∈ (List.finRange 512).filter fun x => decide (x ≠ (5 : LineNo)) &&
      decide ((fourLegs.line x).cfg.kind = .hootLeg) && decide ((fourLegs.line x).cfg.group = 63) := by
    intro x hx
    simp only [List.mem_filter, List.mem_finRange, true_and]
    revert x
    decide +kernel
  have hs : [(8 : LineNo), 9, 10, 11].Subperm ((List.finRange 512).filter fun x => decide (x ≠ (5 : LineNo)) &&
      decide ((fourLegs.line x).cfg.kind = .hootLeg) && decide ((fourLegs.line x).cfg.group = 63)) :=
    List.subperm_of_subset (by decide) h
  exact hs.length_le

/-- A POSITION_CFG entry whose duck and volumes clamp. -/
def positionEntry : PositionEntry :=
  { recordMode := 2, talkClass := 2, autoHold := 1, duck := 16385, ringSpeaker := 7, ringTone := 3
    volumes := Vector.replicate 10 65535 }

theorem witness_WriteConsoleTables :
    held.serving ∧ 2 < (3 : Byte).toNat ∧ 7 < (8 : Byte).toNat ∧ 3 < (4 : Byte).toNat ∧
    (let cfg : PositionCfg :=
      { recordMode := .exempt, talkClass := .override, autoHold := true, duck := 16384, ringSpeaker := 7, ringTone := 3
        volumes := Vector.replicate 10 16384 };
      positionEntry.recordMode.toNat = cfg.recordMode.code ∧ positionEntry.talkClass.toNat = talkClassCode cfg.talkClass ∧
      positionEntry.autoHold.toNat = (if cfg.autoHold then 1 else 0) ∧ cfg.duck = min positionEntry.duck.toNat 16384 ∧
      positionEntry.ringSpeaker.toNat = cfg.ringSpeaker.val ∧ positionEntry.ringTone.toNat = cfg.ringTone.val ∧
      cfg.volumes = positionEntry.volumes.map (fun v => min v.toNat 16384) ∧
      cfg.recordMode ≠ (held.position 31).cfg.recordMode) ∧
    (1535 : U16).toNat = 48 * (31 : PosNo).val + (47 : KeyNo).val ∧ 9 < (10 : Byte).toNat ∧ 512 ≤ (512 : U16).toNat ∧
    64 ≤ (64 : U16).toNat ∧ 8 ≤ (8 : U16).toNat ∧ (63 : U16).toNat = (63 : GroupNo).val ∧
    [(3 : Byte), 31] = ({ colour := .key, pattern := .follow 15 } : LampStyle).bytes ∧
    (1 < (15 : Byte).toNat ∧ (15 : Byte).toNat < 16) ∧ 31 < (32 : Byte).toNat :=
  ⟨held_serving, by decide +kernel⟩

/-- Speaker channel 1 of position 2 monitors line 5. -/
def monitored : State :=
  { idle with
    psc := { idle.psc with assigns := idle.psc.assigns.set (assignIndex 2 1) (.line 5) }
    cxm := { idle.cxm with conns := [conn 2 (.spk 1)] } }

/-- Sixteen speaker channels name line 5. -/
def sixteen : State :=
  { idle with psc := { idle.psc with assigns := Vector.ofFn (fun i => if i.val < 16 then .line 5 else .none) } }

theorem witness_WriteSpeakerAssignMovesTheMonitor :
    idle.serving ∧ 256 ≤ (256 : U16).toNat ∧ 2 < (3 : Byte).toNat ∧ (255 : U16).toNat = 8 * (31 : PosNo).val + (7 : SpkNo).val ∧
    (511 : U16).toNat = (511 : LineNo).val ∧ sixteen.assign 31 7 ≠ .line 5 ∧
    16 ≤ (sixteen.psc.assigns.toList.filter (fun x => x = Assign.line 5)).length ∧ sixteen.assign 1 7 = .line 5 ∧
    monitored.assign 2 1 = .line 5 ∧ monitored.mga.phase = .running ∧ monitored.online 2 = true ∧
    (idle.assign 2 1 = .none ∧ idle.online 2 = true ∧ (idle.line 5).state = .idle ∧ (idle.line 6).state = .disabled ∧
      idle.cxm.conns = []) ∧ idle.connectionsLawful :=
  ⟨idle_serving, by decide, by decide, by decide, by decide, by decide +kernel, by decide +kernel, by decide +kernel,
    by decide +kernel, rfl, by decide +kernel, by decide +kernel,
    shelf_lawful _ _ _ _ (by decide) (by decide) (fun h => absurd rfl h)⟩

/-- A running shelf on which line 5 is a leg of group 3, which is enabled or not. -/
def leg (enabled : Bool) : State :=
  let s := shelf .running (record .hootLeg (if enabled then .active else .idle) .idle 0 0) [] .none
  s.setGroup 3 { GroupRec.reset with cfg := { GroupCfg.reset with enabled := enabled }, talkers := if enabled then [entry 4] else [] }

theorem witness_WriteGroupCfgStoresAndActs :
    let e : GroupEntry :=
      { enabled := 1, talkerLimit := 0, maxTalk := 601, groupGain := 65535, legGain := 16384, recordCode := 0 }
    let cfg : GroupCfg :=
      { enabled := true, talkerLimit := 1, maxTalk := 600, groupGain := 32767, legGain := 16384, recordCode := .never }
    (e.enabled.toNat = (if cfg.enabled then 1 else 0) ∧ cfg.talkerLimit = max 1 (min e.talkerLimit.toNat 4) ∧
      cfg.maxTalk = min e.maxTalk.toNat 600 ∧ cfg.groupGain = min e.groupGain.toNat 32767 ∧
      cfg.legGain = min e.legGain.toNat 32767 ∧ e.recordCode.toNat = cfg.recordCode.code) ∧
    64 ≤ (64 : U16).toNat ∧ 1 < (2 : Byte).toNat ∧ 3 < (4 : Byte).toNat ∧ (leg true).serving ∧ (leg false).serving ∧
    ((leg true).mga.phase = .running ∧ cfg.talkerLimit = ((leg true).group 3).cfg.talkerLimit ∧
      cfg.recordCode = ((leg true).group 3).cfg.recordCode ∧ cfg.enabled = ((leg true).group 3).cfg.enabled ∧
      ((leg true).group 3).talkers.length ≤ ((leg true).group 3).cfg.talkerLimit ∧
      ((leg true).line 5).cfg.kind = .hootLeg ∧ ((leg true).line 5).cfg.group = 3 ∧ ((leg true).line 5).state = .active) ∧
    (((leg false).group 3).cfg.enabled = false ∧ ((leg false).line 5).state = .idle ∧ held.mga.phase = .held) := by
  unfold State.serving State.awake; decide +kernel

/-- Writes that lower and raise the limit and that disable the group. -/
theorem witness_WriteGroupCfg_limits_and_disabling :
    let s := talking 0 [entry 4, entry 6] [entry 5]
    let two := s.setGroup 3 { s.group 3 with cfg := { (s.group 3).cfg with talkerLimit := 2 } }
    let off : GroupEntry :=
      { enabled := 0, talkerLimit := 1, maxTalk := 0, groupGain := 16384, legGain := 16384, recordCode := 0 }
    two.serving ∧ (two.group 3).talkers.length ≤ (two.group 3).cfg.talkerLimit ∧ (two.group 3).cfg.recordCode = .never ∧
    (two.group 3).cfg.enabled = true ∧ max 1 (min (1 : Byte).toNat 4) < (two.group 3).cfg.talkerLimit ∧
    (two.group 3).cfg.talkerLimit < max 1 (min (3 : Byte).toNat 4) ∧ 0 < two.poolFree ∧
    (two.group 3).waits.Pairwise (fun a b => classRank b.cls ≤ classRank a.cls) ∧
    off.enabled.toNat = (if false then 1 else 0) ∧ (leg true).mga.phase = .running ∧
    ((leg true).group 3).cfg.enabled = true ∧ ((leg true).line 5).state = .active := by
  unfold State.serving State.awake; decide +kernel

theorem witness_WriteCgCfgStoresAndActs :
    let e : CgEntry :=
      { enable := 1, mode := 2, source := 15, period := 0, rise := 1001, fall := 1000, pair := 1 }
    cadence.serving ∧ 16 ≤ (16 : U16).toNat ∧ 2 < (3 : Byte).toNat ∧ 15 < (16 : Byte).toNat ∧ (16 : Byte).toNat ≠ 255 ∧
    (e.enable.toNat = (if true then 1 else 0) ∧ e.mode.toNat = CgMode.oneshot.code ∧ e.source.toNat = (15 : CgNo).val ∧
      (255 : Byte).toNat = 255) ∧
    ((cadence.gen 1).source = some 0 ∧ cadence.closesCycle 0 (some 1) = true ∧ cadence.closesCycle 0 (some 0) = true) ∧
    cadence.closesCycle 0 (some 15) = false ∧ (cadence.gen 0).enable = true ∧ (cadence.gen 0).mode ≠ .oneshot ∧
    (cadence.gen 15).enable = false ∧ cadence.closesCycle 15 (some 0) = false ∧ cadence.mga.phase = .running ∧
    (cadence.line 5).ringPending = some 3 ∧ (cadence.gen 3).enable = true ∧ held.serving ∧ held.mga.phase = .held := by
  unfold State.serving State.awake; decide +kernel

theorem witness_WriteToneAndRecMode :
    held.serving ∧ idle.serving ∧ (1023 : U16).toNat = 256 * (3 : ToneNo).val + (255 : Fin 256).val ∧
    1023 < (1024 : U16).toNat ∧ 1027 < (1028 : U16).toNat ∧ (1027 : U16).toNat = 1024 + (3 : ToneNo).val ∧
    (1 : U16) ≠ 0 ∧ 1 < (2 : Byte).toNat ∧ (1 : Byte).toNat ≤ 1 ∧ idle.mga.phase = .running ∧ held.mga.phase = .held :=
  ⟨held_serving, idle_serving, by decide⟩

theorem witness_WritePolicyTables :
    call.serving ∧ call.lineConns 5 ≠ [] ∧ idle.cxm.conns = [] ∧ 64 ≤ (64 : U16).toNat ∧ 4 < (5 : Byte).toNat ∧
    (4 : Byte).toNat = 4 ∧ 8 ≤ (8 : U16).toNat ∧ 3 < (4 : Byte).toNat ∧ 511 < (512 : U16).toNat ∧
    (510 : U16).toNat < (511 : U16).toNat ∧ (511 : U16).toNat = (511 : LineNo).val ∧
    (3 : Byte).toNat = PolicyCode.mandatory.code := by
  unfold State.serving State.awake; decide +kernel

theorem witness_ClearFaultAndTrigger :
    (∀ mode mark, (faulted mode mark .expired).serving ∧ (faulted mode mark .expired).mga.phase = .running ∧
      ((faulted mode mark .expired).line 5).state = .fault ∧ ((faulted mode mark .expired).line 5).guard = .expired ∧
      ∀ i : Fin 256, (faulted mode mark .expired).psc.assigns[i] ≠ .line 5) ∧
    (((faulted .latched false (.running 3)).line 5).guard ≠ .expired ∧
      ((faulted .latched false (.running 3)).line 5).state = .fault) ∧ (idle.line 5).state ≠ .fault ∧
    512 ≤ (512 : U16).toNat ∧ 16 ≤ (16 : Byte).toNat ∧ held.mga.phase = .held ∧ (cadence.gen 15).enable = false ∧
    (cadence.gen 2).enable = true ∧ (cadence.gen 2).mode = .oneshot ∧ (cadence.gen 2).running = false := by
  refine ⟨fun mode mark => ⟨⟨rfl, nofun, (by decide : 0 < 16)⟩, rfl, by simp [faulted, shelf_line, record],
    by simp [faulted, shelf_line], faulted_assigns _ _ _⟩, by decide +kernel⟩

theorem witness_ForceReleaseClearsTheLine : held.serving ∧ held.mga.phase = .held ∧ idle.serving ∧
    idle.lineConns 5 = [] ∧ call.serving ∧ call.lineConns 5 ≠ [] ∧ call.bridge 5 ≠ [] ∧ call.totalsReported ∧
    (call.line 5).cfg.kind.isWire = true ∧ (call.line 5).state = .active :=
  ⟨held_serving, rfl, idle_serving, rfl, ⟨rfl, nofun, (by decide : 0 < 16)⟩, by decide +kernel, by decide +kernel,
    call_laws.2.2.2.1, by decide +kernel⟩

/-- CLIP in REARM with an occurrence withheld, and `queued` cells in the event queue. -/
def rearmed (queued : Nat) : State :=
  { idle with mga :=
    { idle.mga.setCls .clip { ClassRec.reset .rearm with pending := true, withheld := some (.clip 7, 9), objects := [7] } with
      events := List.replicate queued { what := .ready, stamp := 0, lost := false } } }

theorem witness_EventClassAndLaneRequests :
    (rearmed 128).serving ∧ ((rearmed 128).mga.cls .clip).mode = .rearm ∧
    ((rearmed 128).mga.cls .clip).withheld = some (.clip 7, 9) ∧ (Occurrence.clip 7).cls = .clip ∧
    ¬ (rearmed 128).mga.events.length < 128 ∧ (rearmed 127).mga.events.length < 128 ∧
    (idle.mga.cls .line).mode ≠ .rearm ∧ 9 ≤ (9 : Byte).toNat ∧ 3 < (4 : Byte).toNat ∧ idle.serving := by
  unfold State.serving State.awake; decide +kernel

/-- Sixteen responses wait. -/
def answered : State :=
  { idle with mga := { idle.mga with
    responses := List.replicate 16 { kind := 1, tag := 0, code := .ok, overrun := false, data := [] } } }

theorem witness_RequestsAreScreened :
    held.awake ∧ held.mga.responses.length < 16 ∧ held.serving ∧ answered.awake ∧ (Instr.hold 5).isRequest = true ∧
    16 ≤ answered.mga.responses.length ∧ State.reset.awake ∧ (Instr.hold 5).wellFormed = true ∧
    State.reset.mga.phase = .init ∧ State.reset.mga.responses.length < 16 ∧
    (∀ (kind : Byte) (tag : U16), Instr.hold 5 ≠ .malformedRequest kind tag) :=
  ⟨rfl, by decide, held_serving, rfl, by decide +kernel, by decide +kernel, rfl, rfl, rfl, by decide,
    (fun _ _ h => nomatch h)⟩

/-- A class in a delivery mode with its pending mark, at a queue of `queued` cells. -/
def classed (mode : DeliveryMode) (pending : Bool) (queued : Nat) : Mga :=
  { idle.mga.setCls .clip { ClassRec.reset mode with pending := pending } with
    events := List.replicate queued { what := .ready, stamp := 0, lost := false } }

theorem witness_OccurrencesAndTheLane :
    (∀ mode ∈ [DeliveryMode.off, .each, .latched, .rearm], ∀ pending : Bool,
      ((classed mode pending 127).cls (Occurrence.clip 7).cls).mode = mode ∧
      ((classed mode pending 127).cls (Occurrence.clip 7).cls).pending = pending) ∧
    (classed .each false 127).events.length < 128 ∧ 128 ≤ (classed .each false 128).events.length ∧
    Occurrence.ready.cls = .system ∧ (Occurrence.clip 7).cls ≠ .system ∧
    (answered.mga.responses ≠ [] ∧ answered.mga.events = [] ∧ answered.mga.run < answered.mga.ratio) ∧
    ((classed .each false 1).responses = [] ∧ (classed .each false 1).events ≠ []) ∧
    ({ answered.mga with run := 4 }).run = ({ answered.mga with run := 4 }).ratio := by
  decide +kernel

theorem witness_GeneratorOutputs :
    (held.gen 0).enable = false ∧ held.mga.phase ≠ .running ∧ (cadence.gen 2).mode = .oneshot ∧
    (cadence.gen 2).running = false ∧ (cadence.gen 0).enable = true ∧ (cadence.gen 0).mode ≠ .oneshot ∧
    cadence.mga.phase = .running ∧ (cadence.gen 0).pair = false ∧ (cadence.gen 0).running = true := by decide +kernel

/-- Line 5 rings at position 2, whose key 0 names it; generator 0, the line's ring_cg, runs. -/
def ringsAt : State :=
  let s := ringing .stopped
  { s with
    psc := { s.psc with keyMap := s.psc.keyMap.set (keyIndex 2 0) { action := .line 5, colour := .green } }
    cdu := { s.cdu with gens := s.cdu.gens.set 0 { Gen.reset with enable := true, running := true } } }

theorem witness_MixListsFormed :
    held.mga.phase ≠ .running ∧ call.mga.phase = .running ∧ call.online 2 = true ∧
    call.connAt 2 .left = some (conn 2 .left) ∧ call.connAt 3 .left = none ∧ offline.online 2 = false ∧
    monitored.online 2 = true ∧ monitored.assign 2 1 = .line 5 ∧
    monitored.connAt 2 (.spk 1) = some (conn 2 (.spk 1)) ∧ (call.line 5).cfg.kind.isWire = true ∧
    idle.lineConns 5 = [] ∧ ringsAt.ringLine 2 = some 5 ∧
    ringsAt.delivered (ringsAt.line 5).cfg.ringCg = true ∧ idle.ringLine 2 = none := by decide +kernel

/-- A speaker channel on group 3, with position 4 talking and line 5 a leg. -/
def onGroup : State :=
  { leg true with psc := { (leg true).psc with assigns := (leg true).psc.assigns.set (assignIndex 2 1) (.group 3) } }

/-- Group and line audio at speakers, legs and recorder slots, and the closings of a mix frame. -/
theorem witness_MixListsFormed_groups_and_slots :
    onGroup.online 2 = true ∧ onGroup.assign 2 1 = .group 3 ∧ onGroup.assign 2 2 = .none ∧
    (onGroup.group 3).cfg.enabled = true ∧ (onGroup.line 5).cfg.kind = .hootLeg ∧ (onGroup.line 5).state = .active ∧
    (recordedCall.chan 0).state = .recording ∧ (recordedCall.chan 0).target = some (.line 5) ∧
    (recordedGroup.chan 0).state = .recording ∧ (recordedGroup.chan 0).target = some (.group 3) ∧
    (recordedCall.chan 1).state ≠ .recording ∧ (∀ c : ChanNo, (recordedCall.chan c).state ≠ .closing) ∧
    ((closing false []).portUp recPort = false ∧ ((closing false []).chan 1).state = .closing ∧
      ((closing false []).chan 1).closeCount ≤ 1) ∧
    (let s := (closing true []).setChan 2 { state := .closing, target := some (.line 9), segment := 4, closeCount := 80 };
      (s.chan 2).state = .closing ∧ 1 < (s.chan 2).closeCount) := by decide +kernel

/-- A recorded group with a leg, whose leg_gain is not 16384: the leg is recorded at 16384 all the same (R99). -/
theorem witness_MixListsFormed_recorded_leg :
    let g := (onGroup.group 3)
    let s := { onGroup.setGroup 3 { g with cfg := { g.cfg with legGain := 8192 } } with rcu := recordedGroup.rcu }
    s.mga.phase = .running ∧ (s.chan 0).state = .recording ∧ (s.chan 0).target = some (.group 3) ∧ s.legs 3 = [5] ∧
    (s.group 3).cfg.legGain = 8192 ∧
    s.recordFar (.group 3) = [{ sample := (s.lif.far[5]).toInt, gain := 16384, ducked := false }] := by decide +kernel

/-- Thirty-two contributions of the largest magnitude. -/
def loudest : List Contribution := List.replicate 32 { sample := -32768, gain := 32767, ducked := false }

theorem witness_OutputsComputed :
    loudest.length ≤ 32 ∧ (∀ c ∈ loudest, -32768 ≤ c.sample ∧ c.sample ≤ 32767 ∧ c.gain ≤ 32767) ∧
    call.mixList (.ear 2 .left) ≠ [] ∧ idle.mixList (.ear 2 .left) = [] := by decide +kernel

theorem witness_PoliciesResolved :
    (call.lineSide 5).1 ≠ .never ∧ call.lineConns 5 ≠ [] ∧ idle.lineConns 5 = [] ∧
    (({ call with prs := { call.prs with defaultCode := .never } }).lineSide 5).1 = .never := by decide +kernel

/-- The four cases of the line-side code, two ranges of one code and one that ranks higher, and a recorded group. -/
theorem witness_PoliciesResolved_tables_and_groups :
    let ranged := fun c : PolicyCode => ({ idle.prs with
      ranges := (idle.prs.ranges.set 2 { enabled := true, code := .best, first := 0, last := 7 }).set 5
        { enabled := true, code := c, first := 7, last := 7 } } : Prs)
    (0 : Fin 64).val = (7 : LineNo).val / 8 ∧ idle.prs.tablesEnabled = true ∧ idle.prs.fixed[(0 : Fin 64)] = none ∧
    (∀ n : Fin 8, (idle.prs.ranges[n]).enabled = false) ∧
    (idle.prs.fixedEnabled = true ∧ (idle.prs.fixed.set 0 (some .never))[(0 : Fin 64)] = some .never) ∧
    (∀ c ∈ [PolicyCode.best, .never], ∀ n ∈ [(2 : Fin 8), 5],
      ((ranged c).ranges[n]).enabled = true ∧ ((ranged c).ranges[n]).first ≤ (7 : LineNo) ∧
      (7 : LineNo) ≤ ((ranged c).ranges[n]).last) ∧
    (idle.group 3).talkers = [] ∧ ((talking 0 [entry 4] []).group 3).talkers ≠ [] ∧
    ((talking 0 [entry 4] []).group 3).cfg.recordCode = .never ∧
    ((recorded .best true).group 3).cfg.recordCode ≠ .never := by decide +kernel

/-! ### States for the wider clauses -/

/-- The laws at the running shelf with line 5 as given and without connections. -/
theorem bare_laws (r : LineRec) (h : r.totals = { unheld := 0, held := 0, speaker := 0 }) :
    (shelf .running r [] .none).connectionsLawful ∧ (shelf .running r [] .none).totalsReported :=
  ⟨shelf_lawful _ _ _ _ (by decide) (by decide) (fun e => absurd rfl e),
    shelf_totals _ _ _ _ (by decide) (by rw [h]; simp [State.totalsNow, State.monitors, shelf_lineConns])⟩

/-- No speaker channel of a shelf is assigned, so no monitor is due. -/
theorem shelf_noMonitorDue (ph : Phase) (r : LineRec) (cs : List Conn) (n : Need) (l : LineNo) :
    (shelf ph r cs n).noMonitorDue l := by
  intro p c h
  rw [State.assign, shelf_assign] at h
  cases h

/-- Line 5, ringing unanswered, one step before its hang timer expires. -/
def hanging : State :=
  shelf .running { record .ard .unanswered .idle 0 0 with hang := .running 1 } [] .none

/-- A shelf on which line 5 is UNUSED, with the far signal kept while it was. -/
def unused (far : FarSignal) : State := shelf .running (record .unused .disabled far 0 0) [] .none

/-- Line 5 in IDLE, with a far signal that came while it was of another kind. -/
def resting (kind : LineKind) (far : FarSignal) : State := shelf .running (record kind .idle far 0 0) [] .none

/-- The same state with speaker channel 1 of position 2 assigned to line 5. -/
def withMonitor (s : State) : State :=
  { s with psc := { s.psc with assigns := s.psc.assigns.set (assignIndex 2 1) (.line 5) } }

/-- With no other assignment, the one of `withMonitor` keeps the laws of the connection table. -/
theorem withMonitor_lawful (s : State) (h : s.connectionsLawful) (none : s.psc.assigns = Vector.replicate 256 .none)
    (handsets : ∀ c ∈ s.cxm.conns, c.place.isHandset = true) : (withMonitor s).connectionsLawful := by
  obtain ⟨h1, h2, _, h4, h5, h6⟩ := h
  refine ⟨h1, h2, ?_, fun l => ⟨(h4 l).1, (h4 l).2.1, ?_⟩, h5, h6⟩
  · intro c hc k hk
    have := handsets c hc
    rw [hk] at this
    cases this
  · have hl : ((Vector.replicate 256 Assign.none).set (assignIndex 2 1) (.line 5)).toList =
        List.replicate 17 .none ++ [.line 5] ++ List.replicate 238 .none := by decide +kernel
    simp only [State.assignments, withMonitor, none, hl, List.filter_append, List.filter_replicate, reduceCtorEq,
      decide_false, Bool.false_eq_true, if_false, List.nil_append, List.append_nil]
    exact Nat.le_trans (List.length_filter_le _ _) (by decide)

/-- Group 3 is recorded at BEST. Position 4 talks and position 5, whose record_mode is COMPLIANCE, waits, so that its
promotion asks for a channel. -/
def complying (limit : Nat) : State :=
  let s := recorded .best true
  let t := s.setPosition 5 { s.position 5 with cfg := { (s.position 5).cfg with recordMode := .compliance } }
  { t.setGroup 3 { t.group 3 with
      cfg := { (t.group 3).cfg with talkerLimit := limit, maxTalk := 1 }, talkers := [entry 4], waits := [entry 5] } with
    cdu := { Cdu.reset with clock := 100 } }

/-- Position 2 has line 7 at its left handset, and position `q` has line 5 at `place`. -/
def busy (q : PosNo) (place : Place) : State :=
  let unheld := if place.isUnheld then 1 else 0
  let s := shelf .running (record .ard (if place.isUnheld then .active else .held) .answer unheld (1 - unheld)) [] .best
  { s.setLine 7 (record .ard .active .answer 1 0) with
    cxm := { s.cxm with conns := [{ conn 2 .left with line := 7 }, conn q place] } }

theorem busy_lineConns (q : PosNo) (place : Place) (l : LineNo) : (busy q place).lineConns l =
    if l = 5 then [conn q place] else if l = 7 then [{ conn 2 .left with line := 7 }] else [] := by
  by_cases h5 : l = 5
  · subst h5; rfl
  · by_cases h7 : l = 7
    · subst h7; rfl
    · have e5 : ¬ (5 : LineNo) = l := fun e => h5 e.symm
      have e7 : ¬ (7 : LineNo) = l := fun e => h7 e.symm
      simp [State.lineConns, busy, conn, h5, h7, e5, e7]

theorem busy_line (q : PosNo) (place : Place) (l : LineNo) (h5 : l ≠ 5) (h7 : l ≠ 7) :
    (busy q place).line l = LineRec.reset := by
  have e5 : ¬ (5 : Nat) = l.val := fun e => h5 (Fin.ext e.symm)
  have e7 : ¬ (7 : Nat) = l.val := fun e => h7 (Fin.ext e.symm)
  simp [State.line, State.setLine, busy, shelf, State.reset, State.atReset, Lnc.reset, e5, e7]

theorem busy_laws : ∀ x ∈ [((2 : PosNo), Place.right), (2, .hold), (3, .hold)],
    (busy x.1 x.2).connectionsLawful ∧ (busy x.1 x.2).totalsReported := by
  intro x hx
  have lines : ∀ l : LineNo, l ≠ 5 → l ≠ 7 → (busy x.1 x.2).lineConns l = [] := by
    intro l h5 h7; rw [busy_lineConns, if_neg h5, if_neg h7]
  refine ⟨⟨?_, ?_, ?_, ?_, ?_, ?_⟩, ?_⟩
  · revert x; decide +kernel
  · revert x; decide +kernel
  · revert x; decide +kernel
  · intro l
    refine ⟨?_, ?_, ?_⟩
    · refine Nat.le_trans (List.length_filter_le _ _) ?_
      rw [busy_lineConns]; split <;> [skip; split] <;> simp
    · refine Nat.le_trans (List.length_filter_le _ _) ?_
      rw [busy_lineConns]; split <;> [skip; split] <;> simp
    · simp only [State.assignments, busy, State.setLine, shelf, State.reset, State.atReset, Psc.reset,
        Vector.toList_replicate, List.filter_replicate, reduceCtorEq, decide_false, Bool.false_eq_true, if_false,
        List.length_nil, Nat.zero_le]
  · intro l hl
    by_cases h5 : l = 5
    · subst h5; revert x; decide +kernel
    · by_cases h7 : l = 7
      · subst h7; revert x; decide +kernel
      · exact lines l h5 h7
  · intro p
    refine Nat.le_trans (List.length_filter_le _ _) ?_
    exact (by decide : 2 ≤ 8)
  · intro l
    by_cases h5 : l = 5
    · subst h5; revert x; decide +kernel
    · by_cases h7 : l = 7
      · subst h7; revert x; decide +kernel
      · rw [busy_line _ _ l h5 h7]
        simp [State.totalsNow, State.monitors, lines l h5 h7, LineRec.reset]

/-! ### States that meet the hypotheses of the wider clauses -/

/-- An answer timer, a hang timer and a guard timer due at the next step, and a talker past its max_talk. -/
theorem witness_CadenceStepCountsDown_due :
    (calling.switching ∧ calling.connectionsLawful ∧ calling.totalsReported ∧ (calling.line 5).state = .callingOut ∧
      (calling.line 5).cfg.kind = .ard ∧ calling.lineConns 5 ≠ [] ∧ (calling.line 5).answer.due = true ∧
      (calling.line 5).ring.due = false ∧ (calling.line 5).hang.due = false ∧ (calling.line 5).guard.due = false) ∧
    (hanging.switching ∧ (hanging.line 5).state = .unanswered ∧ (hanging.line 5).hang.due = true ∧
      (hanging.line 5).ring.due = false ∧ (hanging.line 5).answer.due = false ∧ (hanging.line 5).guard.due = false) ∧
    (∀ mode mark, let s := faulted mode mark (.running 1);
      s.switching ∧ s.connectionsLawful ∧ (s.line 5).state = .fault ∧ (s.line 5).guard.due = true ∧
      (s.line 5).ring = .stopped ∧ (s.line 5).answer = .stopped ∧ (s.line 5).hang = .stopped ∧
      (s.line 5).ringPending = none ∧ (s.line 5).cfg.faultMode = mode ∧ (s.line 5).faultClear = mark) ∧
    (let s := { talking 1 [entry 4] [entry 5] with cdu := { Cdu.reset with clock := 99 } };
      s.switching ∧ (s.group 3).cfg.maxTalk ≠ 0 ∧ entry 4 ∈ (s.group 3).talkers ∧
      (s.group 3).cfg.maxTalk * 100 ≤ (s.cdu.clock + 1 - (entry 4).stamp).toNat ∧ (s.group 3).waits ≠ [] ∧
      ∀ p : PosNo, s.mandatoryWith 3 [p] = false) := by
  refine ⟨⟨⟨rfl, rfl⟩, shelf_lawful _ _ _ _ (by decide) (by decide) (by decide),
    shelf_totals _ _ _ _ (by decide) (by decide +kernel), by decide +kernel⟩, ⟨⟨rfl, rfl⟩, by decide +kernel⟩,
    fun mode mark => ⟨⟨rfl, rfl⟩, (bare_laws _ rfl).1, ?_⟩, ⟨rfl, rfl⟩, by decide +kernel⟩
  simp [faulted, shelf_line, record, LineRec.reset, Timer.due]

/-- A burst whose generator delivers and one whose generator does not, and each state without a burst. -/
theorem witness_FramePeriodSendsAndCounts_signals :
    (held.mga.phase ≠ .running ∧ (bursting (some 1) true).mga.phase = .running) ∧
    (((bursting (some 1) true).line 5).ringPending = some 1 ∧ (bursting (some 1) true).delivered 1 = false) ∧
    (let s := (bursting (some 1) true).setGen 1 { Gen.reset with enable := true, running := true };
      (s.line 5).ringPending = some 1 ∧ s.delivered 1 = true) ∧
    (∀ x ∈ [LineState.disabled, .idle, .ringingIn, .unanswered, .callingOut, .active, .held, .fault],
      ((resting .ard .idle).setLine 5 (record .ard x .idle 0 0)).mga.phase = .running ∧
      (((resting .ard .idle).setLine 5 (record .ard x .idle 0 0)).line 5).state = x ∧
      (((resting .ard .idle).setLine 5 (record .ard x .idle 0 0)).line 5).ringPending = none) ∧
    (calling.line 5).answer ≠ .expired ∧ (calling.line 5).state = .callingOut ∧
    ((calling.setLine 5 { calling.line 5 with answer := .expired }).line 5).answer = .expired := by decide +kernel

/-- Promotions whose check asks for a channel, and a release of a talker of a group that is bound. -/
theorem witness_promotions_that_ask :
    (let s := complying 1;
      s.switching ∧ (s.group 3).cfg.maxTalk ≠ 0 ∧
      (s.group 3).talkers.filter
        (fun e => decide ((s.group 3).cfg.maxTalk * 100 ≤ (s.cdu.clock - e.stamp).toNat)) = [entry 4] ∧
      s.boundChan (.group 3) = none ∧ s.allocatable = some 0 ∧ s.mandatoryWith 3 [] = false ∧
      s.mandatoryWith 3 ((s.promoted 3 1 [] (s.group 3).waits).1.map fun e => e.pos) = true ∧
      (s.group 3).talkers.find? (fun x => x.pos = 4) = some (entry 4)) ∧
    (let s := complying 2;
      s.switching ∧ (s.chan 1).state = .closing ∧ s.portUp recPort = true ∧ s.rcu.waiting = [] ∧
      (s.setChan 1 { s.chan 1 with state := .stopped, target := none, closeCount := 0 }).lowestStopped = some 0 ∧
      (s.group 3).cfg.enabled = true ∧ (s.group 3).talkers.length < (s.group 3).cfg.talkerLimit ∧
      (s.group 3).waits = [entry 5] ∧ (∀ g : GroupNo, g < 3 → (s.group g).waits = []) ∧
      s.boundChan (.group 3) = none ∧ s.mandatoryWith 3 [4] = false ∧ s.mandatoryWith 3 [4, 5] = true) ∧
    (let s := complying 1;
      s.serving ∧ (s.group 3).cfg.talkerLimit < max 1 (min (2 : Byte).toNat 4) ∧
      (s.group 3).talkers.length ≤ (s.group 3).cfg.talkerLimit ∧
      ((s.promoted 3 2 (s.group 3).talkers (s.group 3).waits).1.map fun e => e.pos) = [4, 5]) ∧
    (let s := recordedGroup.setGroup 3 { recordedGroup.group 3 with talkers := [entry 4] };
      s.switching ∧ (s.group 3).talkers.find? (fun x => x.pos = 4) = some (entry 4) ∧
      s.boundChan (.group 3) = some 0 ∧ s.keptNeed (.group 3) ≠ .none) := by
  unfold State.switching State.serving State.awake; decide +kernel

/-- A check that fails, one that takes a channel, and a group at BEST whose need rises beside a channel and without one. -/
theorem witness_TalkRequestOutcomes_recording :
    (let s := recorded .mandatory false;
      s.online 2 = true ∧ (s.group 3).cfg.enabled = true ∧ (s.group 3).talks 2 = false ∧ (s.group 3).waitsFor 2 = false ∧
      (2 : PosNo) ∉ (s.group 3).marks ∧ s.checkFails 3 ((s.group 3).talkers.map (fun x => x.pos) ++ [2]) = true) ∧
    (let s := recorded .mandatory true;
      s.switching ∧ s.checkFails 3 ((s.group 3).talkers.map (fun x => x.pos) ++ [2]) = false ∧
      s.mandatoryWith 3 ((s.group 3).talkers.map (fun x => x.pos) ++ [2]) = true ∧ s.boundChan (.group 3) = none ∧
      s.allocatable = some 0 ∧ (s.group 3).talkers.length < (s.group 3).cfg.talkerLimit) ∧
    (∀ up : Bool, let s := recorded .best up;
      let t := next (exec (.talkRequest 2 3 .normal 7) s);
      s.switching ∧ s.mandatoryWith 3 ((s.group 3).talkers.map (fun x => x.pos) ++ [2]) = false ∧
      s.allocatable = (if up then some 0 else none) ∧ s.boundChan (.group 3) = none ∧ s.isWaiting (.group 3) = false ∧
      s.keptNeed (.group 3) = .none ∧ t.needNow (.group 3) = .best) ∧
    (let s := complying 1;
      (s.group 3).cfg.talkerLimit ≤ (s.group 3).talkers.length ∧
      (s.group 3).talkers.find? (fun x => x.cls = .normal) = some (entry 4)) := by
  unfold State.switching State.awake; decide +kernel

/-- A busy handset: a move, a retrieve and a pickup while the handset carries line 7. -/
theorem witness_LineRequestMovesRetrievesPicksUp_busy :
    (∀ x ∈ [((2 : PosNo), Place.right), (2, .hold), (3, .hold)],
      (busy x.1 x.2).connectionsLawful ∧ (busy x.1 x.2).totalsReported) ∧
    (∀ x ∈ [((2 : PosNo), Place.right), (2, .hold), (3, .hold)],
      (busy x.1 x.2).switching ∧ (busy x.1 x.2).online 2 = true ∧
      (busy x.1 x.2).connAt 2 .left = some { conn 2 .left with line := 7 } ∧
      ((busy x.1 x.2).line 7).cfg.kind.isWire = true ∧ ((busy x.1 x.2).line 7).state = .active) ∧
    (busy 2 .right).connOn 2 5 (handsetPlace (otherHandset .left)) = some (conn 2 .right) ∧
    ((busy 2 .hold).connOn 2 5 (handsetPlace (otherHandset .left)) = none ∧
      (busy 2 .hold).connOn 2 5 .hold = some (conn 2 .hold)) ∧
    (let s := busy 3 .hold;
      (∀ x ∈ s.cxm.conns, x.pos = 2 → x.line = 5 → x.place.isHandset = false) ∧
      (∀ x ∈ s.cxm.conns, x.line = 5 → x.place.isUnheld = false) ∧ (s.bridge 5).head? = some (conn 3 .hold) ∧
      (s.line 5).cfg.kind.isWire = true ∧ (s.line 5).state = .held ∧ (s.line 5).totals.allHeld = true ∧
      s.cxm.privacy[(5 : LineNo)] = false ∧ s.linePolicyWith 5 2 (some (conn 3 .hold)) ≠ .mandatory) :=
  ⟨busy_laws, by unfold State.switching State.awake; decide +kernel, by decide +kernel, by decide +kernel,
    by decide +kernel⟩

/-- Pickups that are denied: the line is private to its holder, or MANDATORY without a channel. -/
theorem witness_LineRequestMovesRetrievesPicksUp_denied :
    (∀ c ∈ heldCall.cxm.conns, c.pos = 3 → c.line = 5 → c.place.isHandset = false) ∧
    (∀ c ∈ heldCall.cxm.conns, c.line = 5 → c.place.isUnheld = false) ∧
    (heldCall.bridge 5).head? = some (conn 2 .hold) ∧ (heldCall.line 5).state ≠ .fault ∧
    ({ heldCall with cxm := { heldCall.cxm with privacy := heldCall.cxm.privacy.set 5 true } }).share 5 = .exclusive 2 ∧
    (let s : State := { heldCall with
        lif := { heldCall.lif with ports := heldCall.lif.ports.set 8 Port.reset }
        prs := { heldCall.prs with defaultCode := .mandatory } };
      s.switching ∧ s.online 3 = true ∧ s.share 5 = .sole ∧ s.linePolicyWith 5 3 (some (conn 2 .hold)) = .mandatory ∧
      s.boundChan (.line 5) = none ∧ s.allocatable = none) := by
  unfold State.switching State.awake; decide +kernel

/-- A line leaves UNUSED with no fault condition, without a monitor due and with one. -/
theorem witness_WriteLineCfg_leaves_unused :
    (∀ far, far ≠ .loss → (unused far).serving ∧ (unused far).mga.phase = .running ∧
      ((unused far).line 5).cfg.kind = .unused ∧ ((unused far).line 5).state = .disabled ∧
      (unused far).faultCondition 5 = false ∧ (unused far).lineConns 5 = [] ∧ (unused far).noMonitorDue 5) ∧
    ((withMonitor (unused .idle)).totalsReported ∧ ¬ (withMonitor (unused .idle)).noMonitorDue 5) := by
  refine ⟨fun far hf => ⟨⟨rfl, nofun, (by decide : 0 < 16)⟩, rfl, by simp [unused, shelf_line, record],
    by simp [unused, shelf_line, record], ?_, rfl, shelf_noMonitorDue _ _ _ _ _⟩,
    shelf_totals .running (record .unused .disabled .idle 0 0) [] .none (by decide) (by decide +kernel), fun h => ?_⟩
  · cases far <;> first | exact absurd rfl hf | decide +kernel
  · have := h 2 1 (by decide +kernel)
    revert this
    decide +kernel

/-- A change of kind or group in IDLE, and a line set to UNUSED from IDLE, running and held. -/
theorem witness_WriteLineCfg_idle :
    (∀ kind ∈ [LineKind.ard, .mrd, .hootLeg], ∀ far ∈ [FarSignal.idle, .calling],
      (resting kind far).mga.phase = .running ∧ ((resting kind far).line 5).cfg.kind = kind ∧
      ((resting kind far).line 5).state = .idle ∧ (resting kind far).faultCondition 5 = false ∧
      (resting kind far).lineConns 5 = []) ∧
    (resting .ard .idle).serving ∧ (resting .ard .loss).faultCondition 5 = true ∧ (resting .ard .loss).lineConns 5 = [] ∧
    held.serving ∧ held.mga.phase = .held ∧ (held.line 5).state = .idle ∧ held.lineConns 5 = [] ∧
    (lineCfg .mrd 3).kind ≠ .hootLeg ∧ (lineCfg .hootLeg 3).group = (3 : GroupNo) := by
  unfold State.serving State.awake; decide +kernel

/-- A line in FAULT that stays, one that leaves, and one that leaves with a monitor due. -/
theorem witness_WriteLineCfg_fault :
    (∀ mode mark guard, (faulted mode mark guard).serving ∧ (faulted mode mark guard).mga.phase = .running ∧
      ((faulted mode mark guard).line 5).cfg.kind = .ard ∧ ((faulted mode mark guard).line 5).state = .fault ∧
      ((faulted mode mark guard).line 5).guard = guard ∧ ((faulted mode mark guard).line 5).faultClear = mark ∧
      (faulted mode mark guard).lineConns 5 = [] ∧ (faulted mode mark guard).noMonitorDue 5) ∧
    (lineCfg .ard 3).faultMode = .latched ∧
    ((withMonitor (faulted .latched true .expired)).totalsReported ∧
      ¬ (withMonitor (faulted .latched true .expired)).noMonitorDue 5) := by
  refine ⟨fun mode mark guard => ⟨⟨rfl, nofun, (by decide : 0 < 16)⟩, rfl, by simp [faulted, shelf_line, record],
    by simp [faulted, shelf_line, record], by simp [faulted, shelf_line], by simp [faulted, shelf_line], rfl,
    shelf_noMonitorDue _ _ _ _ _⟩, rfl,
    shelf_totals .running (LineRec.mk _ _ _ _ _ _ _ _ _ _) [] .none (by decide) (by decide +kernel), fun h => ?_⟩
  have := h 2 1 (by decide +kernel)
  revert this
  decide +kernel

/-- A monitor due on the line that an answer timer's expiry or a FORCE_RELEASE clears. -/
theorem witness_lines_cleared_with_a_monitor_due : ∀ s ∈ [calling, call],
    (withMonitor s).connectionsLawful ∧ (withMonitor s).totalsReported ∧ (withMonitor s).switching ∧
    (withMonitor s).serving ∧ (withMonitor s).lineConns 5 ≠ [] ∧ (withMonitor s).assign 2 1 = .line 5 ∧
    (withMonitor s).online 2 = true ∧ ((withMonitor calling).line 5).state = .callingOut ∧
    ((withMonitor calling).line 5).answer = .running 1 ∧ ((withMonitor calling).line 5).cfg.kind = .ard := by
  have laws : ∀ s ∈ [calling, call], s.connectionsLawful ∧ s.totalsReported := by
    intro s hs
    simp only [List.mem_cons, List.not_mem_nil, or_false] at hs
    rcases hs with rfl | rfl
    · exact ⟨shelf_lawful _ _ _ _ (by decide) (by decide) (by decide), shelf_totals _ _ _ _ (by decide) (by decide +kernel)⟩
    · exact ⟨call_laws.2.2.1, call_laws.2.2.2.1⟩
  have handsets : ∀ s ∈ [calling, call], ∀ c ∈ s.cxm.conns, c.place.isHandset = true := by decide +kernel
  have rest : ∀ s ∈ [calling, call], (withMonitor s).switching ∧ (withMonitor s).serving ∧
      (withMonitor s).lineConns 5 ≠ [] ∧ (withMonitor s).assign 2 1 = .line 5 ∧ (withMonitor s).online 2 = true ∧
      ((withMonitor calling).line 5).state = .callingOut ∧ ((withMonitor calling).line 5).answer = .running 1 ∧
      ((withMonitor calling).line 5).cfg.kind = .ard := by
    unfold State.switching State.serving State.awake; decide +kernel
  have assigns : ∀ s ∈ [calling, call], s.psc.assigns = Vector.replicate 256 .none := by
    intro s hs
    simp only [List.mem_cons, List.not_mem_nil, or_false] at hs
    rcases hs with rfl | rfl <;> rfl
  exact fun s hs => ⟨withMonitor_lawful s (laws s hs).1 (assigns s hs) (handsets s hs), (laws s hs).2, rest s hs⟩

/-- A speaker channel on a line that it has no connection to. -/
theorem witness_MixListsFormed_unconnected : (withMonitor idle).online 2 = true ∧ (withMonitor idle).assign 2 1 = .line 5 ∧
    (withMonitor idle).connAt 2 (.spk 1) = none := by decide +kernel

/-! ### The manual's worked numbers -/

/-- The worked example of spec/05, section 5.4: two contributions at unity and one at a half. -/
def worked (ducked : Bool) : List Contribution :=
  [{ sample := 20000, gain := 16384, ducked := ducked }, { sample := 15000, gain := 16384, ducked := ducked },
    { sample := -4000, gain := 8192, ducked := ducked }]

/-- spec/05, 5.4: through volume 14000, clamped at unity, and ducked with D = 4096. -/
theorem test_worked_mix : mixSum (worked false) 8192 = 540672000 ∧ mixSample (worked false) 8192 14000 = 28198 ∧
    mixClips (worked false) 8192 14000 = false ∧ mixSample (worked false) 8192 16384 = 32767 ∧
    mixClips (worked false) 8192 16384 = true ∧ mixSample (worked true) 4096 16384 = 8250 := by decide +kernel

/-- spec/05, 5.4, the table of rounding cases. -/
theorem test_rounding : roundScale (-8193) = -1 ∧ roundScale (-8192) = 0 ∧ roundScale 8191 = 0 ∧ roundScale 8192 = 1 := by
  decide +kernel

/-- spec/07, 7.6: the tables of the worked sequence. -/
def policies : State :=
  { idle with prs := { idle.prs with
      defaultCode := .onDemand
      fixed := idle.prs.fixed.set 6 (some .mandatory)
      ranges := ((idle.prs.ranges.set 0 { enabled := true, code := .best, first := 32, last := 63 }).set 1
        { enabled := true, code := .never, first := 44, last := 45 }).set 2
        { enabled := false, code := .mandatory, first := 40, last := 47 } } }

theorem test_line_side_codes : policies.lineSide 44 = (.never, .range 1) ∧ policies.lineSide 41 = (.best, .range 0) ∧
    policies.lineSide 50 = (.mandatory, .fixed 6) ∧ policies.lineSide 70 = (.onDemand, .default) := by decide +kernel

/-- spec/10, R190: lane ratio 2, responses 11 to 15 and two events; the tags sent in two frames (none for an event). -/
def laneOfTwo : Mga :=
  let e : EventCell := { what := .ready, stamp := 0, lost := false }
  let r : U16 → Response := fun tag => { kind := 1, tag := tag, code := .ok, overrun := false, data := [] }
  { Mga.reset with ratio := 2, responses := [r 11, r 12, r 13, r 14, r 15], events := [e, e] }

def laneTag : OutCell → Option U16
  | .response r => some r.tag
  | .event _ => none

theorem test_lane_of_two :
    (Mga.lane 4 laneOfTwo).1.map laneTag = [some 11, some 12, none, some 13] ∧ (Mga.lane 4 laneOfTwo).2.run = 1 ∧
    (Mga.lane 4 (Mga.lane 4 laneOfTwo).2).1.map laneTag = [some 14, none, some 15] := by decide +kernel

/-! ### One step of a command -/

/-- R9: an ARD line is seized and its answer timer starts; R139, R150: its need is BEST, so channel 0 records it. -/
theorem test_seize_ard :
    let t := next (exec (.lineRequest 2 .left 5 7) idle)
    (t.line 5).state = .callingOut ∧ t.outSignal 5 = .calling ∧ (t.line 5).answer = .running 2000 ∧
    t.cxm.conns = [conn 2 .left] ∧ t.chan 0 = { state := .recording, target := some (.line 5), segment := 1, closeCount := 0 } := by
  decide +kernel

/-- R13, R65: the only handset connection is put on hold. -/
theorem test_hold_request :
    let t := next (exec (.holdRequest 2 .left 7) call)
    (t.line 5).state = .held ∧ t.cxm.conns = [conn 2 .hold] ∧ t.holdSlots 2 = 1 := by decide +kernel

/-- R64: position 3 picks the held line up from position 2. -/
theorem test_pickup :
    let t := next (exec (.lineRequest 3 .right 5 7) heldCall)
    (t.line 5).state = .active ∧ t.cxm.conns = [conn 3 .right] := by decide +kernel

/-- R13: the far end is still off-hook when the last connection goes, so the line rings in again. -/
theorem test_release_rings_in :
    let t := next (exec (.releaseRequest 2 .left 7) call)
    (t.line 5).state = .ringingIn ∧ t.cxm.conns = [] ∧ (t.line 5).ring = .running 3000 := by decide +kernel

/-- R43: a RELEASE key with no line on the handset is denied NO_LINE for 1 s. -/
theorem test_release_denied :
    ((next (exec (.releaseRequest 2 .left 7) idle)).position 2).denial = some { key := 7, reason := .noLine, left := 100 } := by
  decide +kernel

/-- R58: privacy on the only connection, and its removal by a second press. -/
theorem test_privacy_twice :
    let t := next (exec (.privacyToggle 2 .left 7) call)
    t.share 5 = .exclusive 2 ∧ (next (exec (.privacyToggle 2 .left 7) t)).share 5 = .sole := by decide +kernel

/-- R10: the ring timer expires. -/
theorem test_ring_timer_expiry :
    (next (exec (.ringTimerExpiry 5) (ringing .stopped))).line 5 =
      { (ringing .stopped).line 5 with state := .unanswered, ring := .stopped } := by decide +kernel

/-- R118: with the limit at 1, OVERRIDE takes the place of NORMAL, which is queued again. -/
theorem test_talk_preempts :
    let t := next (exec (.talkRequest 6 3 .override 7) (talking 0 [entry 4] []))
    (t.group 3).talkers.map (·.pos) = [6] ∧ (t.group 3).waits.map (·.pos) = [4] := by decide +kernel

/-- R120: the only talker releases, and the waiting position is promoted. -/
theorem test_talk_release_promotes :
    let t := next (exec (.talkRelease 4 3) (talking 0 [entry 4] [entry 5]))
    (t.group 3).talkers.map (·.pos) = [5] ∧ (t.group 3).waits = [] := by decide +kernel

/-- R21: gains above 32767 and a guard above its range are clamped. -/
theorem test_write_line_cfg_clamps :
    let e : LineEntry := { kind := 2, privacyDefault := 0, rxGain := 40000, txGain := 16384, ringCg := 0, burstCg := 1
                           ringTimeout := 30, answerTimeout := 0, ringHang := 0, faultMode := 0, faultGuard := 50, group := 0 }
    let t := next (exec (.writeLineCfg 77 300 e) held)
    (t.line 300).cfg.kind = .mrd ∧ (t.line 300).cfg.rxGain = 32767 ∧ (t.line 300).state = .idle ∧
    t.mga.responses.map (fun r => (r.tag, r.code)) = [(77, .okClamped)] := by decide +kernel

/-- R79, R81, R82: generator 0 wraps: generator 1 follows it and the waiting ONESHOT generator 2 starts. -/
theorem test_wrap_passes_on :
    let t := next (exec (.generatorWrap 0) cadence)
    (t.gen 0).phase = 0 ∧ (t.gen 0).running = true ∧ (t.gen 1).phase = 0 ∧ (t.gen 2).running = true ∧
    (t.gen 2).phase = 0 := by decide +kernel

/-- R6, R10, R11: at one step the ring timer expires and the hang timer counts on into UNANSWERED. -/
theorem test_ring_expires_hang_runs_on :
    let s := ringing (.running 2)
    (State.lineExpiries (s.line 5) (s.setLine 5 (s.line 5).tick) 5).line 5 =
      { s.line 5 with state := .unanswered, ring := .stopped, hang := .running 1 } := by decide +kernel

/-- R187: an acknowledged CLIP class is clear, and its withheld occurrence makes an event cell. -/
theorem test_ack_clears :
    let t := next (exec (.ackClass 3 6) (rearmed 0))
    (t.mga.cls .clip).objects = [] ∧ t.mga.events.map (·.what) = [.clip 7] := by decide +kernel

end Sys2Proof.Tests
end

/-! ### What an operation writes

`Does K s t`: the operation that leads from `s` to `t` raises occurrences and otherwise writes only what `K` allows. One
lemma for each operation says its footprint; what the operation leaves as it was is then read off the footprint. -/

namespace Sys2Proof.Machine

/-- A part of the state that the switching blocks' operations write. -/
inductive Touch where
  | psc | gtu | gens | mix | recording | conns | bursts | ticks
  | demand (l : LineNo) | privacy (l : LineNo) | line (l : LineNo) | burst (l : LineNo) | far (l : LineNo)

/-- One elementary update of a part of the state. -/
inductive Update : Touch → State → State → Prop where
  | psc (s : State) (b : Psc) : Update .psc s { s with psc := b }
  | gtu (s : State) (b : Gtu) : Update .gtu s { s with gtu := b }
  | gens (s : State) (v : Vector Gen 16) : Update .gens s { s with cdu := { s.cdu with gens := v } }
  | mix (s : State) (b : Mix) : Update .mix s { s with mix := b }
  | need (s : State) (x : Target) (n : Need) : Update .recording s (s.setKeptNeed x n)
  | rcu (s : State) (b : Rcu) (mode : b.mode = s.rcu.mode) (ready : b.slotReady = s.rcu.slotReady) :
      Update .recording s { s with rcu := b }
  | conns (s : State) (cs : List Conn) : Update .conns s { s with cxm := { s.cxm with conns := cs } }
  | demand (s : State) (l : LineNo) (b : Bool) : Update (.demand l) s (s.setDemand l b)
  | privacy (s : State) (l : LineNo) (b : Bool) : Update (.privacy l) s (s.setPrivacy l b)
  | enter (s : State) (l : LineNo) (new : LineState) : Update (.line l) s (s.setLine l ((s.line l).enter new))
  | timers (s : State) (l : LineNo) (a b c d : Timer) (m : Bool) : Update (.line l) s (s.setLine l { s.line l with
      ring := a, answer := b, hang := c, guard := d, faultClear := m })
  | totals (s : State) (l : LineNo) :
      Update (.line l) s (s.setLine l { s.line l with totals := s.totalsNow l })
  | burst (s : State) (l : LineNo) (b : Option CgNo) :
      Update (.burst l) s (s.setLine l { s.line l with ringPending := b })
  | bursts (s : State) (es : List CgNo) : Update .bursts s (s.endBursts es)
  | ticks (s : State) : Update .ticks s { s with lnc := { s.lnc with lines := s.lnc.lines.map LineRec.tick } }
  | far (s : State) (l : LineNo) (f : FarSignal) : Update (.far l) s (s.setLine l { s.line l with far := f })

/-- Occurrences raised and elementary updates that `K` allows, one after another. -/
inductive Does (K : Touch → Prop) (s : State) : State → Prop where
  | refl : Does K s s
  | note {t : State} (h : Does K s t) (o : Occurrence) : Does K s (t.raise o)
  | step {t u : State} (h : Does K s t) {k : Touch} (hk : K k) (hu : Update k t u) : Does K s u

section
variable {K L : Touch → Prop} {s t u : State}

theorem Does.trans (h : Does K s t) (h' : Does K t u) : Does K s u := by
  induction h' with
  | refl => exact h
  | note _ o ih => exact ih.note o
  | step _ hk hu ih => exact ih.step hk hu

theorem Does.mono (hKL : ∀ k, K k → L k) (h : Does K s t) : Does L s t := by
  induction h with
  | refl => exact .refl
  | note _ o ih => exact ih.note o
  | step _ hk hu ih => exact ih.step (hKL _ hk) hu

theorem Update.does {k : Touch} (h : Update k s t) (hk : K k) : Does K s t := Does.refl.step hk h

theorem Does.ite {a b : State} (p : Prop) [Decidable p] (h : Does K s a) (h' : Does K s b) :
    Does K s (if p then a else b) := by
  split
  · exact h
  · exact h'

theorem Does.foldl {α : Type} (f : State → α → State) (l : List α) (h : ∀ s, ∀ a ∈ l, Does K s (f s a)) (s : State) :
    Does K s (l.foldl f s) := by
  induction l generalizing s with
  | nil => exact .refl
  | cons a l ih => exact (h s a (by simp)).trans (ih (fun s b hb => h s b (by simp [hb])) _)

/-- What every elementary update keeps, and occurrences too, an operation of that footprint keeps. -/
theorem Does.keeps (R : State → State → Prop) (refl : ∀ s, R s s) (trans : ∀ {a b c}, R a b → R b c → R a c)
    (note : ∀ s o, R s (s.raise o)) (update : ∀ k s t, K k → Update k s t → R s t) (h : Does K s t) : R s t := by
  induction h with
  | refl => exact refl s
  | note _ o ih => exact trans ih (note _ o)
  | step _ hk hu ih => exact trans ih (update _ _ _ hk hu)

/-- As `Does.keeps`, for one read of the state. -/
theorem Does.reads {α : Type} (f : State → α) (note : ∀ s o, f (s.raise o) = f s)
    (update : ∀ k s t, K k → Update k s t → f t = f s) (h : Does K s t) : f t = f s :=
  h.keeps (fun a b => f b = f a) (fun _ => rfl) (fun h h' => h'.trans h) note update

end

/-! ### What a footprint leaves as it was -/

theorem endBurst_far (es : List CgNo) (r : LineRec) : (r.endBurst es).far = r.far := by
  unfold LineRec.endBurst; split <;> [split; skip] <;> rfl

section
variable {K : Touch → Prop} {s t : State}

theorem Does.lif (h : Does K s t) : t.lif = s.lif :=
  h.reads State.lif State.raise_lif fun _ _ _ _ hu => by cases hu <;> first | rfl | simp

theorem Does.pending (h : Does K s t) : t.pending = s.pending :=
  h.reads State.pending State.raise_pending fun _ _ _ _ hu => by cases hu <;> first | rfl | simp

theorem Does.clock (h : Does K s t) : t.cdu.clock = s.cdu.clock :=
  h.reads (fun s => s.cdu.clock) (fun _ _ => by simp) fun _ _ _ _ hu => by cases hu <;> first | rfl | simp

theorem Does.psc (h : Does K s t) (hK : ¬ K .psc := by exact id) : t.psc = s.psc :=
  h.reads State.psc State.raise_psc fun _ _ _ hk hu => by cases hu <;> first | exact absurd hk hK | rfl | simp

theorem Does.gtu (h : Does K s t) (hK : ¬ K .gtu := by exact id) : t.gtu = s.gtu :=
  h.reads State.gtu State.raise_gtu fun _ _ _ hk hu => by cases hu <;> first | exact absurd hk hK | rfl | simp

theorem Does.cdu (h : Does K s t) (hK : ¬ K .gens := by exact id) : t.cdu = s.cdu :=
  h.reads State.cdu State.raise_cdu fun _ _ _ hk hu => by cases hu <;> first | exact absurd hk hK | rfl | simp

theorem Does.mix (h : Does K s t) (hK : ¬ K .mix := by exact id) : t.mix = s.mix :=
  h.reads State.mix State.raise_mix fun _ _ _ hk hu => by cases hu <;> first | exact absurd hk hK | rfl | simp

theorem Does.recMode (h : Does K s t) : t.rcu.mode = s.rcu.mode :=
  h.reads (fun s => s.rcu.mode) (fun _ _ => by simp) fun _ _ _ _ hu => by cases hu <;> first | rfl | simp_all

theorem Does.slotReady (h : Does K s t) : t.rcu.slotReady = s.rcu.slotReady :=
  h.reads (fun s => s.rcu.slotReady) (fun _ _ => by simp) fun _ _ _ _ hu => by cases hu <;> first | rfl | simp_all

theorem Does.conns (h : Does K s t) (hK : ¬ K .conns := by exact id) : t.cxm.conns = s.cxm.conns :=
  h.reads (fun s => s.cxm.conns) (fun _ _ => by simp) fun _ _ _ hk hu => by
    cases hu <;> first | exact absurd hk hK | rfl | simp

theorem Does.privacy (h : Does K s t) (l : LineNo) (hK : ¬ K (.privacy l) := by exact id) : t.cxm.privacy[l] = s.cxm.privacy[l] :=
  h.reads (fun s => s.cxm.privacy[l]) (fun _ _ => by simp) fun k s t hk hu => by
    cases hu
    case privacy x b =>
      have : x ≠ l := fun he => hK (he ▸ hk)
      simp [State.setPrivacy, Fin.val_ne_of_ne this]
    all_goals first | rfl | simp

theorem Does.demand (h : Does K s t) (l : LineNo) (hK : ¬ K (.demand l) := by exact id) : t.demand l = s.demand l :=
  h.reads (fun s => s.demand l) (fun _ _ => by simp) fun k s t hk hu => by
    cases hu
    case demand x b =>
      exact State.setDemand_demand_ne _ _ fun he => hK (he ▸ hk)
    case need x n => cases x <;> rfl
    all_goals rfl

/-- A line's record changes by an update of that line, or by one of every line. -/
theorem Does.line (h : Does K s t) (l : LineNo) (hl : ¬ K (.line l)) (hb : ¬ K (.burst l) := by exact id)
    (hf : ¬ K (.far l) := by exact id) (hbs : ¬ K .bursts := by exact id) (ht : ¬ K .ticks := by exact id) :
    t.line l = s.line l :=
  h.reads (fun s => s.line l) (fun _ _ => by simp) fun k s t hk hu => by
    cases hu
    case enter x _ => exact State.setLine_line_ne _ _ fun he => hl (he ▸ hk)
    case timers x _ _ _ _ _ => exact State.setLine_line_ne _ _ fun he => hl (he ▸ hk)
    case totals x => exact State.setLine_line_ne _ _ fun he => hl (he ▸ hk)
    case burst x _ => exact State.setLine_line_ne _ _ fun he => hb (he ▸ hk)
    case far x _ => exact State.setLine_line_ne _ _ fun he => hf (he ▸ hk)
    case bursts => exact absurd hk hbs
    case ticks => exact absurd hk ht
    all_goals first | rfl | simp

theorem Does.lnc (h : Does K s t) (hl : ∀ l, ¬ K (.line l) := by exact fun _ => id)
    (hb : ∀ l, ¬ K (.burst l) := by exact fun _ => id) (hf : ∀ l, ¬ K (.far l) := by exact fun _ => id)
    (hbs : ¬ K .bursts := by exact id) (ht : ¬ K .ticks := by exact id) : t.lnc = s.lnc :=
  h.reads State.lnc State.raise_lnc fun k s t hk hu => by
    cases hu
    case enter x _ => exact absurd hk (hl x)
    case timers x _ _ _ _ _ => exact absurd hk (hl x)
    case totals x => exact absurd hk (hl x)
    case burst x _ => exact absurd hk (hb x)
    case far x _ => exact absurd hk (hf x)
    case bursts => exact absurd hk hbs
    case ticks => exact absurd hk ht
    all_goals first | rfl | simp

/-- Reads of a line's record that neither an entry into a state nor a timer, a burst or a report changes. -/
theorem Does.cfg (h : Does K s t) (l : LineNo) : (t.line l).cfg = (s.line l).cfg :=
  h.reads (fun s => (s.line l).cfg) (fun _ _ => by simp) fun k s t hk hu => by
    cases hu
    case bursts es => simp [State.endBursts, State.line, endBurst_cfg]
    case ticks => simp [State.line, LineRec.tick]
    all_goals first | rfl | (simp; done) | (rw [State.setLine_line_eq]; split <;> simp_all [LineRec.enter])

theorem Does.lineFar (h : Does K s t) (l : LineNo) (hK : ¬ K (.far l) := by exact id) :
    (t.line l).far = (s.line l).far :=
  h.reads (fun s => (s.line l).far) (fun _ _ => by simp) fun k s t hk hu => by
    cases hu
    case far x _ => rw [State.setLine_line_ne]; exact fun he => hK (he ▸ hk)
    case bursts es => simp [State.endBursts, State.line, endBurst_far]
    case ticks => simp [State.line, LineRec.tick]
    all_goals first | rfl | (simp; done) | (rw [State.setLine_line_eq]; split <;> simp_all [LineRec.enter])

/-- A burst that is not pending becomes pending by a burst alone. -/
theorem Does.noBurst (h : Does K s t) (l : LineNo) (hK : ¬ K (.burst l) := by exact id) (hn : (s.line l).ringPending = none) :
    (t.line l).ringPending = none :=
  h.keeps (fun a b => (a.line l).ringPending = none → (b.line l).ringPending = none) (fun _ h => h)
    (fun h h' ha => h' (h ha)) (fun _ _ ha => by simpa using ha) (fun k s t hk hu hn => by
      cases hu
      case burst x _ => rwa [State.setLine_line_ne]; exact fun he => hK (he ▸ hk)
      case bursts es => simp_all [State.endBursts, State.line, LineRec.endBurst]
      case ticks => simpa [State.line, LineRec.tick] using hn
      all_goals
        first
        | exact hn
        | simpa using hn
        | (rw [State.setLine_line_eq]; split <;> simp_all [LineRec.enter])) hn

/-! ### MGA's state after occurrences -/

/-- What taking an occurrence leaves of MGA's state. -/
structure Mga.Same (m n : Mga) : Prop where
  phase : n.phase = m.phase
  responses : n.responses = m.responses
  overrun : n.overrun = m.overrun
  ratio : n.ratio = m.ratio
  run : n.run = m.run

theorem Mga.Same.refl (m : Mga) : Mga.Same m m := ⟨rfl, rfl, rfl, rfl, rfl⟩

theorem Mga.Same.trans {a b c : Mga} (h : Mga.Same a b) (k : Mga.Same b c) : Mga.Same a c :=
  ⟨k.phase.trans h.phase, k.responses.trans h.responses, k.overrun.trans h.overrun, k.ratio.trans h.ratio,
    k.run.trans h.run⟩

theorem Mga.same_setCls (m : Mga) (c : EventClass) (r : ClassRec) : Mga.Same m (m.setCls c r) := ⟨rfl, rfl, rfl, rfl, rfl⟩

theorem Mga.same_makeCell (m : Mga) (o : Occurrence) (n : Clock) : Mga.Same m (m.makeCell o n) := by
  unfold Mga.makeCell; split <;> exact ⟨rfl, rfl, rfl, rfl, rfl⟩

theorem Mga.same_makePendingCell (m : Mga) (o : Occurrence) (n : Clock) : Mga.Same m (m.makePendingCell o n) :=
  (Mga.same_makeCell m o n).trans (Mga.same_setCls _ _ _)

theorem Mga.same_take (m : Mga) (o : Occurrence) (n : Clock) : Mga.Same m (m.take o n) := by
  unfold Mga.take
  refine (Mga.same_setCls m o.cls ((m.cls o.cls).note o)).trans ?_
  dsimp only
  split
  · exact Mga.Same.refl _
  · exact Mga.same_makeCell _ _ _
  · split
    · exact Mga.Same.refl _
    · exact Mga.same_makePendingCell _ _ _
  · split
    · exact Mga.same_setCls _ _ _
    · exact Mga.same_makePendingCell _ _ _

theorem Raised.same {m n : Mga} (h : Raised m n) : Mga.Same m n := by
  induction h with
  | refl => exact Mga.Same.refl m
  | take o st _ ih => exact ih.trans (Mga.same_take _ _ _)

theorem Does.mga (h : Does K s t) : Raised s.mga t.mga :=
  h.keeps (fun a b => Raised a.mga b.mga) (fun s => .refl _) (fun h h' => h.trans h')
    (fun s o => (calm_raise s o).mga) (fun k s t hk hu => by
      cases hu <;> first | exact .refl _ | (rw [State.setKeptNeed_mga]; exact .refl _))

theorem Does.phase (h : Does K s t) : t.mga.phase = s.mga.phase := h.mga.same.phase

theorem Does.running (h : Does K s t) : t.running = s.running := by simp [State.running, h.phase]

theorem Does.online (h : Does K s t) (p : PosNo) : t.online p = s.online p := by
  unfold State.online State.portUp State.port
  rw [h.lif]

theorem Does.now (h : Does K s t) : t.now = s.now := h.clock

theorem Does.assign (h : Does K s t) (hK : ¬ K .psc := by exact id) (p : PosNo) (c : SpkNo) : t.assign p c = s.assign p c := by
  simp [State.assign, h.psc hK]

end

end Sys2Proof.Machine

/-! ### The footprints of the operations -/

namespace Sys2Proof.Machine

section
variable {K : Touch → Prop}

theorem does_raiseRunning (s : State) (o : Occurrence) : Does K s (s.raiseRunning o) := by
  unfold State.raiseRunning
  exact Does.ite _ (Does.refl.note o) .refl

theorem does_raises {α : Type} (f : α → Occurrence) (l : List α) (s : State) :
    Does K s (l.foldl (fun s a => s.raiseRunning (f a)) s) :=
  Does.foldl _ l (fun s _ _ => does_raiseRunning s _) s

/-! #### Recorder channels and policy (spec/07, spec/08) -/

section
variable (hr : K .recording)
include hr

theorem does_setChan (s : State) (c : ChanNo) (r : Chan) : Does K s (s.setChan c r) := (Update.rcu s _ (by rfl) (by rfl)).does hr

theorem does_waiting (s : State) (w : List RecWait) : Does K s { s with rcu := { s.rcu with waiting := w } } :=
  (Update.rcu s _ (by rfl) (by rfl)).does hr

theorem does_setKeptNeed (s : State) (x : Target) (n : Need) : Does K s (s.setKeptNeed x n) := (Update.need s x n).does hr

theorem does_bindTo (s : State) (c : ChanNo) (x : Target) (cause : RecordCause) : Does K s (s.bindTo c x cause) := by
  unfold State.bindTo
  exact ((does_setChan hr s _ _).trans (does_waiting hr _ _)).trans (does_raiseRunning _ _)

theorem does_ask {s t : State} (x : Target) (h : s.ask x = some t) : Does K s t := by
  unfold State.ask at h
  split at h
  · obtain rfl := Option.some.inj h
    exact (does_bindTo hr s _ _ _).trans (does_setKeptNeed hr _ _ _)
  · cases h

theorem does_recordingCheck {s t : State} (x : Target) (p : PolicyCode) (h : s.recordingCheck x p = some t) :
    Does K s t := by
  unfold State.recordingCheck at h
  split at h
  · obtain rfl := Option.some.inj h; exact .refl
  · split at h
    · obtain rfl := Option.some.inj h; exact .refl
    · exact does_ask hr x h

theorem does_rankChange (s : State) (x : Target) (r : Rank) : Does K s (s.rankChange x r) := by
  unfold State.rankChange
  exact Does.ite _ .refl (Does.ite _ ((does_waiting hr s _).trans (does_raiseRunning _ _)) (does_waiting hr s _))

theorem does_joinWaitList (s : State) (x : Target) (r : Rank) : Does K s (s.joinWaitList x r) :=
  ((Update.rcu s _ (by rfl) (by rfl)).does hr).trans (does_raiseRunning _ _)

theorem does_needsRecording (s : State) (x : Target) (r : Rank) : Does K s (s.needsRecording x r) := by
  unfold State.needsRecording
  refine Does.ite _ (does_rankChange hr s x r) ?_
  split
  · exact does_bindTo hr s _ _ _
  · exact does_joinWaitList hr s x r

theorem does_noLongerNeeds (s : State) (x : Target) : Does K s (s.noLongerNeeds x) := by
  unfold State.noLongerNeeds
  split
  · exact (does_setChan hr s _ _).trans (does_raiseRunning _ _)
  · exact does_waiting hr s _

theorem does_passStop (s : State) (c : NeedChange) : Does K s (s.passStop c) := by
  unfold State.passStop
  exact Does.ite _ ((does_setKeptNeed hr s _ _).trans (does_noLongerNeeds hr _ _)) .refl

theorem does_passRank (s : State) (c : NeedChange) : Does K s (s.passRank c) := by
  unfold State.passRank
  split
  · exact (does_setKeptNeed hr s _ _).trans (does_rankChange hr _ _ _)
  · exact (does_setKeptNeed hr s _ _).trans (does_rankChange hr _ _ _)
  · exact .refl

theorem does_passStart (s : State) (c : NeedChange) : Does K s (s.passStart c) := by
  unfold State.passStart
  split
  · exact (does_setKeptNeed hr s _ _).trans (does_needsRecording hr _ _ _)
  · exact (does_setKeptNeed hr s _ _).trans (does_needsRecording hr _ _ _)
  · exact .refl

theorem does_reResolve (s : State) (ts : List Target) : Does K s (s.reResolve ts) :=
  ((Does.foldl _ _ (fun s c _ => does_passStop hr s c) s).trans
    (Does.foldl _ _ (fun s c _ => does_passRank hr s c) _)).trans (Does.foldl _ _ (fun s c _ => does_passStart hr s c) _)

theorem does_noticeGroups (s : State) (gs : List GroupNo) : Does K s (s.noticeGroups gs) := does_reResolve hr s _

theorem does_noticeLines (s : State) (ls : List LineNo) (hd : ∀ l ∈ ls, K (.demand l)) : Does K s (s.noticeLines ls) := by
  refine (Does.foldl _ ls (fun s l hl => ?_) s).trans (does_reResolve hr _ _)
  unfold State.clearDemand
  exact Does.ite _ ((Update.demand s l _).does (hd l hl)) .refl

theorem does_toggleDemand (s : State) (l : LineNo) (hd : K (.demand l)) : Does K s (s.toggleDemand l) := by
  unfold State.toggleDemand
  exact Does.ite _ .refl (((Update.demand s l _).does hd).trans (does_reResolve hr _ _))

end

/-! #### Denials and line states (spec/01, R43) -/

theorem does_setPosition (hp : K .psc) (s : State) (p : PosNo) (r : PositionRec) : Does K s (s.setPosition p r) :=
  (Update.psc s _).does hp

theorem does_deny (hp : K .psc) (s : State) (p : PosNo) (k : KeyNo) (r : DenyReason) (x : DenyTarget) :
    Does K s (s.deny p k r x) := by
  unfold State.deny
  exact (Does.ite _ (does_setPosition hp s _ _) .refl).trans (does_raiseRunning _ _)

theorem does_moveLine (s : State) (l : LineNo) (new : LineState) (c : LineCause) (hl : K (.line l)) :
    Does K s (s.moveLine l new c) :=
  ((Update.enter s l new).does hl).trans (does_raiseRunning _ _)

theorem does_connectionEvent (s : State) (l : LineNo) (old new : Totals) (hl : K (.line l)) :
    Does K s (s.connectionEvent l old new) := by
  have move (new : LineState) (c : LineCause) : Does K s (s.moveLine l new c) := does_moveLine s l new c hl
  unfold State.connectionEvent
  simp only
  split <;> repeat' first | exact .refl | exact move _ _ | split

theorem does_report (s : State) (l : LineNo) (hl : K (.line l)) : Does K s (s.report l) := by
  have h : Does K s (s.setLine l { s.line l with totals := s.totalsNow l }) := (Update.totals s l).does hl
  unfold State.report
  exact Does.ite _ (h.trans (does_connectionEvent _ _ _ _ hl)) h

/-! #### Talk groups (spec/06) -/

section
variable (hg : K .gtu)
include hg

theorem does_setGroup (s : State) (g : GroupNo) (r : GroupRec) : Does K s (s.setGroup g r) := (Update.gtu s _).does hg

theorem does_grant (s : State) (g : GroupNo) (e : TalkEntry) (c : TalkCause) : Does K s (s.grant g e c) :=
  (does_setGroup hg s _ _).trans (does_raiseRunning _ _)

theorem does_requeue (s : State) (g : GroupNo) (e : TalkEntry) (c : TalkCause) : Does K s (s.requeue g e c) := by
  unfold State.requeue
  exact Does.ite _ ((does_setGroup hg s _ _).trans (does_raiseRunning _ _)) (does_raiseRunning _ _)

theorem does_preempt (s : State) (g : GroupNo) (q e : TalkEntry) : Does K s (s.preempt g q e) :=
  ((does_setGroup hg s _ _).trans (does_requeue hg _ _ _ _)).trans (does_grant hg _ _ _ _)

theorem does_placeTalk (s : State) (g : GroupNo) (e : TalkEntry) : Does K s (s.placeTalk g e) := by
  unfold State.placeTalk
  refine Does.ite _ (does_grant hg s _ _ _) ?_
  split
  · exact does_preempt hg s _ _ _
  · exact Does.ite _ ((does_setGroup hg s _ _).trans (does_raiseRunning _ _)) (does_raiseRunning _ _)

theorem does_dropOffline (ps : List PosNo) (s : State) (g : GroupNo) : Does K s (State.dropOffline ps s g) :=
  ((does_setGroup hg s _ _).trans (does_raises _ _ _)).trans (does_raises _ _ _)

theorem does_lowerOnce (g : GroupNo) (s : State) : Does K s (State.lowerOnce g s) := by
  unfold State.lowerOnce
  split
  · exact (does_setGroup hg s _ _).trans (does_requeue hg _ _ _ _)
  · exact .refl

theorem does_lowerBy (g : GroupNo) (n : Nat) (s : State) : Does K s (State.lowerBy g n s) := by
  induction n generalizing s with
  | zero => exact .refl
  | succ n ih => exact (does_lowerOnce hg g s).trans (ih _)

theorem does_groupDisabled (s : State) (g : GroupNo) (hl : ∀ l, K (.line l)) : Does K s (s.groupDisabled g) :=
  (((does_setGroup hg s _ _).trans (does_raises _ _ _)).trans (does_raises _ _ _)).trans
    (Does.foldl _ _ (fun s l _ => does_moveLine s l _ _ (hl l)) _)

variable (hr : K .recording)
include hr

theorem does_promoteEntry (g : GroupNo) (s : State) (e : TalkEntry) : Does K s (State.promoteEntry g s e) := by
  unfold State.promoteEntry
  refine Does.ite _ ?_ .refl
  split
  · rename_i t h
    exact ((does_recordingCheck hr _ _ h).trans (does_setGroup hg _ _ _)).trans (does_raiseRunning _ _)
  · exact .refl

theorem does_promote (s : State) (g : GroupNo) : Does K s (s.promote g) :=
  Does.foldl _ _ (fun s e _ => does_promoteEntry hg hr g s e) s

theorem does_tryPromotions (s : State) : Does K s s.tryPromotions :=
  (Does.foldl _ _ (fun s g _ => does_promote hg hr s g) s).trans (does_noticeGroups hr _ _)

theorem does_talkOffline (s : State) (ps : List PosNo) : Does K s (s.talkOffline ps) :=
  ((Does.foldl _ _ (fun s g _ => does_dropOffline hg ps s g) s).trans
    (Does.foldl _ _ (fun s g _ => does_promote hg hr s g) _)).trans (does_noticeGroups hr _ _)

theorem does_dropLate (s : State) (p : PosNo) (g : GroupNo) : Does K s (s.dropLate p g) := by
  unfold State.dropLate
  exact Does.ite _ .refl (Does.ite _ ((does_dropOffline hg [p] s g).trans (does_promote hg hr _ _))
    (does_dropOffline hg [p] s g))

theorem does_talkRequest (hp : K .psc) (s : State) (p : PosNo) (g : GroupNo) (c : TalkClass) (k : KeyNo) :
    Does K s (s.talkRequest p g c k) := by
  unfold State.talkRequest
  refine Does.ite _ ((does_raiseRunning s _).trans (does_deny hp _ _ _ _ _)) (Does.ite _ .refl ?_)
  split
  · exact (does_raiseRunning s _).trans (does_deny hp _ _ _ _ _)
  · rename_i h
    exact (((does_recordingCheck hr _ _ h).trans (does_placeTalk hg _ _ _)).trans (does_dropLate hg hr _ _ _)).trans
      (does_noticeGroups hr _ _)

theorem does_talkRelease (s : State) (p : PosNo) (g : GroupNo) : Does K s (s.talkRelease p g) := by
  unfold State.talkRelease
  simp only
  split
  · exact (((does_setGroup hg s _ _).trans (does_raiseRunning _ _)).trans (does_promote hg hr _ _)).trans
      (does_noticeGroups hr _ _)
  · split
    · exact (does_setGroup hg s _ _).trans (does_raiseRunning _ _)
    · exact does_setGroup hg s _ _

theorem does_timeOutGroup (s : State) (g : GroupNo) : Does K s (s.timeOutGroup g) :=
  ((does_setGroup hg s _ _).trans (does_raises _ _ _)).trans (does_promote hg hr _ _)

theorem does_timeoutStep (s : State) (gs : List GroupNo) : Does K s (s.timeoutStep gs) :=
  (Does.foldl _ _ (fun s g _ => does_timeOutGroup hg hr s g) s).trans (does_noticeGroups hr _ _)

theorem does_limitChanged (s : State) (g : GroupNo) (old : Nat) : Does K s (s.limitChanged g old) := by
  unfold State.limitChanged
  exact Does.ite _ .refl (Does.ite _ ((does_lowerBy hg g _ s).trans (does_promote hg hr _ _)) (does_lowerBy hg g _ s))

/-! #### Service (spec/08) -/

omit hg in
theorem does_serveUpTo (n : Nat) (s : State) : Does K s (State.serveUpTo n s) := by
  induction n generalizing s with
  | zero => exact .refl
  | succ n ih =>
    refine Does.trans ?_ (ih _)
    unfold State.serveOnce
    split
    · exact does_bindTo hr s _ _ _
    · exact .refl

theorem does_serve (s : State) : Does K s s.serve := by
  unfold State.serve
  exact Does.ite _ ((does_serveUpTo hr _ s).trans (does_tryPromotions hg hr _)) (does_serveUpTo hr _ s)

theorem does_closeExpiry (s : State) (c : ChanNo) : Does K s (s.closeExpiry c) := by
  unfold State.closeExpiry
  exact Does.ite _ (Does.ite _ ((does_setChan hr s _ _).trans (does_serve hg hr _)) (does_setChan hr s _ _)) .refl

theorem does_closeSteps (s : State) : Does K s s.closeSteps :=
  ((Update.rcu s _ (by rfl) (by rfl)).does hr).trans (Does.foldl _ _ (fun s c _ => does_closeExpiry hg hr s c) _)

omit hg in
theorem does_suspend (cause : RecordCause) (s : State) (c : ChanNo) : Does K s (State.suspend cause s c) := by
  unfold State.suspend
  split
  · exact (does_setChan hr s _ _).trans (does_raiseRunning _ _)
  · exact does_setChan hr s _ _

omit hg in
theorem does_resume (cause : RecordCause) (s : State) (c : ChanNo) : Does K s (State.resume cause s c) := by
  unfold State.resume
  split
  · exact (does_setChan hr s _ _).trans (does_raiseRunning _ _)
  · exact does_setChan hr s _ _

omit hg in
theorem does_readyChange (s : State) (c : ChanNo) (old : Bool) : Does K s (s.readyChange c old) := by
  unfold State.readyChange
  refine Does.ite _ .refl ?_
  split
  · exact Does.ite _ .refl (does_suspend hr _ s c)
  · exact Does.ite _ (does_resume hr _ s c) .refl
  · exact .refl
  · exact .refl

omit hg in
theorem does_recorderLost (s : State) : Does K s s.recorderLost := Does.foldl _ _ (fun s c _ => does_suspend hr _ s c) s

theorem does_recorderBack (s : State) : Does K s s.recorderBack := by
  unfold State.recorderBack
  exact Does.ite _ ((Does.foldl _ _ (fun s c _ => does_resume hr _ s c) s).trans (does_serve hg hr _)) .refl

end

/-! #### Connections (spec/03) -/

theorem mem_insertLine {l x : LineNo} {ls : List LineNo} : x ∈ insertLine l ls ↔ x = l ∨ x ∈ ls := by
  induction ls with
  | nil => simp [insertLine]
  | cons y ys ih => simp only [insertLine]; split_ifs <;> (simp_all; try tauto)

theorem mem_foldl_insertLine {x : LineNo} {ls acc : List LineNo} :
    x ∈ ls.foldl (fun acc l => insertLine l acc) acc ↔ x ∈ ls ∨ x ∈ acc := by
  induction ls generalizing acc with
  | nil => simp
  | cons y ys ih => simp only [List.foldl_cons, ih, mem_insertLine, List.mem_cons]; tauto

theorem mem_linesOf {x : LineNo} {cs : List Conn} : x ∈ linesOf cs ↔ ∃ c ∈ cs, c.line = x := by
  have h : linesOf cs = (cs.map (·.line)).foldl (fun acc l => insertLine l acc) [] := by
    simp [linesOf, List.foldl_map]
  rw [h, mem_foldl_insertLine]
  simp

/-- A footprint that allows calls on the lines `A`: their connections, privacy, demand, state and recording. -/
structure Calls (K : Touch → Prop) (A : LineNo → Prop) : Prop where
  conns : K .conns
  recording : K .recording
  line : ∀ l, A l → K (.line l)
  demand : ∀ l, A l → K (.demand l)
  privacy : ∀ l, A l → K (.privacy l)

theorem does_notify (hr : K .recording) (s : State) (rs ns : List LineNo) (hl : ∀ l ∈ rs, K (.line l))
    (hd : ∀ l ∈ ns, K (.demand l)) : Does K s (s.notify rs ns) :=
  (Does.foldl _ _ (fun s l h => does_report s l (hl l h)) s).trans (does_noticeLines hr _ _ hd)

theorem does_setConns (hc : K .conns) (s : State) (cs : List Conn) :
    Does K s { s with cxm := { s.cxm with conns := cs } } := (Update.conns s cs).does hc

theorem does_leavePrivacy (s : State) (c : Conn) (hp : K (.privacy c.line)) : Does K s (s.leavePrivacy c) := by
  unfold State.leavePrivacy
  exact Does.ite _ (((Update.privacy s _ _).does hp).trans (does_raiseRunning _ _)) .refl

theorem does_dropConns (hc : K .conns) (s : State) (gone : Conn → Bool) (cause : ConnectCause)
    (hp : ∀ c ∈ s.cxm.conns, gone c = true → K (.privacy c.line)) : Does K s (s.dropConns gone cause) := by
  unfold State.dropConns
  simp only
  refine ((does_setConns hc s _).trans (does_raises _ _ _)).trans (Does.foldl _ _ (fun s c h => ?_) _)
  simp only [List.mem_filter] at h
  exact does_leavePrivacy s c (hp c h.1.1 h.1.2)

theorem does_removeConns {A : LineNo → Prop} (h : Calls K A) (s : State) (gone : Conn → Bool) (cause : ConnectCause)
    (hA : ∀ c ∈ s.cxm.conns, gone c = true → A c.line) : Does K s (s.removeConns gone cause) := by
  have lines (l : LineNo) (hl : l ∈ linesOf (s.cxm.conns.filter gone)) : A l := by
    obtain ⟨c, hc, rfl⟩ := mem_linesOf.1 hl
    exact hA c (List.mem_filter.1 hc).1 (List.mem_filter.1 hc).2
  unfold State.removeConns
  refine Does.ite _ .refl ((does_dropConns h.conns s _ cause fun c hc hg => h.privacy _ (hA c hc hg)).trans ?_)
  exact does_notify h.recording _ _ _ (fun l hl => h.line l (lines l hl)) (fun l hl => h.demand l (lines l hl))

theorem does_removeLine {l : LineNo} (h : Calls K (· = l)) (s : State) (cause : ConnectCause) :
    Does K s (s.removeLine l cause) :=
  does_removeConns h s _ _ fun _ _ hg => of_decide_eq_true hg

theorem does_admission (hr : K .recording) {s t : State} (p : PosNo) (l : LineNo) (gone : Option Conn)
    (h : s.admission p l gone = .ok t) : Does K s t := by
  unfold State.admission at h
  simp only at h
  repeat' (split at h <;> try cases h)
  rename_i hc
  exact does_recordingCheck hr _ _ hc

/-- A standing monitor that is called for is on the line that its place is assigned. -/
theorem monitorRecord_line {s : State} {pc : PosNo × SpkNo} {c : Conn} (h : s.monitorRecord pc = some c) :
    s.assign pc.1 pc.2 = .line c.line := by
  simp only [State.monitorRecord, Option.map_eq_some_iff] at h
  obtain ⟨l, hl, rfl⟩ := h
  unfold State.monitorDue at hl
  split at hl
  · split at hl
    · obtain rfl := Option.some.inj hl; assumption
    · cases hl
  · cases hl
  · cases hl

theorem does_makeMonitors {A : LineNo → Prop} (h : Calls K A) (s : State) (places : List (PosNo × SpkNo))
    (hA : ∀ pc ∈ places, ∀ l, s.assign pc.1 pc.2 = .line l → A l) : Does K s (s.makeMonitors places) := by
  have lines (l : LineNo) (hl : l ∈ linesOf (places.filterMap s.monitorRecord)) : A l := by
    obtain ⟨c, hc, rfl⟩ := mem_linesOf.1 hl
    obtain ⟨pc, hpc, hrec⟩ := List.mem_filterMap.1 hc
    exact hA pc hpc _ (monitorRecord_line hrec)
  unfold State.makeMonitors
  refine Does.ite _ .refl ?_
  refine (does_setConns h.conns s (s.cxm.conns ++ places.filterMap s.monitorRecord)).trans ?_
  exact does_notify h.recording _ _ _ (fun l hl => h.line l (lines l hl)) (fun l hl => h.demand l (lines l hl))

theorem mem_placesOf {s : State} {l : LineNo} {pc : PosNo × SpkNo} :
    pc ∈ s.placesOf l ↔ s.assign pc.1 pc.2 = .line l := by
  simp only [State.placesOf, List.mem_filter, decide_eq_true_eq, and_iff_right_iff_imp]
  intro _
  simp only [speakerPlaces, List.mem_map, List.mem_finRange, true_and]
  refine ⟨⟨8 * pc.1.val + pc.2.val, by omega⟩, Prod.ext (Fin.ext ?_) (Fin.ext ?_)⟩
  · show (8 * pc.1.val + pc.2.val) / 8 = pc.1.val
    omega
  · show (8 * pc.1.val + pc.2.val) % 8 = pc.2.val
    omega

theorem does_makeLineMonitors {l : LineNo} (h : Calls K (· = l)) (s : State) : Does K s (s.makeLineMonitors l) :=
  does_makeMonitors h s _ fun pc hpc x hx => by
    rw [mem_placesOf.1 hpc] at hx; exact (Assign.line.inj hx).symm

theorem does_clearLineConns {l : LineNo} (h : Calls K (· = l)) (s : State) (c : ConnectCause) :
    Does K s (s.clearLineConns l c) := by
  unfold State.clearLineConns
  exact Does.ite _ .refl ((does_removeLine h s c).trans (does_makeLineMonitors h _))

section
variable (hA : Calls K fun _ => True)
include hA

theorem does_dropAny (s : State) (gone : Conn → Bool) (cause : ConnectCause) : Does K s (s.dropConns gone cause) :=
  does_dropConns hA.conns s _ _ fun _ _ _ => hA.privacy _ trivial

theorem does_removeAny (s : State) (gone : Conn → Bool) (cause : ConnectCause) : Does K s (s.removeConns gone cause) :=
  does_removeConns hA s _ _ fun _ _ _ => trivial

theorem does_makeAny (s : State) (places : List (PosNo × SpkNo)) : Does K s (s.makeMonitors places) :=
  does_makeMonitors hA s _ fun _ _ _ _ => trivial

theorem does_notifyAny (s : State) (rs ns : List LineNo) : Does K s (s.notify rs ns) :=
  does_notify hA.recording _ _ _ (fun l _ => hA.line l trivial) (fun l _ => hA.demand l trivial)

theorem does_displace (s : State) (p : PosNo) (d : Conn) : Does K s (s.displace p d) := by
  unfold State.displace
  exact Does.ite _ ((does_setConns hA.conns s _).trans (does_raiseRunning _ _)) (does_dropAny hA s _ _)

theorem does_finishRequest (s : State) (p : PosNo) (l : LineNo) (c : Option Conn) (b : Bool) :
    Does K s (s.finishRequest p l c b) := by
  unfold State.finishRequest
  split
  · exact does_notifyAny hA s _ _
  · exact (does_displace hA s p _).trans (does_notifyAny hA _ _ _)

theorem does_bringConn (s : State) (p : PosNo) (h : Handset) (c : Conn) (k : ConnectKind) (cause : ConnectCause) :
    Does K s (s.bringConn p h c k cause) :=
  ((does_setConns hA.conns s _).trans (does_raiseRunning _ _)).trans (does_finishRequest hA _ _ _ _ _)

theorem does_defaultPrivacy (s : State) (c : Conn) (b : Bool) : Does K s (s.defaultPrivacy c b) := by
  unfold State.defaultPrivacy
  exact Does.ite _ (((Update.privacy s _ _).does (hA.privacy _ trivial)).trans (does_raiseRunning _ _)) .refl

theorem does_connect (s : State) (p : PosNo) (h : Handset) (l : LineNo) : Does K s (s.connect p h l) :=
  (((does_setConns hA.conns s _).trans (does_raiseRunning _ _)).trans (does_defaultPrivacy hA _ _ _)).trans
    (does_finishRequest hA _ _ _ _ _)

theorem does_pickup (s : State) (p : PosNo) (h : Handset) (l : LineNo) (c : Conn) : Does K s (s.pickup p h l c) :=
  (((does_setConns hA.conns s _).trans (does_raiseRunning _ _)).trans (does_raiseRunning _ _)).trans
    (does_finishRequest hA _ _ _ _ _)

theorem does_lineRequest (hp : K .psc) (s : State) (p : PosNo) (h : Handset) (l : LineNo) (k : KeyNo) :
    Does K s (s.lineRequest p h l k) := by
  unfold State.lineRequest
  refine Does.ite _ ?_ ?_
  · unfold State.lateLineRequest
    split <;> exact does_deny hp s _ _ _ _
  split
  · exact .refl
  · exact does_bringConn hA s _ _ _ _ _
  · exact does_bringConn hA s _ _ _ _ _
  · split
    · exact does_deny hp s _ _ _ _
    · rename_i hc; exact (does_admission hA.recording _ _ _ hc).trans (does_pickup hA _ _ _ _ _)
  · split
    · exact does_deny hp s _ _ _ _
    · rename_i hc; exact (does_admission hA.recording _ _ _ hc).trans (does_connect hA _ _ _ _)

theorem does_releaseKey (hp : K .psc) (s : State) (p : PosNo) (h : Handset) (k : KeyNo) : Does K s (s.releaseKey p h k) := by
  unfold State.releaseKey
  split
  · exact does_removeAny hA s _ _
  · exact does_deny hp s _ _ _ _

theorem does_hookRelease (s : State) (p : PosNo) (h : Handset) : Does K s (s.hookRelease p h) := by
  unfold State.hookRelease
  split
  · exact does_removeAny hA s _ _
  · exact .refl

theorem does_holdKey (hp : K .psc) (s : State) (p : PosNo) (h : Handset) (k : KeyNo) : Does K s (s.holdKey p h k) := by
  unfold State.holdKey
  split
  · exact does_deny hp s _ _ _ _
  · exact Does.ite _ (does_deny hp s _ _ _ _)
      (((does_setConns hA.conns s _).trans (does_raiseRunning _ _)).trans (does_notifyAny hA _ _ _))

theorem does_privacyKey (hp : K .psc) (s : State) (p : PosNo) (h : Handset) (k : KeyNo) : Does K s (s.privacyKey p h k) := by
  have put (s : State) (l : LineNo) (b : Bool) : Does K s (s.setPrivacy l b) :=
    (Update.privacy s _ _).does (hA.privacy _ trivial)
  unfold State.privacyKey
  split
  · exact does_deny hp s _ _ _ _
  · split
    · exact (put s _ _).trans (does_raiseRunning _ _)
    · exact (put s _ _).trans (does_raiseRunning _ _)
    · exact does_deny hp s _ _ _ _
    · exact .refl

theorem does_makeAllMonitors (s : State) : Does K s s.makeAllMonitors :=
  Does.foldl _ _ (fun s _ _ => does_makeAny hA s _) s

end

theorem does_speakerTalk (hc : K .conns) (s : State) (p : PosNo) (c : SpkNo) (b : Bool) : Does K s (s.speakerTalk p c b) :=
  does_setConns hc s _

/-! #### Generators (spec/04) -/

section
variable (hn : K .gens)
include hn

theorem does_setGen (s : State) (n : CgNo) (g : Gen) : Does K s (s.setGen n g) := (Update.gens s _).does hn

theorem does_triggerGen (s : State) (n : CgNo) : Does K s (s.triggerGen n) := by
  unfold State.triggerGen
  exact Does.ite _ (does_setGen hn s _ _) .refl

theorem does_ringRequest (s : State) (l : LineNo) (hb : K (.burst l)) : Does K s (s.ringRequest l) := by
  unfold State.ringRequest
  exact Does.ite _ (((Update.burst s l _).does hb).trans (does_triggerGen hn _ _)) .refl

variable (hb : K .bursts)
include hb

theorem does_passOn (s : State) (es : List CgNo) : Does K s (s.passOn es) :=
  ((Update.gens s _).does hn).trans ((Update.bursts _ _).does hb)

theorem does_stepGens (s : State) : Does K s s.stepGens := ((Update.gens s _).does hn).trans (does_passOn hn hb _ _)

theorem does_wrapGen (s : State) (n : CgNo) : Does K s (s.wrapGen n) := by
  unfold State.wrapGen
  exact Does.ite _ ((does_setGen hn s _ _).trans (does_passOn hn hb _ _)) .refl

theorem does_completeGen (s : State) (n : CgNo) : Does K s (s.completeGen n) := by
  unfold State.completeGen
  exact Does.ite _ ((does_setGen hn s _ _).trans (does_passOn hn hb _ _)) .refl

theorem does_disableGen (s : State) (n : CgNo) : Does K s (s.disableGen n) := by
  unfold State.disableGen
  exact Does.ite _ ((does_setGen hn s _ _).trans (does_passOn hn hb _ _))
    ((does_setGen hn s _ _).trans ((Update.bursts _ _).does hb))

theorem does_storeGen (s : State) (n : CgNo) (e : Bool) (m : CgMode) (x : Option CgNo) (c : Shape) (p : Bool) :
    Does K s (s.storeGen n e m x c p) := by
  unfold State.storeGen
  simp only
  split_ifs
  · exact (does_setGen hn s _ _).trans (does_setGen hn _ _ _)
  · exact (does_setGen hn s _ _).trans (does_disableGen hn hb _ _)
  · exact does_setGen hn s _ _

end

/-! #### Lines (spec/01) -/

section
variable {l : LineNo} (h : Calls K (· = l))
include h

theorem does_enterFault (s : State) (c : LineCause) : Does K s (s.enterFault l c) :=
  (does_moveLine s l _ _ (h.line l rfl)).trans (does_removeLine h _ _)

theorem does_exitFault (s : State) (c : LineCause) : Does K s (s.exitFault l c) :=
  (does_moveLine s l _ _ (h.line l rfl)).trans (does_makeLineMonitors h _)

theorem does_testExit (s : State) (c : LineCause) : Does K s (s.testExit l c) := by
  unfold State.testExit
  exact Does.ite _ (does_exitFault h s c) .refl

theorem does_timers (s : State) (a b c d : Timer) (m : Bool) : Does K s (s.setLine l { s.line l with
    ring := a, answer := b, hang := c, guard := d, faultClear := m }) :=
  (Update.timers s l a b c d m).does (h.line l rfl)

theorem does_startGuard (s : State) : Does K s (s.startGuard l) := by
  unfold State.startGuard
  exact Does.ite _ ((does_timers h s _ _ _ _ _).trans (does_testExit h _ _)) (does_timers h s _ _ _ _ _)

theorem does_farGone (s : State) : Does K s (s.farGone l) := by
  unfold State.farGone
  exact Does.ite _ (does_moveLine s l _ _ (h.line l rfl)) (does_timers h s _ _ _ _ _)

theorem does_farAnswer (s : State) : Does K s (s.farAnswer l) := by
  unfold State.farAnswer
  exact Does.ite _ .refl (does_moveLine s l _ _ (h.line l rfl))

theorem does_farChange (s : State) (old : FarSignal) (c : LineCause) : Does K s (s.farChange l old c) := by
  have move (new : LineState) (c : LineCause) : Does K s (s.moveLine l new c) := does_moveLine s l _ _ (h.line l rfl)
  unfold State.farChange
  simp only
  split
  all_goals
    repeat' first
      | exact .refl
      | exact does_timers h s _ _ _ _ _
      | exact does_startGuard h s
      | exact does_enterFault h s c
      | exact move _ _
      | exact does_farGone h s
      | exact does_farAnswer h s
      | exact does_raiseRunning s _
      | split

theorem does_farSignal (hf : K (.far l)) (s : State) (c : LineCause) (f : FarSignal) : Does K s (s.farSignal c l f) := by
  have put : Does K s (s.setLine l { s.line l with far := f }) := (Update.far s l f).does hf
  unfold State.farSignal
  exact Does.ite _ .refl (Does.ite _ (put.trans (does_farChange h _ _ _)) put)

theorem does_ringExpiry (s : State) : Does K s (s.ringExpiry l) := by
  unfold State.ringExpiry
  exact Does.ite _ (does_moveLine s l _ _ (h.line l rfl)) .refl

theorem does_answerExpiry (s : State) : Does K s (s.answerExpiry l) := by
  unfold State.answerExpiry
  exact Does.ite _ ((does_timers h s _ _ _ _ _).trans (does_clearLineConns h _ _)) .refl

theorem does_hangExpiry (s : State) : Does K s (s.hangExpiry l) := by
  unfold State.hangExpiry
  exact Does.ite _ (does_moveLine s l _ _ (h.line l rfl)) .refl

theorem does_guardExpiry (s : State) : Does K s (s.guardExpiry l) := by
  unfold State.guardExpiry
  exact Does.ite _ ((does_timers h s _ _ _ _ _).trans (does_testExit h _ _)) .refl

theorem does_lineExpiries (r : LineRec) (s : State) : Does K s (State.lineExpiries r s l) := by
  unfold State.lineExpiries
  simp only
  refine Does.trans ?_ (Does.ite _ (does_guardExpiry h _) .refl)
  refine Does.trans ?_ (Does.ite _ (does_hangExpiry h _) .refl)
  refine Does.trans ?_ (Does.ite _ (does_answerExpiry h _) .refl)
  exact Does.ite _ (does_ringExpiry h _) .refl

theorem does_evaluate (s : State) (c : LineCause) : Does K s (s.evaluate l c) := by
  have move (new : LineState) : Does K s (s.moveLine l new c) := does_moveLine s l _ _ (h.line l rfl)
  unfold State.evaluate
  exact Does.ite _ (does_enterFault h s c) (Does.ite _ (move _) (Does.ite _ (move _) (Does.ite _ (move _) .refl)))

theorem does_clearFault (s : State) : Does K s (s.clearFault l) :=
  (does_timers h s _ _ _ _ _).trans (does_testExit h _ _)

end

/-- Calls on every line are calls on each. -/
theorem Calls.one {A : LineNo → Prop} (h : Calls K A) {l : LineNo} (hl : A l) : Calls K (· = l) :=
  ⟨h.conns, h.recording, fun _ hx => hx ▸ h.line l hl, fun _ hx => hx ▸ h.demand l hl, fun _ hx => hx ▸ h.privacy l hl⟩

theorem does_lineTimers (h : Calls K fun _ => True) (ht : K .ticks) (s : State) : Does K s s.lineTimers :=
  ((Update.ticks s).does ht).trans (Does.foldl _ _ (fun t _ _ => does_lineExpiries (h.one trivial) _ t) _)

/-! #### Positions (spec/02) -/

section
variable (hp : K .psc) (hA : Calls K fun _ => True)
include hp

theorem does_quietPosition (s : State) (p : PosNo) : Does K s (s.quietPosition p) := (does_setPosition hp s _ _).note _

include hA

theorem does_goOnline (s : State) (p : PosNo) : Does K s (s.goOnline p) :=
  ((does_setPosition hp s _ _).note _).trans (does_makeAny hA _ _)

variable (hg : K .gtu)
include hg

theorem does_goOffline (s : State) (ps : List PosNo) : Does K s (s.goOffline ps) :=
  ((does_removeAny hA s _ _).trans (does_talkOffline hg hA.recording _ ps)).trans
    (Does.foldl _ _ (fun s p _ => does_quietPosition hp s p) _)

theorem does_talkKeyDown (s : State) (p : PosNo) (k : KeyNo) (g : GroupNo) : Does K s (s.talkKeyDown p k g) :=
  (does_setPosition hp s _ _).trans (does_talkRequest hg hA.recording hp _ _ _ _ _)

theorem does_speakerKeyDown (s : State) (p : PosNo) (k : KeyNo) (c : SpkNo) : Does K s (s.speakerKeyDown p k c) := by
  unfold State.speakerKeyDown
  split
  · exact does_talkKeyDown hp hA hg s _ _ _
  · exact Does.ite _ ((does_setPosition hp s _ _).trans (does_speakerTalk hA.conns _ _ _ _)) .refl
  · exact .refl

variable (hn : K .gens) (hb : ∀ l, K (.burst l))
include hn hb

omit hA hg in
theorem does_ringKey (s : State) (p : PosNo) (k : KeyNo) : Does K s (s.ringKey p k) := by
  unfold State.ringKey
  split
  · exact does_deny hp s _ _ _ _
  · exact Does.ite _ (does_ringRequest hn s _ (hb _)) (does_deny hp s _ _ _ _)

theorem does_keyAction (s : State) (p : PosNo) (k : KeyNo) : Does K s (s.keyAction p k) := by
  unfold State.keyAction
  simp only
  split
  · exact .refl
  · exact does_lineRequest hA hp s _ _ _ _
  · exact does_releaseKey hA hp s _ _ _
  · exact does_holdKey hA hp s _ _ _
  · exact does_ringKey hp hn hb s _ _
  · exact does_privacyKey hA hp s _ _ _
  · exact Does.ite _ .refl (does_talkKeyDown hp hA hg s _ _ _)
  · exact Does.ite _ .refl (does_speakerKeyDown hp hA hg s _ _ _)
  · unfold State.recordKey
    split
    · exact does_deny hp s _ _ _ _
    · exact does_toggleDemand hA.recording s _ (hA.demand _ trivial)
  · exact does_raiseRunning s _

theorem does_keyDown (s : State) (p : PosNo) (b : Byte) : Does K s (s.keyDown p b) := by
  unfold State.keyDown
  split
  · exact Does.ite _ (does_keyAction hp hA hg hn hb s _ _) .refl
  · exact .refl

omit hn hb in
theorem does_keyUp (s : State) (p : PosNo) (b : Byte) : Does K s (s.keyUp p b) := by
  unfold State.keyUp
  split
  · refine Does.ite _ ?_ .refl
    unfold State.keyRelease
    split
    · unfold State.releasePressed
      split
      · exact (does_setPosition hp s _ _).trans (does_talkRelease hg hA.recording _ _ _)
      · exact (does_setPosition hp s _ _).trans (does_speakerTalk hA.conns _ _ _ _)
    · exact Does.ite _ (does_raiseRunning s _) .refl
  · exact .refl

omit hg hn hb in
theorem does_hookCell (s : State) (p : PosNo) (h v : Byte) : Does K s (s.hookCell p h v) := by
  unfold State.hookCell
  split
  · exact .refl
  · refine Does.ite _ .refl (Does.ite _ (does_setPosition hp s _ _) (Does.ite _ ?_ .refl))
    unfold State.putDown
    exact Does.ite _ ((does_setPosition hp s _ _).trans (does_hookRelease hA _ _ _)) (does_setPosition hp s _ _)

omit hA hg hn hb in
theorem does_levelCell (s : State) (p : PosNo) (e : Byte) (v : U16) : Does K s (s.levelCell p e v) := by
  unfold State.levelCell
  split
  · exact Does.ite _ (does_setPosition hp s _ _) .refl
  · exact .refl

end

/-! #### The mixer (spec/05) -/

theorem does_countClip (hm : K .mix) (s : State) (i : OutNo) : Does K s (s.countClip i) := by
  unfold State.countClip
  exact Does.ite _ (((Update.mix s _).does hm).trans (does_raiseRunning _ _)) ((Update.mix s _).does hm)

theorem does_advanceTones (hm : K .mix) (s : State) : Does K s s.advanceTones := by
  unfold State.advanceTones
  exact Does.ite _ ((Update.mix s _).does hm) .refl

end

end Sys2Proof.Machine

/-! ### What a step is made of

A step is a sequence of operations: those of a request or a console cell (`IntakeOp`), those of a frame period besides
(`PeriodOp`), and those of the other commands (`StepOp`). Whatever is reflexive, transitive and kept by each operation is
kept by every step. -/

section
open Relation (ReflTransGen)

namespace Sys2Proof.Machine

/-- An operation of a host's request or of a console cell. -/
inductive IntakeOp : State → State → Prop where
  | respond (s : State) (kind : Byte) (tag : U16) (code : ResultCode) (data : List Byte) :
      IntakeOp s (s.respond kind tag code data)
  | discard (s : State) : IntakeOp s s.discard
  | lineCfg (s : State) (l : LineNo) (cfg : LineCfg) : IntakeOp s (s.lineCfgWritten l cfg)
  | positionCfg (s : State) (p : PosNo) (cfg : PositionCfg) : IntakeOp s (s.storePositionCfg p cfg)
  | keyMap (s : State) (v : Vector Key 1536) : IntakeOp s { s with psc := { s.psc with keyMap := v } }
  | changeAssign (s : State) (i : Fin 256) (a : Assign) : IntakeOp s (s.changeAssign i a)
  | lampStyle (s : State) (v : Vector LampStyle 16) : IntakeOp s { s with psc := { s.psc with lampStyle := v } }
  | groupCfg (s : State) (g : GroupNo) (cfg : GroupCfg) : IntakeOp s (s.storeGroupCfg g cfg)
  | storeGen (s : State) (n : CgNo) (on : Bool) (mode : CgMode) (source : Option CgNo) (shape : Shape) (pair : Bool) :
      IntakeOp s (s.storeGen n on mode source shape pair)
  | toneSample (s : State) (x : ToneNo) (k : Fin 256) (v : Sample) : IntakeOp s (s.storeToneSample x k v)
  | toneControl (s : State) (x : ToneNo) (length level : Nat) : IntakeOp s (s.storeToneControl x length level)
  | policy (s : State) (b : Prs) (demand : b.demand = s.prs.demand) (lines : b.lineNeed = s.prs.lineNeed)
      (groups : b.groupNeed = s.prs.groupNeed) : IntakeOp s ({ s with prs := b }).reResolveTables
  | recMode (s : State) (m : RecMode) (held : s.running = false) : IntakeOp s { s with rcu := { s.rcu with mode := m } }
  | clearClip (s : State) (i : Nat) : IntakeOp s (s.clearClip i)
  | clearFault (s : State) (l : LineNo) (fault : (s.line l).state = .fault) : IntakeOp s (s.clearFault l)
  | triggerGen (s : State) (n : CgNo) : IntakeOp s (s.triggerGen n)
  | forceRelease (s : State) (l : LineNo) : IntakeOp s (s.clearLineConns l .forced)
  | setMode (s : State) (c : EventClass) (m : DeliveryMode) :
      IntakeOp s { s with mga := s.mga.setCls c ((s.mga.cls c).setMode m) }
  | acknowledge (s : State) (c : EventClass) : IntakeOp s { s with mga := s.mga.acknowledge c }
  | lane (s : State) (n : Nat) : IntakeOp s { s with mga := { s.mga with ratio := n, run := min s.mga.run n } }
  | hold (s : State) : IntakeOp s s.holdShelf
  | release (s : State) : IntakeOp s s.releaseShelf
  | keyDown (s : State) (p : PosNo) (b : Byte) : IntakeOp s (s.keyDown p b)
  | keyUp (s : State) (p : PosNo) (b : Byte) : IntakeOp s (s.keyUp p b)
  | hookCell (s : State) (p : PosNo) (h v : Byte) : IntakeOp s (s.hookCell p h v)
  | levelCell (s : State) (p : PosNo) (e : Byte) (v : U16) : IntakeOp s (s.levelCell p e v)

/-- An operation between the sending of a frame period's frames and its cadence step. -/
inductive PeriodOp : State → State → Prop where
  | intake {s t : State} (h : IntakeOp s t) : PeriodOp s t
  | handOver (s : State) (cs : List (List Byte)) : PeriodOp s { s with lif := { s.lif with handOver := cs } }
  | prepare (s : State) (m : Mixed) : PeriodOp s { s with lif := { s.lif with prepared := m } }
  | countClip (s : State) (i : OutNo) : PeriodOp s (s.countClip i)
  | advanceTones (s : State) : PeriodOp s s.advanceTones
  | closeSteps (s : State) : PeriodOp s s.closeSteps
  | judgePort (s : State) (n : PortNo) (good : Bool) : PeriodOp s (s.judgePort n good)
  | farSignal (s : State) (c : LineCause) (l : LineNo) (f : FarSignal) : PeriodOp s (s.farSignal c l f)
  | setPresent (s : State) (p : PosNo) (b : Bool) : PeriodOp s (s.setPresent p b)
  | goOnline (s : State) (p : PosNo) : PeriodOp s (s.goOnline p)
  | goOffline (s : State) (ps : List PosNo) : PeriodOp s (s.goOffline ps)
  | recorderLost (s : State) : PeriodOp s s.recorderLost
  | recorderBack (s : State) : PeriodOp s s.recorderBack
  | slotReadyIn (s : State) (i : ChanNo) (b : Bool) : PeriodOp s (s.slotReadyIn i b)

/-- An operation of a command. -/
inductive StepOp : State → State → Prop where
  | period {s t : State} (h : PeriodOp s t) : StepOp s t
  | queue (s : State) (cs : List Instr) : StepOp s { s with pending := cs }
  | hardReset (s : State) (m : QuadNo) : StepOp s (s.hardReset m)
  | resetLow (s : State) : StepOp s s.resetLow
  | endInit (s : State) : StepOp s s.endInit
  | sendFrames (s : State) : StepOp s s.sendFrames
  | storeSamples (s : State) (f : Inbound) : StepOp s (s.storeSamples f)
  | clock (s : State) : StepOp s { s with cdu := { s.cdu with clock := s.cdu.clock + 1 } }
  | stepGens (s : State) (run : s.running = true) : StepOp s s.stepGens
  | lineTimers (s : State) (run : s.running = true) : StepOp s s.lineTimers
  | denialSteps (s : State) : StepOp s s.denialSteps
  | timeoutStep (s : State) (gs : List GroupNo) (run : s.running = true) : StepOp s (s.timeoutStep gs)
  | wrapGen (s : State) (n : CgNo) : StepOp s (s.wrapGen n)
  | completeGen (s : State) (n : CgNo) : StepOp s (s.completeGen n)
  | ringExpiry (s : State) (l : LineNo) : StepOp s (s.ringExpiry l)
  | answerExpiry (s : State) (l : LineNo) : StepOp s (s.answerExpiry l)
  | hangExpiry (s : State) (l : LineNo) : StepOp s (s.hangExpiry l)
  | guardExpiry (s : State) (l : LineNo) : StepOp s (s.guardExpiry l)
  | endDenial (s : State) (p : PosNo) : StepOp s (s.endDenial p)
  | closeExpiry (s : State) (c : ChanNo) (run : s.running = true) : StepOp s (s.closeExpiry c)
  | lineRequest (s : State) (p : PosNo) (h : Handset) (l : LineNo) (k : KeyNo) (run : s.running = true) :
      StepOp s (s.lineRequest p h l k)
  | releaseKey (s : State) (p : PosNo) (h : Handset) (k : KeyNo) (run : s.running = true) : StepOp s (s.releaseKey p h k)
  | hookRelease (s : State) (p : PosNo) (h : Handset) (run : s.running = true) : StepOp s (s.hookRelease p h)
  | holdKey (s : State) (p : PosNo) (h : Handset) (k : KeyNo) (run : s.running = true) : StepOp s (s.holdKey p h k)
  | privacyKey (s : State) (p : PosNo) (h : Handset) (k : KeyNo) (run : s.running = true) : StepOp s (s.privacyKey p h k)
  | speakerTalk (s : State) (p : PosNo) (c : SpkNo) (b : Bool) (run : s.running = true) : StepOp s (s.speakerTalk p c b)
  | ringRequest (s : State) (l : LineNo) : StepOp s (s.ringRequest l)
  | toggleDemand (s : State) (l : LineNo) (run : s.running = true) : StepOp s (s.toggleDemand l)
  | talkRequest (s : State) (p : PosNo) (g : GroupNo) (c : TalkClass) (k : KeyNo) (run : s.running = true) :
      StepOp s (s.talkRequest p g c k)
  | talkRelease (s : State) (p : PosNo) (g : GroupNo) (run : s.running = true) : StepOp s (s.talkRelease p g)

/-! #### Chains of operations -/

/-- What is reflexive, transitive and kept by every operation is kept by a chain of them. -/
theorem chain_keeps {Op R : State → State → Prop} (refl : ∀ s, R s s) (trans : ∀ {a b c}, R a b → R b c → R a c)
    (op : ∀ s t, Op s t → R s t) {s t : State} (h : ReflTransGen Op s t) : R s t := by
  induction h with
  | refl => exact refl s
  | tail _ hop ih => exact trans ih (op _ _ hop)

theorem chain_mono {Op Op' : State → State → Prop} (h : ∀ s t, Op s t → Op' s t) {s t : State}
    (hst : ReflTransGen Op s t) : ReflTransGen Op' s t :=
  chain_keeps (R := ReflTransGen Op') (fun _ => .refl) .trans (fun s t hop => .single (h s t hop)) hst

theorem chain_foldl {α : Type} {Op : State → State → Prop} (f : State → α → State)
    (h : ∀ s a, ReflTransGen Op s (f s a)) (l : List α) (s : State) : ReflTransGen Op s (l.foldl f s) := by
  induction l generalizing s with
  | nil => exact .refl
  | cons a l ih => exact (h s a).trans (ih _)

theorem chain_ite {Op : State → State → Prop} {s a b : State} (p : Prop) [Decidable p] (h : ReflTransGen Op s a)
    (k : ReflTransGen Op s b) : ReflTransGen Op s (if p then a else b) := by
  split
  · exact h
  · exact k

/-! #### Requests -/

@[simp] theorem accept_state (s : State) (b : Bool) : (s.accept b).state = s := rfl

/-- A request runs what its judge does, then answers. -/
theorem intake_request (s : State) (kind : Byte) (tag : U16) (judge : State → Verdict)
    (h : ReflTransGen IntakeOp s (judge s).state) : ReflTransGen IntakeOp s (s.request kind tag judge) := by
  unfold State.request
  refine chain_ite _ (chain_ite _ (.single (.respond s _ _ _ _)) ?_) (.single (.discard s))
  exact h.trans (.single (.respond _ _ _ _ _))

theorem intake_badRequest (s : State) (kind : Byte) (tag : U16) : ReflTransGen IntakeOp s (s.badRequest kind tag) :=
  chain_ite _ (.single (.respond s _ _ _ _)) (.single (.discard s))

theorem intake_judgeLineCfg (s : State) (i : U16) (e : LineEntry) :
    ReflTransGen IntakeOp s (s.judgeLineCfg i e).state := by
  unfold State.judgeLineCfg
  repeat' first | exact .refl | split
  unfold State.storeLineCfg
  simp only
  split_ifs
  · exact .refl
  · exact .refl
  · exact .single (.lineCfg s _ _)

theorem intake_judgePositionCfg (s : State) (i : U16) (e : PositionEntry) :
    ReflTransGen IntakeOp s (s.judgePositionCfg i e).state := by
  unfold State.judgePositionCfg
  repeat' first | exact .refl | exact .single (.positionCfg s _ _) | split

theorem intake_judgeKeyMap (s : State) (i : U16) (e : KeyEntry) : ReflTransGen IntakeOp s (s.judgeKeyMap i e).state := by
  unfold State.judgeKeyMap
  repeat' first | exact .refl | exact .single (.keyMap s _) | split

theorem intake_judgeSpeakerAssign (s : State) (i : U16) (e : AssignEntry) :
    ReflTransGen IntakeOp s (s.judgeSpeakerAssign i e).state := by
  unfold State.judgeSpeakerAssign
  repeat' first | exact .refl | exact .single (.changeAssign s _ _) | split

theorem intake_judgeLampStyle (s : State) (i : U16) (e : LampEntry) :
    ReflTransGen IntakeOp s (s.judgeLampStyle i e).state := by
  unfold State.judgeLampStyle
  repeat' first | exact .refl | exact .single (.lampStyle s _) | split

theorem intake_judgeGroupCfg (s : State) (i : U16) (e : GroupEntry) :
    ReflTransGen IntakeOp s (s.judgeGroupCfg i e).state := by
  unfold State.judgeGroupCfg
  repeat' first | exact .refl | exact .single (.groupCfg s _ _) | split

theorem intake_judgeCgCfg (s : State) (i : U16) (e : CgEntry) : ReflTransGen IntakeOp s (s.judgeCgCfg i e).state := by
  unfold State.judgeCgCfg
  repeat' first | exact .refl | exact .single (.storeGen s _ _ _ _ _ _) | split

theorem intake_judgeTone (s : State) (i : U16) (e : ToneEntry) : ReflTransGen IntakeOp s (s.judgeTone i e).state := by
  unfold State.judgeTone
  split
  · exact .single (.toneSample s _ _ _)
  · split
    · exact .refl
    · exact .single (.toneControl s _ _ _)

theorem intake_judgePolicyCtrl (s : State) (i : U16) (e : PolicyCtrlEntry) :
    ReflTransGen IntakeOp s (s.judgePolicyCtrl i e).state := by
  unfold State.judgePolicyCtrl
  split
  · exact .refl
  · split
    · rw [accept_state]; exact .single (.policy s _ (by rfl) (by rfl) (by rfl))
    · exact .refl

theorem intake_judgePolicyFixed (s : State) (i : U16) (c : Byte) :
    ReflTransGen IntakeOp s (s.judgePolicyFixed i c).state := by
  unfold State.judgePolicyFixed
  split
  · exact .refl
  · split
    · rw [accept_state]; exact .single (.policy s _ (by rfl) (by rfl) (by rfl))
    · exact .refl

theorem intake_judgePolicyRange (s : State) (i : U16) (e : PolicyRangeEntry) :
    ReflTransGen IntakeOp s (s.judgePolicyRange i e).state := by
  unfold State.judgePolicyRange
  split
  · exact .refl
  · split
    · split
      · split
        · exact .refl
        · rw [accept_state]; exact .single (.policy s _ (by rfl) (by rfl) (by rfl))
      · exact .refl
    · exact .refl

theorem intake_judgeRecMode (s : State) (i : U16) (m : Byte) : ReflTransGen IntakeOp s (s.judgeRecMode i m).state := by
  unfold State.judgeRecMode
  split
  · exact .refl
  · split
    · exact .refl
    · split
      · exact .refl
      · rename_i h
        exact .single (.recMode s _ (by simpa using h))

theorem intake_judgeReadState (s : State) (clear : Bool) (k : Byte) (i : U16) :
    ReflTransGen IntakeOp s (s.judgeReadState clear k i).state := by
  unfold State.judgeReadState
  split
  · exact .refl
  · exact .refl
  · exact chain_ite _ (.single (.clearClip s _)) .refl

theorem intake_judgeClearFault (s : State) (l : U16) : ReflTransGen IntakeOp s (s.judgeClearFault l).state := by
  unfold State.judgeClearFault
  split
  · exact .refl
  · split_ifs with h
    · exact .single (.clearFault s _ h)
    · exact .refl

theorem intake_judgeTrigger (s : State) (c : Byte) : ReflTransGen IntakeOp s (s.judgeTrigger c).state := by
  unfold State.judgeTrigger
  repeat' first | exact .refl | exact .single (.triggerGen s _) | split

theorem intake_judgeForceRelease (s : State) (l : U16) : ReflTransGen IntakeOp s (s.judgeForceRelease l).state := by
  unfold State.judgeForceRelease
  repeat' first | exact .refl | exact .single (.forceRelease s _) | split

theorem intake_judgeEventMode (s : State) (c m : Byte) : ReflTransGen IntakeOp s (s.judgeEventMode c m).state := by
  unfold State.judgeEventMode
  repeat' first | exact .refl | exact .single (.setMode s _ _) | split

theorem intake_judgeAck (s : State) (c : Byte) : ReflTransGen IntakeOp s (s.judgeAck c).state := by
  unfold State.judgeAck
  split
  · exact .refl
  · simp only
    split
    · exact .refl
    · exact .single (.acknowledge s _)

theorem intake_readEntry (s : State) (x : Byte) (i : U16) : (s.judgeReadEntry x i).state = s := by
  unfold State.judgeReadEntry; split <;> rfl

theorem intake_summary (s : State) (c : Byte) : (s.judgeSummary c).state = s := by
  unfold State.judgeSummary; split <;> rfl

/-- Every request is a chain of intake operations. -/
theorem intake_takeRequest (s : State) (i : Instr) : ReflTransGen IntakeOp s (s.takeRequest i) := by
  cases i
  case readEntry tag x i => apply intake_request; rw [intake_readEntry]
  case writeLineCfg => apply intake_request; exact intake_judgeLineCfg s _ _
  case writePositionCfg => apply intake_request; exact intake_judgePositionCfg s _ _
  case writeKeyMap => apply intake_request; exact intake_judgeKeyMap s _ _
  case writeSpeakerAssign => apply intake_request; exact intake_judgeSpeakerAssign s _ _
  case writeLampStyle => apply intake_request; exact intake_judgeLampStyle s _ _
  case writeGroupCfg => apply intake_request; exact intake_judgeGroupCfg s _ _
  case writeCgCfg => apply intake_request; exact intake_judgeCgCfg s _ _
  case writeTone tag i e =>
    exact chain_ite _ (intake_request s 2 tag (fun s => s.judgeTone i e) (intake_judgeTone s i e)) (intake_badRequest s _ _)
  case writePolicyCtrl => apply intake_request; exact intake_judgePolicyCtrl s _ _
  case writePolicyFixed => apply intake_request; exact intake_judgePolicyFixed s _ _
  case writePolicyRange => apply intake_request; exact intake_judgePolicyRange s _ _
  case writeRecMode => apply intake_request; exact intake_judgeRecMode s _ _
  case readState => apply intake_request; exact intake_judgeReadState s _ _ _
  case clearFault => apply intake_request; exact intake_judgeClearFault s _
  case trigger => apply intake_request; exact intake_judgeTrigger s _
  case forceRelease => apply intake_request; exact intake_judgeForceRelease s _
  case setEventMode => apply intake_request; exact intake_judgeEventMode s _ _
  case readSummary tag c => apply intake_request; rw [intake_summary]
  case ackClass => apply intake_request; exact intake_judgeAck s _
  case setLaneRatio => apply intake_request; exact .single (.lane s _)
  case hold => apply intake_request; exact .single (.hold s)
  case holdRelease => apply intake_request; exact .single (.release s)
  case malformedRequest => exact intake_badRequest s _ _
  case unknownTableWrite => apply intake_request; exact .refl
  all_goals exact .refl

theorem intake_takeConsole (s : State) (p : PosNo) (c : List Byte) : ReflTransGen IntakeOp s (s.takeConsole p c) := by
  unfold State.takeConsole
  split
  · exact .single (.keyDown s _ _)
  · exact .single (.keyUp s _ _)
  · exact .single (.hookCell s _ _ _)
  · exact .single (.levelCell s _ _ _)
  · exact .refl

/-! #### The frame period -/

theorem period_takeCell (s : State) (c : List Byte) : ReflTransGen PeriodOp s (s.takeCell c) := by
  unfold State.takeCell
  split
  · exact chain_mono (fun _ _ => PeriodOp.intake) (intake_takeRequest s _)
  · exact .refl

theorem period_takeHandOver (n : Nat) (s : State) : ReflTransGen PeriodOp s (State.takeHandOver n s) := by
  induction n generalizing s with
  | zero => exact .refl
  | succ n ih =>
    unfold State.takeHandOver
    split
    · exact .refl
    · exact .trans (.single (.handOver s _)) ((period_takeCell _ _).trans (ih _))

theorem period_mgmtCells (s : State) (m : QuadNo) (cells : List (List Byte)) :
    ReflTransGen PeriodOp s (s.mgmtCells m cells) := by
  unfold State.mgmtCells
  exact chain_ite _ (.trans (.single (.handOver s _)) (period_takeHandOver _ _)) .refl

theorem period_farSignals (s : State) (m : QuadNo) (v : Vector ChannelIn 128) :
    ReflTransGen PeriodOp s (s.farSignals m v) :=
  chain_foldl _ (fun s _ => .single (.farSignal s _ _ _)) _ _

theorem period_linePortLost (s : State) (m : QuadNo) : ReflTransGen PeriodOp s (s.linePortLost m) :=
  chain_foldl _ (fun s l => .single (.farSignal s _ l _)) _ _

theorem period_lineFrame (s : State) (m : QuadNo) (f : LineFrame) : ReflTransGen PeriodOp s (s.lineFrame m f) := by
  unfold State.lineFrame
  refine .trans (.single (.judgePort s (lpPort m) f.good)) ?_
  exact chain_ite _ (period_linePortLost _ _)
    (chain_ite _ ((period_farSignals _ _ _).trans (period_mgmtCells _ _ _)) .refl)

theorem period_slotFrame (s : State) (p : PosNo) (x : SlotIn) : ReflTransGen PeriodOp s (s.slotFrame p x) := by
  unfold State.slotFrame
  simp only
  have cells (s : State) : ReflTransGen PeriodOp s (x.cells.foldl (fun s c => s.takeConsole p c) s) :=
    chain_foldl _ (fun s c => chain_mono (fun _ _ => PeriodOp.intake) (intake_takeConsole s p c)) _ s
  refine .trans (.single (.setPresent s p x.present)) ?_
  have here (s : State) (a b : Prop) [Decidable a] [Decidable b] :
      ReflTransGen PeriodOp s (if a then s.goOnline p else if b then s.goOffline [p] else s) :=
    chain_ite _ (.single (.goOnline s p)) (chain_ite _ (.single (.goOffline s [p])) .refl)
  split
  · exact (here _ _ _).trans (cells _)
  · exact here _ _ _

theorem period_positionPortLost (s : State) (m : QuadNo) : ReflTransGen PeriodOp s (s.positionPortLost m) :=
  (chain_foldl _ (fun s p => .single (.setPresent s p false)) _ s).trans (.single (.goOffline _ _))

theorem period_positionFrame (s : State) (m : QuadNo) (f : PositionFrame) :
    ReflTransGen PeriodOp s (s.positionFrame m f) := by
  unfold State.positionFrame
  refine .trans (.single (.judgePort s (ppPort m) f.good)) ?_
  exact chain_ite _ (period_positionPortLost _ _)
    (chain_ite _ (chain_foldl _ (fun s _ => period_slotFrame s _ _) _ _) .refl)

theorem period_readiesIn (s : State) (v : Vector Bool 128) : ReflTransGen PeriodOp s (s.readiesIn v) :=
  chain_foldl _ (fun s i => .single (.slotReadyIn s i _)) _ _

theorem period_recorderFrame (s : State) (f : RecorderFrame) : ReflTransGen PeriodOp s (s.recorderFrame f) := by
  unfold State.recorderFrame
  refine .trans (.single (.judgePort s recPort f.good)) ?_
  refine chain_ite _ (.single (.recorderLost _)) (chain_ite _ ?_ .refl)
  exact .trans (chain_ite _ .refl (.single (.recorderBack _))) (period_readiesIn _ _)

theorem period_takeFrames (s : State) (f : Inbound) : ReflTransGen PeriodOp s (s.takeFrames f) := by
  unfold State.takeFrames
  have lines := chain_foldl (fun s m => s.lineFrame m f.lines[m]) (fun s m => period_lineFrame s m _) (List.finRange 4) s
  refine lines.trans ?_
  generalize List.foldl (fun s m => s.lineFrame m f.lines[m]) s (List.finRange 4) = a
  have positions := chain_foldl (fun s m => s.positionFrame m f.positions[m]) (fun s m => period_positionFrame s m _)
    (List.finRange 4) a
  exact positions.trans (period_recorderFrame _ _)

theorem period_mixFrame (s : State) : ReflTransGen PeriodOp s s.mixFrame := by
  have clips := chain_foldl State.countClip (fun s i => .single (PeriodOp.countClip s i)) s.clipped
    { s with lif := { s.lif with prepared := s.mixed } }
  exact .trans (.single (.prepare s s.mixed)) ((clips.tail (.advanceTones _)).tail (.closeSteps _))

/-! #### Commands -/

/-- The blocks take a cadence step one after another while the switching blocks are running. -/
theorem step_ticks (s : State) (hr : s.running = true) :
    ReflTransGen StepOp s s.stepGens.lineTimers.denialSteps.talkTimeouts := by
  have h1 : s.stepGens.running = true := by rw [(does_stepGens (K := fun _ => True) trivial trivial s).running, hr]
  have h2 : s.stepGens.lineTimers.running = true := by
    rw [(does_lineTimers (K := fun _ => True) ⟨trivial, trivial, fun _ _ => trivial, fun _ _ => trivial, fun _ _ => trivial⟩
      trivial _).running, h1]
  refine .trans (.single (.stepGens s hr)) (.trans (.single (.lineTimers _ h1)) ?_)
  generalize s.stepGens.lineTimers = a at h2
  exact .trans (.single (.denialSteps a)) (.single (.timeoutStep _ _ h2))

theorem step_cadenceStep (s : State) : ReflTransGen StepOp s s.cadenceStep :=
  .trans (.single (.clock s)) (by
    unfold State.cadenceStep
    generalize ({ s with cdu := { s.cdu with clock := s.cdu.clock + 1 } } : State) = a
    simp only
    split
    · exact step_ticks a (by assumption)
    · exact .refl)

theorem step_periodStep (s : State) : ReflTransGen StepOp s s.periodStep := by
  unfold State.periodStep
  exact chain_ite _ (step_cadenceStep s) .refl

theorem step_initBound (s : State) : ReflTransGen StepOp s s.initBound := by
  unfold State.initBound
  exact chain_ite _ (.single (.endInit s)) .refl

theorem step_framePeriod (s : State) (f : Inbound) : ReflTransGen StepOp s (s.framePeriod f) := by
  have period {a b : State} (h : ReflTransGen PeriodOp a b) : ReflTransGen StepOp a b :=
    chain_mono (fun _ _ => .period) h
  unfold State.framePeriod
  refine .trans (.single (.sendFrames s)) (.trans (.single (.storeSamples _ f)) ?_)
  generalize s.sendFrames.storeSamples f = a
  refine .trans ?_ ((step_periodStep _).trans (step_initBound _))
  exact chain_ite _ (period ((period_mixFrame a).trans (period_takeFrames _ f)))
    (period ((period_takeFrames a f).trans (period_mixFrame _)))

/-- The effect of a command that RST low keeps out. -/
theorem live_chain {f : State → State} {s t : State} (h : live f s = .next t) (hf : ReflTransGen StepOp s (f s)) :
    ReflTransGen StepOp s t := by
  obtain rfl := Host.Outcome.next.inj h
  exact chain_ite _ .refl hf

theorem whileRunning_chain {f : State → State} {s : State} (hf : s.running = true → ReflTransGen StepOp s (f s)) :
    ReflTransGen StepOp s (whileRunning f s) := by
  unfold whileRunning
  split
  · exact hf (by assumption)
  · exact .refl

/-- The commands that MGA takes as requests. -/
def forMga : Instr → Prop
  | .hardReset _ | .initEnd | .framePeriod _ | .cadenceStep | .generatorWrap _ | .oneshotCompletion _
  | .ringTimerExpiry _ | .answerTimerExpiry _ | .hangTimerExpiry _ | .guardTimerExpiry _ | .denialExpiry _
  | .talkTimeout _ | .closeCountExpiry _ | .keyDown _ _ | .keyUp _ _ | .hook _ _ _ | .level _ _ _
  | .lineRequest _ _ _ _ | .releaseRequest _ _ _ | .hookRelease _ _ | .holdRequest _ _ _ | .privacyToggle _ _ _
  | .speakerTalkSet _ _ _ | .ringRequest _ | .demandToggle _ | .talkRequest _ _ _ _ | .talkRelease _ _ | .rstLow => False
  | _ => True

/-- A host's request given as a command runs as MGA takes it. -/
theorem exec_request (i : Instr) (s : State) (h : forMga i) : exec i s = live (fun s => s.takeRequest i) s := by
  cases i <;> first | rfl | exact absurd h id

/-- Every command is a chain of operations. -/
theorem exec_chain (c : Instr) {s t : State} (h : exec c s = .next t) : ReflTransGen StepOp s t := by
  have request (i : Instr) : ReflTransGen StepOp s (s.takeRequest i) :=
    chain_mono (fun _ _ h => StepOp.period (.intake h)) (intake_takeRequest s i)
  have one {u : State} (h : StepOp s u) : ReflTransGen StepOp s u := .single h
  have cell {u : State} (h : IntakeOp s u) : ReflTransGen StepOp s u := .single (.period (.intake h))
  cases c
  case hardReset m => obtain rfl := Host.Outcome.next.inj h; exact one (.hardReset s m)
  case rstLow => obtain rfl := Host.Outcome.next.inj h; exact one (.resetLow s)
  case initEnd => exact live_chain h (one (.endInit s))
  case framePeriod f => exact live_chain (f := fun s => s.framePeriod f) h (step_framePeriod s f)
  case cadenceStep => exact live_chain h (step_cadenceStep s)
  case generatorWrap n => exact live_chain (f := fun s => s.wrapGen n) h (one (.wrapGen s n))
  case oneshotCompletion n => exact live_chain (f := fun s => s.completeGen n) h (one (.completeGen s n))
  case ringTimerExpiry l => exact live_chain (f := fun s => s.ringExpiry l) h (one (.ringExpiry s l))
  case answerTimerExpiry l => exact live_chain (f := fun s => s.answerExpiry l) h (one (.answerExpiry s l))
  case hangTimerExpiry l => exact live_chain (f := fun s => s.hangExpiry l) h (one (.hangExpiry s l))
  case guardTimerExpiry l => exact live_chain (f := fun s => s.guardExpiry l) h (one (.guardExpiry s l))
  case denialExpiry p => exact live_chain (f := fun s => s.endDenial p) h (one (.endDenial s p))
  case talkTimeout g =>
    exact live_chain (f := whileRunning fun s => s.timeoutStep [g]) h
      (whileRunning_chain fun hr => one (.timeoutStep s [g] hr))
  case closeCountExpiry c =>
    exact live_chain (f := whileRunning fun s => s.closeExpiry c) h
      (whileRunning_chain fun hr => one (.closeExpiry s c hr))
  case keyDown p b => exact live_chain (f := fun s => s.keyDown p b) h (cell (.keyDown s p b))
  case keyUp p b => exact live_chain (f := fun s => s.keyUp p b) h (cell (.keyUp s p b))
  case hook p a b => exact live_chain (f := fun s => s.hookCell p a b) h (cell (.hookCell s p a b))
  case level p e v => exact live_chain (f := fun s => s.levelCell p e v) h (cell (.levelCell s p e v))
  case lineRequest p a l k =>
    exact live_chain (f := whileRunning fun s => s.lineRequest p a l k) h
      (whileRunning_chain fun hr => one (.lineRequest s p a l k hr))
  case releaseRequest p a k =>
    exact live_chain (f := whileRunning fun s => s.releaseKey p a k) h
      (whileRunning_chain fun hr => one (.releaseKey s p a k hr))
  case hookRelease p a =>
    exact live_chain (f := whileRunning fun s => s.hookRelease p a) h
      (whileRunning_chain fun hr => one (.hookRelease s p a hr))
  case holdRequest p a k =>
    exact live_chain (f := whileRunning fun s => s.holdKey p a k) h
      (whileRunning_chain fun hr => one (.holdKey s p a k hr))
  case privacyToggle p a k =>
    exact live_chain (f := whileRunning fun s => s.privacyKey p a k) h
      (whileRunning_chain fun hr => one (.privacyKey s p a k hr))
  case speakerTalkSet p c b =>
    exact live_chain (f := whileRunning fun s => s.speakerTalk p c b) h
      (whileRunning_chain fun hr => one (.speakerTalk s p c b hr))
  case ringRequest l => exact live_chain (f := fun s => s.ringRequest l) h (one (.ringRequest s l))
  case demandToggle l =>
    exact live_chain (f := whileRunning fun s => s.toggleDemand l) h
      (whileRunning_chain fun hr => one (.toggleDemand s l hr))
  case talkRequest p g c k =>
    exact live_chain (f := whileRunning fun s => s.talkRequest p g c k) h
      (whileRunning_chain fun hr => one (.talkRequest s p g c k hr))
  case talkRelease p g =>
    exact live_chain (f := whileRunning fun s => s.talkRelease p g) h
      (whileRunning_chain fun hr => one (.talkRelease s p g hr))
  all_goals
    rw [exec_request _ _ (by trivial)] at h
    exact live_chain h (request _)

/-- Every step is a chain of operations. -/
theorem step_chain {s t : State} (h : step s = .next t) : ReflTransGen StepOp s t := by
  unfold step at h
  split at h
  · obtain rfl := Host.Outcome.next.inj h; exact .refl
  · exact .trans (.single (.queue s _)) (exec_chain _ h)

/-- What is reflexive, transitive and kept by every operation is kept by every step. -/
theorem step_keeps {R : State → State → Prop} (refl : ∀ s, R s s) (trans : ∀ {a b c}, R a b → R b c → R a c)
    (op : ∀ s t, StepOp s t → R s t) {s t : State} (h : step s = .next t) : R s t :=
  chain_keeps refl trans op (step_chain h)

end Sys2Proof.Machine

end

/-! ### O4: the DISABLED lines are those of kind UNUSED -/

namespace Sys2Proof.Machine

/-- The footprint of any operation. -/
def anything : Touch → Prop := fun _ => True

theorem calls_anything (A : LineNo → Prop) : Calls anything A :=
  ⟨trivial, trivial, fun _ _ => trivial, fun _ _ => trivial, fun _ _ => trivial⟩

theorem disabledIsUnused_of_lnc {s t : State} (h : t.lnc = s.lnc) (hs : s.disabledIsUnused) : t.disabledIsUnused := by
  intro l
  have : t.line l = s.line l := by simp [State.line, h]
  rw [this]
  exact hs l

theorem Base.disabledIsUnused {s t : State} (h : Base s t) (hs : s.disabledIsUnused) : t.disabledIsUnused := by
  intro l
  rw [h.disabled l, h.cfg l]
  exact hs l

/-- R8, R22: a write of a line's kind moves the line to and from DISABLED with it. -/
theorem lineCfgWritten_disabledIsUnused (s : State) (l : LineNo) (cfg : LineCfg) (hs : s.disabledIsUnused) :
    (s.lineCfgWritten l cfg).disabledIsUnused := by
  have hl := hs l
  have moved (new : LineState) (hnew : new = .disabled ↔ cfg.kind = .unused) :
      ((s.setLine l { s.line l with cfg := cfg }).moveLine l new .config).disabledIsUnused := by
    intro x
    by_cases hx : l = x
    · subst hx; simpa [State.moveLine, LineRec.enter] using hnew
    · simpa [State.moveLine, State.setLine_line_ne _ _ hx] using hs x
  have stored (hkind : (s.line l).cfg.kind = .unused ↔ cfg.kind = .unused) :
      (s.setLine l { s.line l with cfg := cfg }).disabledIsUnused := by
    intro x
    by_cases hx : l = x
    · subst hx; simpa [← hkind] using hl
    · simpa [State.setLine_line_ne _ _ hx] using hs x
  unfold State.lineCfgWritten
  refine (base_testExit _ l _).disabledIsUnused ?_
  unfold State.kindChanged
  simp only [State.setLine_line_self, State.setLine_running]
  split_ifs with hleave hrun henter heval
  · refine ((base_evaluate _ l _ ?_).trans (base_makeLineMonitors _ l)).disabledIsUnused (moved .idle ?_)
    · simp [State.moveLine, LineRec.enter]
    · simp [hleave.2]
  · exact moved .idle (by simp [hleave.2])
  · exact (base_removeLine _ l _).disabledIsUnused (moved .disabled (by simp [henter.2]))
  · refine (base_evaluate _ l _ ?_).disabledIsUnused (stored ?_)
    · simp only [Bool.and_eq_true, decide_eq_true_eq] at heval
      simp [heval.1.2]
    · by_cases h1 : (s.line l).cfg.kind = .unused <;> by_cases h2 : cfg.kind = .unused <;> simp_all
  · refine stored ?_
    by_cases h1 : (s.line l).cfg.kind = .unused <;> by_cases h2 : cfg.kind = .unused <;> simp_all

theorem changeAssign_base (s : State) (i : Fin 256) (a : Assign) : Base s (s.changeAssign i a) := by
  have put (s : State) : Base s (({ s with psc := { s.psc with assigns := s.psc.assigns.set i a } } : State).makeMonitors
      [(assignPos i, assignSpk i)]) := (calm_psc s _).toBase.trans (base_makeMonitors _ _)
  unfold State.changeAssign
  split
  · exact (base_removeConns s _ _).trans (put _)
  · exact put s
  · exact put s

theorem storePositionCfg_calm (s : State) (p : PosNo) (cfg : PositionCfg) : Calm s (s.storePositionCfg p cfg) := by
  unfold State.storePositionCfg
  exact Calm.ite _ ((calm_setPosition s p _).trans (calm_reResolvePosition _ p)) (calm_setPosition s p _)

theorem storeEnabled_calm (s : State) (g : GroupNo) (on : Bool) : Calm s (s.storeEnabled g on) := by
  have put : Calm s (s.setGroupCfg g { (s.group g).cfg with enabled := on }) := calm_setGroup s g _
  unfold State.storeEnabled
  exact Calm.ite _ put (Calm.ite _ (put.trans (calm_groupEnabled _ g)) (put.trans (calm_groupDisabled _ g)))

theorem storeGroupCfg_calm (s : State) (g : GroupNo) (cfg : GroupCfg) : Calm s (s.storeGroupCfg g cfg) := by
  have stored (t : State) (h : Calm s t) (n : Nat) (code : PolicyCode) :
      Calm s (((t.limitChanged g n).storeRecordCode g code).storeEnabled g cfg.enabled) :=
    ((h.trans (calm_limitChanged t g n)).trans (calm_setGroup _ g _)).trans (storeEnabled_calm _ g _)
  unfold State.storeGroupCfg
  exact Calm.ite _ ((stored _ (calm_setGroup s g _) _ _).trans (calm_noticeGroups _ _)) (stored _ (calm_setGroup s g _) _ _)

theorem storeGen_calm (s : State) (n : CgNo) (on : Bool) (mode : CgMode) (source : Option CgNo) (shape : Shape)
    (pair : Bool) : Calm s (s.storeGen n on mode source shape pair) := by
  unfold State.storeGen
  exact Calm.ite _ ((calm_setGen s n _).trans (calm_enableGen _ n))
    (Calm.ite _ ((calm_setGen s n _).trans (calm_disableGen _ n)) (calm_setGen s n _))

theorem clearClip_calm (s : State) (i : Nat) : Calm s (s.clearClip i) := by
  unfold State.clearClip
  split
  · exact calm_mix s _
  · exact Calm.refl s

theorem holdShelf_disabledIsUnused (s : State) (hs : s.disabledIsUnused) : s.holdShelf.disabledIsUnused := by
  unfold State.holdShelf
  split
  · refine (calm_raise _ _).toBase.disabledIsUnused fun l => ?_
    have held : s.holdBlocks.line l = (s.line l).hold := by simp [State.line, State.holdBlocks, Lnc.hold]
    show (s.holdBlocks.line l).state = .disabled ↔ (s.holdBlocks.line l).cfg.kind = .unused
    rw [held]
    simpa [LineRec.hold] using hs l
  · exact hs

theorem releaseShelf_disabledIsUnused (s : State) (hs : s.disabledIsUnused) : s.releaseShelf.disabledIsUnused := by
  unfold State.releaseShelf
  split
  · refine (Base.trans (base_evaluateAll _) (base_makeAllMonitors _)).disabledIsUnused ?_
    exact (calm_raise ({ s with mga := { s.mga with phase := .running } }) .switchingReleased).toBase.disabledIsUnused hs
  · exact hs

theorem intakeOp_disabledIsUnused {s t : State} (h : IntakeOp s t) (hs : s.disabledIsUnused) : t.disabledIsUnused := by
  cases h
  case lineCfg l cfg => exact lineCfgWritten_disabledIsUnused s l cfg hs
  case positionCfg p cfg => exact (storePositionCfg_calm s p cfg).toBase.disabledIsUnused hs
  case changeAssign i a => exact (changeAssign_base s i a).disabledIsUnused hs
  case groupCfg g cfg => exact (storeGroupCfg_calm s g cfg).toBase.disabledIsUnused hs
  case storeGen n on m x c p => exact (storeGen_calm s n on m x c p).toBase.disabledIsUnused hs
  case policy b _ _ _ => exact (calm_reResolveTables { s with prs := b }).toBase.disabledIsUnused hs
  case clearClip i => exact (clearClip_calm s i).toBase.disabledIsUnused hs
  case clearFault l _ => exact (base_clearFault s l).disabledIsUnused hs
  case triggerGen n => exact (calm_triggerGen s n).toBase.disabledIsUnused hs
  case forceRelease l => exact (base_clearLineConns s l _).disabledIsUnused hs
  case hold => exact holdShelf_disabledIsUnused s hs
  case release => exact releaseShelf_disabledIsUnused s hs
  case keyDown p b => exact (base_keyDown s p b).disabledIsUnused hs
  case keyUp p b => exact (base_keyUp s p b).disabledIsUnused hs
  case hookCell p a b => exact (base_hookCell s p a b).disabledIsUnused hs
  case levelCell p e v => exact (calm_levelCell s p e v).toBase.disabledIsUnused hs
  all_goals exact hs

theorem judgePort_lnc (s : State) (n : PortNo) (good : Bool) : (s.judgePort n good).lnc = s.lnc := by
  unfold State.judgePort
  simp only
  split <;> simp

theorem periodOp_disabledIsUnused {s t : State} (h : PeriodOp s t) (hs : s.disabledIsUnused) : t.disabledIsUnused := by
  cases h
  case intake h => exact intakeOp_disabledIsUnused h hs
  case countClip i => exact (calm_countClip s i).toBase.disabledIsUnused hs
  case advanceTones => exact (calm_advanceTones s).toBase.disabledIsUnused hs
  case closeSteps => exact (calm_closeSteps s).toBase.disabledIsUnused hs
  case judgePort n good => exact disabledIsUnused_of_lnc (judgePort_lnc s n good) hs
  case farSignal c l f => exact (base_farSignal s c l f).disabledIsUnused hs
  case goOnline p => exact (base_goOnline s p).disabledIsUnused hs
  case goOffline ps => exact (base_goOffline s ps).disabledIsUnused hs
  case recorderLost => exact (calm_recorderLost s).toBase.disabledIsUnused hs
  case recorderBack => exact (calm_recorderBack s).toBase.disabledIsUnused hs
  case slotReadyIn i b => exact (calm_slotReadyIn s i b).toBase.disabledIsUnused hs
  all_goals exact hs

theorem reset_disabledIsUnused (s : State) (m : QuadNo) : (s.hardReset m).disabledIsUnused := by
  intro l
  simp [State.hardReset, State.atReset, State.line, Lnc.reset, LineRec.reset, LineCfg.reset]

theorem stepOp_disabledIsUnused {s t : State} (h : StepOp s t) (hs : s.disabledIsUnused) : t.disabledIsUnused := by
  have base {u : State} (h : Base s u) : u.disabledIsUnused := h.disabledIsUnused hs
  cases h
  case period h => exact periodOp_disabledIsUnused h hs
  case hardReset m => exact reset_disabledIsUnused s m
  case endInit =>
    unfold State.endInit
    split
    · exact disabledIsUnused_of_lnc (by simp) hs
    · exact hs
  case stepGens => exact base (calm_stepGens s).toBase
  case lineTimers => exact base (base_lineTimers s)
  case timeoutStep gs _ => exact base (calm_timeoutStep s gs).toBase
  case wrapGen n => exact base (calm_wrapGen s n).toBase
  case completeGen n => exact base (calm_completeGen s n).toBase
  case ringExpiry l => exact base (calm_ringExpiry s l).toBase
  case answerExpiry l => exact base (base_answerExpiry s l)
  case hangExpiry l => exact base (calm_hangExpiry s l).toBase
  case guardExpiry l => exact base (base_guardExpiry s l)
  case closeExpiry c _ => exact base (calm_closeExpiry s c).toBase
  case lineRequest p a l k _ => exact base (base_lineRequest s p a l k)
  case releaseKey p a k _ => exact base (base_releaseKey s p a k)
  case hookRelease p a _ => exact base (base_hookRelease s p a)
  case holdKey p a k _ => exact base (base_holdKey s p a k)
  case privacyKey p a k _ => exact base (base_privacyKey s p a k)
  case ringRequest l => exact base (calm_ringRequest s l).toBase
  case toggleDemand l _ => exact base (calm_toggleDemand s l).toBase
  case talkRequest p g c k _ => exact base (calm_talkRequest s p g c k).toBase
  case talkRelease p g _ => exact base (calm_talkRelease s p g).toBase
  case sendFrames => exact disabledIsUnused_of_lnc rfl hs
  case denialSteps => exact base (calm_denialSteps s).toBase
  case endDenial p => exact base (calm_endDenial s p).toBase
  case speakerTalk p c b _ => exact base (base_speakerTalk s p c b)
  case storeSamples f => exact disabledIsUnused_of_lnc (by simp only [State.storeSamples]) hs
  case queue cs => exact hs
  case clock => exact hs
  case resetLow => exact hs

/-- Settles O4: every operation of a step keeps the law, and a write of a line's kind carries the state with it. -/
theorem disabledLinesAreUnusedKept : Obligations.DisabledLinesAreUnusedKept := fun _ _ hs h =>
  step_keeps (R := fun s t => s.disabledIsUnused → t.disabledIsUnused) (fun _ h => h) (fun h k hs => k (h hs))
    (fun _ _ => stepOp_disabledIsUnused) h hs

end Sys2Proof.Machine

/-! ### Configuration writes: their footprints -/

namespace Sys2Proof.Machine

section
variable {K : Touch → Prop}

theorem does_storePositionCfg (hp : K .psc) (hr : K .recording) (s : State) (p : PosNo) (cfg : PositionCfg) :
    Does K s (s.storePositionCfg p cfg) := by
  unfold State.storePositionCfg
  exact Does.ite _ ((does_setPosition hp s p _).trans (does_reResolve hr _ _)) (does_setPosition hp s p _)

theorem does_groupEnabled (s : State) (g : GroupNo) (hl : ∀ l, K (.line l)) : Does K s (s.groupEnabled g) :=
  Does.foldl _ _ (fun s l _ => does_moveLine s l _ _ (hl l)) s

theorem does_storeEnabled (hg : K .gtu) (hl : ∀ l, K (.line l)) (s : State) (g : GroupNo) (on : Bool) :
    Does K s (s.storeEnabled g on) := by
  have put : Does K s (s.setGroupCfg g { (s.group g).cfg with enabled := on }) := does_setGroup hg s g _
  unfold State.storeEnabled
  exact Does.ite _ put (Does.ite _ (put.trans (does_groupEnabled _ g hl)) (put.trans (does_groupDisabled hg _ g hl)))

theorem does_storeGroupCfg (hg : K .gtu) (hr : K .recording) (hl : ∀ l, K (.line l)) (s : State) (g : GroupNo)
    (cfg : GroupCfg) : Does K s (s.storeGroupCfg g cfg) := by
  have stored (t : State) (h : Does K s t) (n : Nat) (code : PolicyCode) :
      Does K s (((t.limitChanged g n).storeRecordCode g code).storeEnabled g cfg.enabled) :=
    ((h.trans (does_limitChanged hg hr t g n)).trans (does_setGroup hg _ g _)).trans (does_storeEnabled hg hl _ g _)
  unfold State.storeGroupCfg
  exact Does.ite _ ((stored _ (does_setGroup hg s g _) _ _).trans (does_noticeGroups hr _ _))
    (stored _ (does_setGroup hg s g _) _ _)

theorem does_clearClip (hm : K .mix) (s : State) (i : Nat) : Does K s (s.clearClip i) := by
  unfold State.clearClip
  split
  · exact (Update.mix s _).does hm
  · exact .refl

end

/-! ### The connection table: what a change of it does to a line's connections -/

section
variable (s : State) (l : LineNo)

theorem lineConns_congr {t : State} (h : t.cxm.conns = s.cxm.conns) : t.lineConns l = s.lineConns l := by
  simp [State.lineConns, h]

theorem totalsNow_congr {t : State} (h : t.lineConns l = s.lineConns l) : t.totalsNow l = s.totalsNow l := by
  simp [State.totalsNow, State.monitors, h]

/-- The footprint of the removal of records from the table: the table and the privacy flags. -/
def tableOnly : Touch → Prop
  | .conns => True
  | .privacy _ => True
  | _ => False

theorem does_dropConns_table (gone : Conn → Bool) (cause : ConnectCause) : Does tableOnly s (s.dropConns gone cause) :=
  does_dropConns trivial s gone cause fun _ _ _ => trivial

/-- The footprint of what follows a removal from the table. -/
def flagsOnly : Touch → Prop
  | .privacy _ => True
  | _ => False

theorem dropConns_conns (gone : Conn → Bool) (cause : ConnectCause) :
    (s.dropConns gone cause).cxm.conns = s.cxm.conns.filter (fun c => !gone c) := by
  have flags (s : State) (cs : List Conn) : Does flagsOnly s
      (cs.foldl State.leavePrivacy (cs.foldl (fun s c => s.connEvent .removed c cause) s)) :=
    (does_raises _ _ _).trans (Does.foldl _ _ (fun s c _ => does_leavePrivacy s c trivial) _)
  unfold State.dropConns
  exact (flags _ _).conns

theorem dropConns_lineConns (gone : Conn → Bool) (cause : ConnectCause) :
    (s.dropConns gone cause).lineConns l = (s.lineConns l).filter (fun c => !gone c) := by
  simp only [State.lineConns, dropConns_conns, List.filter_filter, Bool.and_comm]

/-- Records of other lines do not stand among a line's connections. -/
theorem filter_line_eq_nil {cs : List Conn} (h : ∀ c ∈ cs, c.line ≠ l) : cs.filter (fun c => c.line = l) = [] := by
  simpa [List.filter_eq_nil_iff] using h

theorem changeConn_lineConns_ne {c c' : Conn} (hc : c'.line = c.line) (h : c.line ≠ l) :
    (s.changeConn c c').lineConns l = s.lineConns l := by
  simp only [State.lineConns, State.changeConn]
  induction s.cxm.conns with
  | nil => rfl
  | cons x xs ih =>
    by_cases hx : x = c
    · subst hx
      simp_all
    · simp [List.filter_cons, ih, hx]

theorem speakerTalk_totalsNow (p : PosNo) (c : SpkNo) (b : Bool) : (s.speakerTalk p c b).totalsNow l = s.totalsNow l := by
  have same (x : Conn) : (Conn.setTalk p c b x).line = x.line ∧ (Conn.setTalk p c b x).place = x.place := by
    unfold Conn.setTalk; split <;> exact ⟨rfl, rfl⟩
  have keep (f : Conn → Bool) (hf : ∀ x, f (Conn.setTalk p c b x) = f x) (cs : List Conn) :
      ((cs.map (Conn.setTalk p c b)).filter f).length = (cs.filter f).length := by
    rw [List.filter_map, List.length_map, show f ∘ Conn.setTalk p c b = f from funext hf]
  simp only [State.totalsNow, State.monitors, State.lineConns, State.speakerTalk, List.filter_filter]
  congr 1 <;> exact keep _ (fun x => by simp [same x]) _

end

/-! ### O6: LNC's totals are those of the connection table -/

/-- LNC's totals of a line are those of the connection table. -/
def State.reported (s : State) (l : LineNo) : Prop := (s.line l).totals = s.totalsNow l

/-- No line's totals are brought out of step with the connection table. -/
def Squares (s t : State) : Prop := ∀ l, s.reported l → t.reported l

theorem Squares.refl (s : State) : Squares s s := fun _ h => h

theorem Squares.trans {a b c : State} (h : Squares a b) (k : Squares b c) : Squares a c := fun l ha => k l (h l ha)

theorem Squares.ite {s a b : State} (p : Prop) [Decidable p] (h : Squares s a) (k : Squares s b) :
    Squares s (if p then a else b) := by
  split
  · exact h
  · exact k

theorem Squares.foldl {α : Type} (f : State → α → State) (h : ∀ s a, Squares s (f s a)) (l : List α) (s : State) :
    Squares s (l.foldl f s) := by
  induction l generalizing s with
  | nil => exact .refl s
  | cons a l ih => exact (h s a).trans (ih _)

theorem Squares.of_eq {s t : State} (hl : t.lnc = s.lnc) (hc : t.cxm.conns = s.cxm.conns) : Squares s t := by
  intro l h
  have hline : t.line l = s.line l := by simp [State.line, hl]
  rw [State.reported, hline, totalsNow_congr s l (lineConns_congr s l hc)]
  exact h

/-- A line's record with other fields but its own totals stays in step. -/
theorem squares_setLine (s : State) (l : LineNo) (r : LineRec) (h : r.totals = (s.line l).totals) :
    Squares s (s.setLine l r) := by
  intro x hx
  show ((s.setLine l r).line x).totals = s.totalsNow x
  by_cases e : l = x
  · subst e; rw [State.setLine_line_self, h]; exact hx
  · rw [State.setLine_line_ne _ _ e]; exact hx

/-- The footprint of an operation that leaves the connection table alone. -/
def offTable : Touch → Prop
  | .conns => False
  | _ => True

theorem endBurst_totals (es : List CgNo) (r : LineRec) : (r.endBurst es).totals = r.totals := by
  unfold LineRec.endBurst; split <;> [split; skip] <;> rfl

/-- LNC's totals change by reports alone. -/
theorem Does.squares {s t : State} (h : Does offTable s t) : Squares s t :=
  h.keeps Squares .refl .trans (fun _ _ => .of_eq (by simp) (by simp)) fun k s t hk hu => by
    cases hu
    case conns => exact hk.elim
    case need x n => exact .of_eq (by simp) (by simp)
    case enter => exact squares_setLine _ _ _ rfl
    case timers => exact squares_setLine _ _ _ rfl
    case burst => exact squares_setLine _ _ _ rfl
    case far => exact squares_setLine _ _ _ rfl
    case totals l =>
      intro x hx
      show ((s.setLine l _).line x).totals = s.totalsNow x
      by_cases e : l = x
      · subst e; simp
      · rw [State.setLine_line_ne _ _ e]; exact hx
    case bursts es =>
      intro x hx
      have same : ((s.endBursts es).line x).totals = (s.line x).totals := by
        simp [State.endBursts, State.line, endBurst_totals]
      exact same.trans hx
    case ticks =>
      intro x hx
      have same : (({ s with lnc := { s.lnc with lines := s.lnc.lines.map LineRec.tick } } : State).line x).totals =
          (s.line x).totals := by
        simp [State.line, LineRec.tick]
      exact same.trans hx
    all_goals exact .of_eq rfl rfl

theorem does_report_off (s : State) (l : LineNo) : Does offTable s (s.report l) := does_report s l trivial

/-- R7: a report brings the line's totals into step. -/
theorem report_reported (s : State) (l : LineNo) : (s.report l).reported l := by
  have taken : (s.setLine l { s.line l with totals := s.totalsNow l }).reported l := by
    show ((s.setLine l _).line l).totals = s.totalsNow l
    simp
  unfold State.report
  simp only
  split
  · exact (does_connectionEvent (K := offTable) _ l _ _ trivial).squares l taken
  · exact taken

/-- R55: after the reports of a request every line is in step that was so before it, and so is every reported line. -/
theorem notify_reported (s : State) (rs ns : List LineNo) (l : LineNo) (h : l ∉ rs → s.reported l) :
    (s.notify rs ns).reported l := by
  have reports : (rs.foldl State.report s).reported l := by
    induction rs generalizing s with
    | nil => exact h (by simp)
    | cons x xs ih =>
      refine ih _ fun hxs => ?_
      by_cases e : x = l
      · exact e ▸ report_reported s x
      · exact (does_report_off s x).squares l (h (by simp [Ne.symm e, hxs]))
  exact (does_noticeLines (K := offTable) trivial _ ns fun _ _ => trivial).squares l reports

/-- A request that changes the connections of the reported lines alone keeps the totals in step. -/
theorem squares_notify {s u : State} (rs ns : List LineNo) (hl : u.lnc = s.lnc)
    (hc : ∀ l, l ∉ rs → u.lineConns l = s.lineConns l) : Squares s (u.notify rs ns) := fun l h =>
  notify_reported u rs ns l fun hn => by
    have hline : u.line l = s.line l := by simp [State.line, hl]
    rw [State.reported, hline, totalsNow_congr s l (hc l hn)]
    exact h

/-! #### CXM -/

theorem squares_removeConns (s : State) (gone : Conn → Bool) (cause : ConnectCause) :
    Squares s (s.removeConns gone cause) := by
  unfold State.removeConns
  refine .ite _ (.refl s) (squares_notify _ _ (does_dropConns_table s gone cause).lnc fun l hl => ?_)
  rw [dropConns_lineConns, List.filter_eq_self]
  intro c hc
  simp only [State.lineConns, List.mem_filter, decide_eq_true_eq] at hc
  by_contra hg
  exact hl (mem_linesOf.2 ⟨c, List.mem_filter.2 ⟨hc.1, by simpa using hg⟩, hc.2⟩)

theorem squares_removeLine (s : State) (l : LineNo) (cause : ConnectCause) : Squares s (s.removeLine l cause) :=
  squares_removeConns s _ _

theorem squares_makeMonitors (s : State) (places : List (PosNo × SpkNo)) : Squares s (s.makeMonitors places) := by
  unfold State.makeMonitors
  refine .ite _ (.refl s) (squares_notify _ _ rfl fun l hl => ?_)
  simp only [State.lineConns, List.filter_append]
  rw [filter_line_eq_nil l fun c hc he => hl (mem_linesOf.2 ⟨c, hc, he⟩), List.append_nil]

theorem squares_clearLineConns (s : State) (l : LineNo) (c : ConnectCause) : Squares s (s.clearLineConns l c) := by
  unfold State.clearLineConns
  exact .ite _ (.refl s) ((squares_removeLine s l c).trans (squares_makeMonitors _ _))

theorem squares_makeAllMonitors (s : State) : Squares s s.makeAllMonitors :=
  .foldl _ (fun s _ => squares_makeMonitors s _) _ s

/-- R38: a displacement changes the connections of the displaced line alone. -/
theorem displace_lineConns_ne (s : State) (p : PosNo) (d : Conn) (l : LineNo) (h : d.line ≠ l) :
    (s.displace p d).lineConns l = s.lineConns l := by
  unfold State.displace
  split
  · rw [lineConns_congr (s.changeConn d { d with place := .hold }) l (by simp [State.connEvent])]
    exact changeConn_lineConns_ne s l rfl h
  · rw [dropConns_lineConns, List.filter_eq_self]
    intro c hc
    simp only [State.lineConns, List.mem_filter, decide_eq_true_eq] at hc
    simp only [Bool.not_eq_true', decide_eq_false_iff_not]
    rintro rfl
    exact h hc.2

theorem does_displace_table (s : State) (p : PosNo) (d : Conn) : Does tableOnly s (s.displace p d) := by
  unfold State.displace
  exact Does.ite _ ((does_setConns trivial s _).trans (does_raiseRunning _ _)) (does_dropConns_table s _ _)

/-- The end of a line request keeps the totals in step when the request changed the connections of its own line alone. -/
theorem squares_finishRequest {s u : State} (p : PosNo) (l : LineNo) (carried : Option Conn) (changed : Bool)
    (hl : u.lnc = s.lnc) (hc : ∀ x, l ≠ x → u.lineConns x = s.lineConns x) :
    Squares s (u.finishRequest p l carried changed) := by
  unfold State.finishRequest
  split
  · exact squares_notify _ _ hl fun x hx => hc x fun e => hx (by simp [e])
  · rename_i d
    refine squares_notify _ _ ((does_displace_table u p d).lnc.trans hl) fun x hx => ?_
    rw [displace_lineConns_ne u p d x fun e => hx (by simp [e]), hc x fun e => hx (by simp [e])]

theorem squares_bringConn (s : State) (p : PosNo) (h : Handset) (c : Conn) (k : ConnectKind) (cause : ConnectCause) :
    Squares s (s.bringConn p h c k cause) := by
  unfold State.bringConn
  refine squares_finishRequest p c.line _ false (by simp [State.connEvent, State.changeConn]) fun x hx => ?_
  rw [lineConns_congr (s.changeConn c { c with place := handsetPlace h }) x (by simp [State.connEvent])]
  exact changeConn_lineConns_ne s x rfl hx

theorem does_defaultPrivacy_flags (s : State) (c : Conn) (b : Bool) : Does flagsOnly s (s.defaultPrivacy c b) := by
  unfold State.defaultPrivacy
  exact Does.ite _ (((Update.privacy s _ _).does trivial).trans (does_raiseRunning _ _)) .refl

theorem squares_connect (s : State) (p : PosNo) (h : Handset) (l : LineNo) : Squares s (s.connect p h l) := by
  have flags := does_defaultPrivacy_flags ((s.addConn (s.newConn p h l)).connEvent .added (s.newConn p h l) .connect)
    (s.newConn p h l) (s.bridge l).isEmpty
  unfold State.connect
  refine squares_finishRequest p l _ true (flags.lnc.trans (by simp [State.connEvent, State.addConn])) fun x hx => ?_
  rw [lineConns_congr (s.addConn (s.newConn p h l)) x (flags.conns.trans (by simp [State.connEvent]))]
  simp [State.lineConns, State.addConn, State.newConn, hx]

theorem squares_pickup (s : State) (p : PosNo) (h : Handset) (l : LineNo) (held : Conn) (hl : held.line = l) :
    Squares s (s.pickup p h l held) := by
  unfold State.pickup
  refine squares_finishRequest p l _ true (by simp [State.connEvent]) fun x hx => ?_
  have erased : (s.cxm.conns.erase held).filter (fun c => c.line = x) = s.cxm.conns.filter (fun c => c.line = x) := by
    induction s.cxm.conns with
    | nil => rfl
    | cons y ys ih =>
      rw [List.erase_cons]
      split
      · rename_i hy
        have hyx : y.line ≠ x := by rwa [eq_of_beq hy, hl]
        simp [hyx]
      · simp [List.filter_cons, ih]
  simp [State.lineConns, State.connEvent, State.newConn, hx, erased]

/-- R37: the record that a pickup takes is on the line that is asked for. -/
theorem classify_pickup_line {s : State} {p : PosNo} {h : Handset} {l : LineNo} {c : Conn}
    (hc : s.classify p h l = .pickup c) : c.line = l := by
  have pickable (hp : s.pickable p l = some c) : c.line = l := by
    unfold State.pickable at hp
    split at hp
    · cases hp
    · have := List.mem_of_find?_eq_some hp
      simp only [State.bridge, State.lineConns, List.mem_filter, decide_eq_true_eq] at this
      exact this.1.2
  unfold State.classify at hc
  repeat' (split at hc <;> try cases hc)
  exact pickable (by assumption)

theorem squares_lineRequest (s : State) (p : PosNo) (h : Handset) (l : LineNo) (k : KeyNo) :
    Squares s (s.lineRequest p h l k) := by
  have deny (s : State) (r : DenyReason) (x : DenyTarget) : Squares s (s.deny p k r x) :=
    (does_deny (K := offTable) trivial s p k r x).squares
  unfold State.lineRequest
  refine .ite _ ?_ ?_
  · unfold State.lateLineRequest
    split <;> exact deny s _ _
  split
  · exact .refl s
  · exact squares_bringConn s _ _ _ _ _
  · exact squares_bringConn s _ _ _ _ _
  · rename_i hc
    split
    · exact deny s _ _
    · rename_i ha
      exact (does_admission (K := offTable) trivial _ _ _ ha).squares.trans
        (squares_pickup _ _ _ _ _ (classify_pickup_line hc))
  · split
    · exact deny s _ _
    · rename_i ha
      exact (does_admission (K := offTable) trivial _ _ _ ha).squares.trans (squares_connect _ _ _ _)

theorem squares_releaseKey (s : State) (p : PosNo) (h : Handset) (k : KeyNo) : Squares s (s.releaseKey p h k) := by
  unfold State.releaseKey
  split
  · exact squares_removeConns s _ _
  · exact (does_deny (K := offTable) trivial s _ _ _ _).squares

theorem squares_hookRelease (s : State) (p : PosNo) (h : Handset) : Squares s (s.hookRelease p h) := by
  unfold State.hookRelease
  split
  · exact squares_removeConns s _ _
  · exact .refl s

theorem squares_holdKey (s : State) (p : PosNo) (h : Handset) (k : KeyNo) : Squares s (s.holdKey p h k) := by
  unfold State.holdKey
  split
  · exact (does_deny (K := offTable) trivial s _ _ _ _).squares
  · rename_i c _
    refine .ite _ (does_deny (K := offTable) trivial s _ _ _ _).squares (squares_notify _ _ ?_ fun x hx => ?_)
    · simp [State.connEvent, State.changeConn]
    · rw [lineConns_congr (s.changeConn c { c with place := .hold }) x (by simp [State.connEvent])]
      exact changeConn_lineConns_ne s x rfl fun e => hx (by simp [e])

theorem squares_privacyKey (s : State) (p : PosNo) (h : Handset) (k : KeyNo) : Squares s (s.privacyKey p h k) := by
  have put (s : State) (l : LineNo) (b : Bool) (o : Occurrence) : Squares s ((s.setPrivacy l b).raiseRunning o) :=
    (((Update.privacy s l b).does (K := offTable) trivial).trans (does_raiseRunning _ o)).squares
  have deny (r : DenyReason) (x : DenyTarget) : Squares s (s.deny p k r x) :=
    (does_deny (K := offTable) trivial s p k r x).squares
  unfold State.privacyKey
  split
  · exact deny _ _
  · split
    · exact put s _ _ _
    · exact put s _ _ _
    · exact deny _ _
    · exact .refl s

theorem squares_speakerTalk (s : State) (p : PosNo) (c : SpkNo) (b : Bool) : Squares s (s.speakerTalk p c b) :=
  fun l h => h.trans (speakerTalk_totalsNow s l p c b).symm

/-! #### LNC -/

theorem squares_moveLine (s : State) (l : LineNo) (new : LineState) (c : LineCause) : Squares s (s.moveLine l new c) :=
  (does_moveLine (K := offTable) s l new c trivial).squares

theorem squares_enterFault (s : State) (l : LineNo) (c : LineCause) : Squares s (s.enterFault l c) :=
  (squares_moveLine s l _ c).trans (squares_removeLine _ l _)

theorem squares_exitFault (s : State) (l : LineNo) (c : LineCause) : Squares s (s.exitFault l c) :=
  (squares_moveLine s l _ c).trans (squares_makeMonitors _ _)

theorem squares_testExit (s : State) (l : LineNo) (c : LineCause) : Squares s (s.testExit l c) := by
  unfold State.testExit
  exact .ite _ (squares_exitFault s l c) (.refl s)

theorem squares_farChange (s : State) (l : LineNo) (old : FarSignal) (c : LineCause) :
    Squares s (s.farChange l old c) := by
  have timers (r : LineRec) (h : r.totals = (s.line l).totals) : Squares s (s.setLine l r) := squares_setLine s l r h
  have guard : Squares s (s.startGuard l) := by
    unfold State.startGuard
    exact .ite _ ((timers _ (by rfl)).trans (squares_testExit _ l _)) (timers _ (by rfl))
  have gone : Squares s (s.farGone l) := by
    unfold State.farGone
    exact .ite _ (squares_moveLine s l _ _) (timers _ (by rfl))
  have answer : Squares s (s.farAnswer l) := by
    unfold State.farAnswer
    exact .ite _ (.refl s) (squares_moveLine s l _ _)
  have fault : Squares s (s.enterFault l c) := squares_enterFault s l c
  have cleared (st : LineState) : Squares s (s.raiseRunning (.farCleared l st)) :=
    (does_raiseRunning (K := offTable) s _).squares
  have quiet (r : LineRec) (h : r.totals = (s.line l).totals) :
      Squares s (if (s.line l).far = .loss then s.enterFault l c else if (s.line l).far = .idle then s.farGone l
        else s.setLine l r) := .ite _ fault (.ite _ gone (timers r h))
  unfold State.farChange
  simp only
  split
  · exact .refl s
  · exact .ite _ (timers _ (by rfl)) (.ite _ guard (.refl s))
  · exact .ite _ fault (.ite _ (squares_moveLine s l _ _) (.refl s))
  · exact quiet _ (by rfl)
  · exact quiet _ (by rfl)
  · exact .ite _ fault (.ite _ answer (.refl s))
  · exact .ite _ fault (.ite _ (cleared _) (.refl s))
  · exact .ite _ fault (.ite _ (cleared _) (.refl s))

theorem squares_farSignal (s : State) (c : LineCause) (l : LineNo) (f : FarSignal) : Squares s (s.farSignal c l f) := by
  have put : Squares s (s.setLine l { s.line l with far := f }) := squares_setLine s l _ (by rfl)
  unfold State.farSignal
  exact .ite _ (.refl s) (.ite _ (put.trans (squares_farChange _ l _ c)) put)

theorem squares_answerExpiry (s : State) (l : LineNo) : Squares s (s.answerExpiry l) := by
  unfold State.answerExpiry
  exact .ite _ ((squares_setLine s l _ (by rfl)).trans (squares_clearLineConns _ l _)) (.refl s)

theorem squares_guardExpiry (s : State) (l : LineNo) : Squares s (s.guardExpiry l) := by
  unfold State.guardExpiry
  exact .ite _ ((squares_setLine s l _ (by rfl)).trans (squares_testExit _ l _)) (.refl s)

theorem squares_ringExpiry (s : State) (l : LineNo) : Squares s (s.ringExpiry l) := by
  unfold State.ringExpiry
  exact .ite _ (squares_moveLine s l _ _) (.refl s)

theorem squares_hangExpiry (s : State) (l : LineNo) : Squares s (s.hangExpiry l) := by
  unfold State.hangExpiry
  exact .ite _ (squares_moveLine s l _ _) (.refl s)

theorem squares_lineExpiries (r : LineRec) (s : State) (l : LineNo) : Squares s (State.lineExpiries r s l) := by
  unfold State.lineExpiries
  refine .trans ?_ (.ite _ (squares_guardExpiry _ l) (.refl _))
  refine .trans ?_ (.ite _ (squares_hangExpiry _ l) (.refl _))
  refine .trans ?_ (.ite _ (squares_answerExpiry _ l) (.refl _))
  exact .ite _ (squares_ringExpiry s l) (.refl s)

theorem squares_lineTimers (s : State) : Squares s s.lineTimers :=
  ((Update.ticks s).does (K := offTable) trivial).squares.trans (.foldl _ (fun t l => squares_lineExpiries _ t l) _ _)

theorem squares_evaluate (s : State) (l : LineNo) (c : LineCause) : Squares s (s.evaluate l c) := by
  unfold State.evaluate
  exact .ite _ (squares_enterFault s l c) (.ite _ (squares_moveLine s l _ c)
    (.ite _ (squares_moveLine s l _ c) (.ite _ (squares_moveLine s l _ c) (.refl s))))

theorem squares_kindChanged (s : State) (l : LineNo) (old : LineCfg) : Squares s (s.kindChanged l old) := by
  have move (new : LineState) : Squares s (s.moveLine l new .config) := squares_moveLine s l new _
  unfold State.kindChanged
  refine .ite _ ?_ (.ite _ ((move _).trans (squares_removeLine _ l _)) (.ite _ (squares_evaluate s l _) (.refl s)))
  exact (move .idle).trans (.ite _ ((squares_evaluate _ l _).trans (squares_makeMonitors _ _)) (.refl _))

theorem squares_lineCfgWritten (s : State) (l : LineNo) (cfg : LineCfg) : Squares s (s.lineCfgWritten l cfg) :=
  ((squares_setLine s l _ (by rfl)).trans (squares_kindChanged _ l _)).trans (squares_testExit _ l _)

/-! #### PSC and MGA -/

theorem squares_changeAssign (s : State) (i : Fin 256) (a : Assign) : Squares s (s.changeAssign i a) := by
  have put (s : State) : Squares s (({ s with psc := { s.psc with assigns := s.psc.assigns.set i a } } : State).makeMonitors
      [(assignPos i, assignSpk i)]) := ((Update.psc s _).does (K := offTable) trivial).squares.trans (squares_makeMonitors _ _)
  unfold State.changeAssign
  split
  · exact (squares_removeConns s _ _).trans (put _)
  · exact put s
  · exact put s

theorem squares_goOnline (s : State) (p : PosNo) : Squares s (s.goOnline p) :=
  ((does_setPosition (K := offTable) trivial s _ _).note _).squares.trans (squares_makeMonitors _ _)

theorem squares_goOffline (s : State) (ps : List PosNo) : Squares s (s.goOffline ps) :=
  ((squares_removeConns s _ _).trans (does_talkOffline (K := offTable) trivial trivial _ ps).squares).trans
    (.foldl _ (fun s p => (does_quietPosition (K := offTable) trivial s p).squares) _ _)

theorem squares_keyAction (s : State) (p : PosNo) (k : KeyNo) : Squares s (s.keyAction p k) := by
  have deny (r : DenyReason) (x : DenyTarget) : Squares s (s.deny p k r x) :=
    (does_deny (K := offTable) trivial s p k r x).squares
  have talk (g : GroupNo) : Squares s (s.talkKeyDown p k g) :=
    ((does_setPosition (K := offTable) trivial s _ _).trans
      (does_talkRequest (K := offTable) trivial trivial trivial _ _ _ _ _)).squares
  unfold State.keyAction
  simp only
  split
  · exact .refl s
  · exact squares_lineRequest s _ _ _ _
  · exact squares_releaseKey s _ _ _
  · exact squares_holdKey s _ _ _
  · exact (does_ringKey (K := offTable) trivial trivial (fun _ => trivial) s p k).squares
  · exact squares_privacyKey s _ _ _
  · exact .ite _ (.refl s) (talk _)
  · refine .ite _ (.refl s) ?_
    unfold State.speakerKeyDown
    split
    · exact talk _
    · exact .ite _ ((does_setPosition (K := offTable) trivial s _ _).squares.trans (squares_speakerTalk _ _ _ _)) (.refl s)
    · exact .refl s
  · unfold State.recordKey
    split
    · exact deny _ _
    · exact (does_toggleDemand (K := offTable) trivial s _ trivial).squares
  · exact (does_raiseRunning (K := offTable) s _).squares

theorem squares_keyDown (s : State) (p : PosNo) (b : Byte) : Squares s (s.keyDown p b) := by
  unfold State.keyDown
  split
  · exact .ite _ (squares_keyAction s p _) (.refl s)
  · exact .refl s

theorem squares_keyUp (s : State) (p : PosNo) (b : Byte) : Squares s (s.keyUp p b) := by
  have unpress (k : KeyNo) : Does offTable s (s.unpress p k) := does_setPosition (K := offTable) trivial s _ _
  unfold State.keyUp
  split
  · refine .ite _ ?_ (.refl s)
    unfold State.keyRelease
    split
    · unfold State.releasePressed
      split
      · exact ((unpress _).trans (does_talkRelease (K := offTable) trivial trivial _ _ _)).squares
      · exact (unpress _).squares.trans (squares_speakerTalk _ _ _ _)
    · exact .ite _ (does_raiseRunning (K := offTable) s _).squares (.refl s)
  · exact .refl s

theorem squares_hookCell (s : State) (p : PosNo) (b v : Byte) : Squares s (s.hookCell p b v) := by
  have set (r : PositionRec) : Squares s (s.setPosition p r) := (does_setPosition (K := offTable) trivial s p r).squares
  unfold State.hookCell
  split
  · exact .refl s
  · refine .ite _ (.refl s) (.ite _ (set _) (.ite _ ?_ (.refl s)))
    unfold State.putDown
    exact .ite _ ((set _).trans (squares_hookRelease _ _ _)) (set _)

theorem squares_releaseShelf (s : State) : Squares s s.releaseShelf := by
  unfold State.releaseShelf
  refine .ite _ (.trans ?_ ((Squares.foldl _ (fun s l => squares_evaluate s l _) _ _).trans (squares_makeAllMonitors _)))
    (.refl s)
  exact .of_eq (by simp) (by simp)

/-- R25, R67: the hold leaves no connection, and totals of 0. -/
theorem holdShelf_reported (s : State) (l : LineNo) (h : s.reported l) : s.holdShelf.reported l := by
  unfold State.holdShelf
  split
  · have off : Squares s.holdBlocks (({ s.holdBlocks with mga := { s.holdBlocks.mga with phase := .held } } : State).raise
        .switchingHeld) := .of_eq (by simp) (by simp)
    refine off l ?_
    simp [State.reported, State.holdBlocks, State.line, Lnc.hold, LineRec.hold, State.totalsNow, State.monitors,
      State.lineConns, Cxm.hold]
  · exact h

/-! #### The step -/

theorem squares_intakeOp {s t : State} (h : IntakeOp s t) : Squares s t := by
  cases h
  case lineCfg l cfg => exact squares_lineCfgWritten s l cfg
  case positionCfg p cfg => exact (does_storePositionCfg (K := offTable) trivial trivial s p cfg).squares
  case changeAssign i a => exact squares_changeAssign s i a
  case groupCfg g cfg => exact (does_storeGroupCfg (K := offTable) trivial trivial (fun _ => trivial) s g cfg).squares
  case storeGen n on m x c p => exact (does_storeGen (K := offTable) trivial trivial s n on m x c p).squares
  case policy b _ _ _ =>
    have put : Squares s { s with prs := b } := .of_eq rfl rfl
    exact put.trans (does_reResolve (K := offTable) trivial _ _).squares
  case clearClip i => exact (does_clearClip (K := offTable) trivial s i).squares
  case clearFault l _ => exact (squares_setLine s l _ (by rfl)).trans (squares_testExit _ l _)
  case triggerGen n => exact (does_triggerGen (K := offTable) trivial s n).squares
  case forceRelease l => exact squares_clearLineConns s l _
  case hold => exact holdShelf_reported s
  case release => exact squares_releaseShelf s
  case keyDown p b => exact squares_keyDown s p b
  case keyUp p b => exact squares_keyUp s p b
  case hookCell p a b => exact squares_hookCell s p a b
  case levelCell p e v => exact (does_levelCell (K := offTable) trivial s p e v).squares
  all_goals exact .of_eq rfl rfl

theorem judgePort_cxm (s : State) (n : PortNo) (good : Bool) : (s.judgePort n good).cxm = s.cxm := by
  unfold State.judgePort
  simp only
  split <;> simp

theorem squares_periodOp {s t : State} (h : PeriodOp s t) : Squares s t := by
  cases h
  case intake h => exact squares_intakeOp h
  case countClip i => exact (does_countClip (K := offTable) trivial s i).squares
  case advanceTones => exact (does_advanceTones (K := offTable) trivial s).squares
  case closeSteps => exact (does_closeSteps (K := offTable) trivial trivial s).squares
  case judgePort n good => exact .of_eq (judgePort_lnc s n good) (by rw [judgePort_cxm])
  case farSignal c l f => exact squares_farSignal s c l f
  case goOnline p => exact squares_goOnline s p
  case goOffline ps => exact squares_goOffline s ps
  case recorderLost => exact (does_recorderLost (K := offTable) trivial s).squares
  case recorderBack => exact (does_recorderBack (K := offTable) trivial trivial s).squares
  case slotReadyIn i b =>
    have put : Squares s { s with rcu := { s.rcu with slotReady := s.rcu.slotReady.set i b } } := .of_eq rfl rfl
    exact put.trans (does_readyChange (K := offTable) trivial _ _ _).squares
  case handOver => exact .of_eq rfl rfl
  case prepare => exact .of_eq rfl rfl
  case setPresent => exact .of_eq rfl rfl

theorem reset_reported (s : State) (m : QuadNo) (l : LineNo) : (s.hardReset m).reported l := by
  simp [State.reported, State.hardReset, State.atReset, State.line, Lnc.reset, LineRec.reset, State.totalsNow,
    State.monitors, State.lineConns, Cxm.reset]

theorem squares_stepOp {s t : State} (h : StepOp s t) : Squares s t := by
  cases h
  case period h => exact squares_periodOp h
  case hardReset m => exact fun l _ => reset_reported s m l
  case endInit =>
    unfold State.endInit
    exact .ite _ (.of_eq (by simp) (by simp)) (.refl s)
  case stepGens => exact (does_stepGens (K := offTable) trivial trivial s).squares
  case lineTimers => exact squares_lineTimers s
  case timeoutStep gs _ => exact (does_timeoutStep (K := offTable) trivial trivial s gs).squares
  case wrapGen n => exact (does_wrapGen (K := offTable) trivial trivial s n).squares
  case completeGen n => exact (does_completeGen (K := offTable) trivial trivial s n).squares
  case ringExpiry l => exact squares_ringExpiry s l
  case answerExpiry l => exact squares_answerExpiry s l
  case hangExpiry l => exact squares_hangExpiry s l
  case guardExpiry l => exact squares_guardExpiry s l
  case closeExpiry c _ => exact (does_closeExpiry (K := offTable) trivial trivial s c).squares
  case lineRequest p a l k _ => exact squares_lineRequest s p a l k
  case releaseKey p a k _ => exact squares_releaseKey s p a k
  case hookRelease p a _ => exact squares_hookRelease s p a
  case holdKey p a k _ => exact squares_holdKey s p a k
  case privacyKey p a k _ => exact squares_privacyKey s p a k
  case speakerTalk p c b _ => exact squares_speakerTalk s p c b
  case ringRequest l => exact (does_ringRequest (K := offTable) trivial s l trivial).squares
  case toggleDemand l _ => exact (does_toggleDemand (K := offTable) trivial s l trivial).squares
  case talkRequest p g c k _ => exact (does_talkRequest (K := offTable) trivial trivial trivial s p g c k).squares
  case talkRelease p g _ => exact (does_talkRelease (K := offTable) trivial trivial s p g).squares
  case storeSamples f => exact .of_eq (by simp only [State.storeSamples]) (by simp only [State.storeSamples])
  case queue => exact .of_eq rfl rfl
  case clock => exact .of_eq rfl rfl
  case resetLow => exact .of_eq rfl rfl
  case sendFrames => exact .of_eq rfl rfl
  case denialSteps => exact .of_eq rfl rfl
  case endDenial => exact .of_eq rfl rfl

/-- Settles O6: every change of the connection table is followed by a report of each line it touched. -/
theorem totalsFollowConnectionsKept : Obligations.TotalsFollowConnectionsKept := fun _ _ hs h l =>
  step_keeps .refl .trans (fun _ _ => squares_stepOp) h l (hs l)

end Sys2Proof.Machine

/-! ### O10: nothing starts while the switching blocks are not running -/

namespace Sys2Proof.Machine

/-- No call, connection, talk, need or recording, and generators and tone sources at their starts. -/
structure AtRest (s : State) : Prop where
  line : ∀ l : LineNo, (s.line l).quiet ∧ s.cxm.privacy[l] = false ∧ s.demand l = false
  conns : s.cxm.conns = []
  position : ∀ p : PosNo, (s.position p).pressed = [] ∧ (s.position p).denial = none
  gen : ∀ n : CgNo, (s.gen n).running = false ∧ (s.gen n).phase = 0
  tone : ∀ t : ToneNo, (s.mix.tones[t]).index = 0
  group : ∀ g : GroupNo, (s.group g).talkers = [] ∧ (s.group g).waits = [] ∧ (s.group g).marks = []
  need : ∀ t : Target, s.keptNeed t = .none
  waiting : s.rcu.waiting = []
  chan : ∀ c : ChanNo, (s.chan c).state = .stopped ∧ (s.chan c).target = none ∧ (s.chan c).closeCount = 0

theorem quietUnlessRunning_iff (s : State) : s.quietUnlessRunning ↔ (s.mga.phase ≠ .running → AtRest s) :=
  ⟨fun h hp =>
    let ⟨line, conns, position, gen, tone, group, need, waiting, chan⟩ := h hp
    ⟨line, conns, position, gen, tone, group, need, waiting, chan⟩,
   fun h hp =>
    let r := h hp
    ⟨r.line, r.conns, r.position, r.gen, r.tone, r.group, r.need, r.waiting, r.chan⟩⟩

theorem running_eq_false {s : State} : s.running = false ↔ s.mga.phase ≠ .running := by simp [State.running]

/-! #### Updates that leave the blocks at rest -/

section
variable {s t : State} (h : AtRest s)
include h

/-- A state with the same switching blocks, but for what a rest does not speak of, is at rest too. -/
theorem AtRest.of_eq (lnc : t.lnc = s.lnc) (psc : t.psc = s.psc) (cxm : t.cxm = s.cxm) (gens : t.cdu.gens = s.cdu.gens)
    (tones : t.mix.tones = s.mix.tones) (gtu : t.gtu = s.gtu) (demand : t.prs.demand = s.prs.demand)
    (lines : t.prs.lineNeed = s.prs.lineNeed) (groups : t.prs.groupNeed = s.prs.groupNeed)
    (waiting : t.rcu.waiting = s.rcu.waiting) (chans : t.rcu.chans = s.rcu.chans) : AtRest t where
  line l := by simpa [State.line, State.demand, lnc, cxm, demand] using h.line l
  conns := by rw [cxm]; exact h.conns
  position p := by simpa [State.position, psc] using h.position p
  gen n := by simpa [State.gen, gens] using h.gen n
  tone x := by simpa [tones] using h.tone x
  group g := by simpa [State.group, gtu] using h.group g
  need x := by
    have := h.need x
    cases x <;> simpa [State.keptNeed, lines, groups] using this
  waiting := by rw [waiting]; exact h.waiting
  chan c := by simpa [State.chan, chans] using h.chan c

theorem AtRest.mga (m : Mga) : AtRest { s with mga := m } := h.of_eq rfl rfl rfl rfl rfl rfl rfl rfl rfl rfl rfl

theorem AtRest.lif (b : Lif) : AtRest { s with lif := b } := h.of_eq rfl rfl rfl rfl rfl rfl rfl rfl rfl rfl rfl

theorem AtRest.raise (o : Occurrence) : AtRest (s.raise o) := by rw [State.raise_eq]; exact h.mga _

theorem AtRest.raiseRunning (o : Occurrence) : AtRest (s.raiseRunning o) := by
  unfold State.raiseRunning
  split
  · exact h.raise o
  · exact h

theorem AtRest.setLine (l : LineNo) {r : LineRec} (hr : r.quiet) : AtRest (s.setLine l r) :=
  { h with
    line := fun x => by
      obtain ⟨quiet, flags⟩ := h.line x
      refine ⟨?_, flags⟩
      rw [State.setLine_line_eq]; split
      · exact hr
      · exact quiet }

theorem AtRest.setPosition (p : PosNo) {r : PositionRec} (hr : r.pressed = [] ∧ r.denial = none) :
    AtRest (s.setPosition p r) :=
  { h with
    position := fun x => by
      rw [State.setPosition_position_eq]; split
      · exact hr
      · exact h.position x }

theorem AtRest.setGen (n : CgNo) {g : Gen} (hg : g.running = false ∧ g.phase = 0) : AtRest (s.setGen n g) :=
  { h with
    gen := fun x => by
      rw [State.setGen_gen_eq]; split
      · exact hg
      · exact h.gen x }

theorem AtRest.setGroup (g : GroupNo) {r : GroupRec} (hr : r.talkers = [] ∧ r.waits = [] ∧ r.marks = []) :
    AtRest (s.setGroup g r) :=
  { h with
    group := fun x => by
      rw [State.setGroup_group_eq]; split
      · exact hr
      · exact h.group x }

theorem AtRest.foldl {α : Type} (f : State → α → State) (l : List α) (hf : ∀ s, ∀ a ∈ l, AtRest s → AtRest (f s a)) :
    AtRest (l.foldl f s) := by
  induction l generalizing s with
  | nil => exact h
  | cons a l ih => exact ih (hf s a (by simp) h) fun s b hb => hf s b (by simp [hb])

omit h in
theorem AtRest.ite {a b : State} (p : Prop) [Decidable p] (ha : AtRest a) (hb : AtRest b) :
    AtRest (if p then a else b) := by
  split
  · exact ha
  · exact hb

/-! #### Operations at rest -/

theorem AtRest.lineConns (l : LineNo) : s.lineConns l = [] := by simp [State.lineConns, h.conns]

/-- R139: at rest no target needs recording. -/
theorem AtRest.needNow (x : Target) : s.needNow x = .none := by
  cases x with
  | line l => simp [State.needNow, h.lineConns]
  | group g => simp [State.needNow, State.groupPolicy, h.group g]

/-- A re-resolution that finds no need, where none is kept, does nothing. -/
theorem AtRest.reResolve (ts : List Target) : s.reResolve ts = s := by
  have quiet : ∀ c ∈ ts.map (fun t => ({ target := t, old := s.keptNeed t, new := s.needNow t } : NeedChange)),
      c.old = .none ∧ c.new = .none := by
    simp only [List.mem_map, forall_exists_index, and_imp]
    rintro c x _ rfl
    exact ⟨h.need x, h.needNow x⟩
  have still (f : State → NeedChange → State) (hf : ∀ c : NeedChange, c.old = .none ∧ c.new = .none → f s c = s)
      (cs : List NeedChange) (hcs : ∀ c ∈ cs, c.old = .none ∧ c.new = .none) : cs.foldl f s = s := by
    induction cs with
    | nil => rfl
    | cons c cs ih => rw [List.foldl_cons, hf c (hcs c (by simp))]; exact ih fun x hx => hcs x (by simp [hx])
  unfold State.reResolve
  simp only
  rw [still _ (fun c hc => by simp [State.passStop, hc]) _ quiet, still _ (fun c hc => by simp [State.passRank, hc]) _ quiet,
    still _ (fun c hc => by simp [State.passStart, hc]) _ quiet]

theorem AtRest.removeConns (gone : Conn → Bool) (cause : ConnectCause) : s.removeConns gone cause = s := by
  simp [State.removeConns, h.conns, linesOf]

omit h in
/-- R33: no monitor is called for while the switching blocks are not running. -/
theorem makeMonitors_held (hr : s.running = false) (places : List (PosNo × SpkNo)) : s.makeMonitors places = s := by
  have none (pc : PosNo × SpkNo) : s.monitorRecord pc = .none := by
    unfold State.monitorRecord State.monitorDue
    split <;> simp [hr]
  have : places.filterMap s.monitorRecord = [] := by simp [none]
  simp [State.makeMonitors, this]

theorem AtRest.moveLine (l : LineNo) {new : LineState} (hn : new = .disabled ∨ new = .idle) (c : LineCause) :
    AtRest (s.moveLine l new c) := by
  refine (h.setLine l ?_).raiseRunning _
  rcases hn with rfl | rfl <;> simp [LineRec.enter, LineRec.quiet, LineState.isUp]

theorem AtRest.notFault (l : LineNo) : (s.line l).state ≠ .fault := by
  obtain ⟨⟨hd | hi, _⟩, _⟩ := h.line l <;> simp [*]

theorem AtRest.testExit (l : LineNo) (c : LineCause) : s.testExit l c = s := by
  simp [State.testExit, h.notFault l]

theorem AtRest.lineCfgWritten (hr : s.running = false) (l : LineNo) (cfg : LineCfg) : AtRest (s.lineCfgWritten l cfg) := by
  have stored : AtRest (s.setLine l { s.line l with cfg := cfg }) := h.setLine l (h.line l).1
  have changed : AtRest ((s.setLine l { s.line l with cfg := cfg }).kindChanged l (s.line l).cfg) := by
    have running (new : LineState) (c : LineCause) :
        ((s.setLine l { s.line l with cfg := cfg }).moveLine l new c).running = false := by
      rw [(does_moveLine (K := anything) _ l new c trivial).running]; exact hr
    unfold State.kindChanged
    simp only [running, State.setLine_running, hr, Bool.false_and, Bool.false_eq_true, if_false]
    refine AtRest.ite _ (stored.moveLine l (.inr rfl) _) (AtRest.ite _ ?_ stored)
    have gone := stored.moveLine l (.inl rfl) .config
    rw [State.removeLine, gone.removeConns]
    exact gone
  unfold State.lineCfgWritten
  rw [changed.testExit]
  exact changed

theorem AtRest.promote (g : GroupNo) : s.promote g = s := by simp [State.promote, h.group g]

theorem AtRest.limitChanged (g : GroupNo) (old : Nat) : s.limitChanged g old = s := by
  simp [State.limitChanged, h.group g, State.lowerBy, h.promote g]

theorem AtRest.setGroupCfg (g : GroupNo) (cfg : GroupCfg) : AtRest (s.setGroupCfg g cfg) := h.setGroup g (h.group g)

theorem AtRest.storeEnabled (hr : s.running = false) (g : GroupNo) (on : Bool) : AtRest (s.storeEnabled g on) := by
  have held (cfg : GroupCfg) : (s.setGroupCfg g cfg).running = false := hr
  unfold State.storeEnabled
  simp only [held, Bool.not_false, Bool.true_or, if_true]
  exact h.setGroupCfg g _

theorem AtRest.storeGroupCfg (hr : s.running = false) (g : GroupNo) (cfg : GroupCfg) : AtRest (s.storeGroupCfg g cfg) := by
  have limit (x : GroupCfg) (old : Nat) : (s.setGroupCfg g x).limitChanged g old = s.setGroupCfg g x :=
    (h.setGroupCfg g x).limitChanged g old
  have stored (x : GroupCfg) : AtRest (((s.setGroupCfg g x).storeRecordCode g cfg.recordCode).storeEnabled g cfg.enabled) :=
    AtRest.storeEnabled ((h.setGroupCfg g x).setGroupCfg g _) hr g _
  unfold State.storeGroupCfg
  simp only [limit]
  refine AtRest.ite _ ?_ (stored _)
  rw [State.noticeGroups, (stored _).reResolve]
  exact stored _

omit h in
theorem endBursts_line (es : List CgNo) (l : LineNo) : (s.endBursts es).line l = (s.line l).endBurst es := by
  simp [State.line, State.endBursts]

omit h in
theorem LineRec.endBurst_of_none (es : List CgNo) {r : LineRec} (hr : r.ringPending = none) : r.endBurst es = r := by
  simp [LineRec.endBurst, hr]

theorem AtRest.endBursts (es : List CgNo) : AtRest (s.endBursts es) :=
  { h with
    line := fun l => by
      obtain ⟨quiet, flags⟩ := h.line l
      have burst : (s.line l).ringPending = none := by
        obtain ⟨-, -, -, -, -, -, burst⟩ := quiet
        exact burst
      rw [endBursts_line, LineRec.endBurst_of_none es burst]
      exact ⟨quiet, flags⟩ }

theorem AtRest.storeGen (hr : s.running = false) (n : CgNo) (on : Bool) (mode : CgMode) (source : Option CgNo)
    (shape : Shape) (pair : Bool) : AtRest (s.storeGen n on mode source shape pair) := by
  have stored : AtRest (s.setGen n { s.gen n with
      enable := on, mode := mode, source := source, pending := shape, pair := pair }) := h.setGen n (h.gen n)
  unfold State.storeGen
  refine AtRest.ite _ ?_ (AtRest.ite _ ?_ stored)
  · exact stored.setGen n ⟨by simp [hr], rfl⟩
  · unfold State.disableGen
    have stopped := stored.setGen n (g := { (s.setGen n { s.gen n with
      enable := on, mode := mode, source := source, pending := shape, pair := pair }).gen n with
      running := false, phase := 0 }) ⟨rfl, rfl⟩
    simp only [State.setGen_running, hr, Bool.false_eq_true, if_false]
    exact stopped.endBursts [n]

theorem AtRest.dropOffline (ps : List PosNo) (g : GroupNo) : AtRest (State.dropOffline ps s g) := by
  obtain ⟨talkers, waits, marks⟩ := h.group g
  have put := h.setGroup g (r := { s.group g with talkers := [], waits := [], marks := [] }) ⟨rfl, rfl, rfl⟩
  simpa [State.dropOffline, talkers, waits, marks] using put

theorem AtRest.talkOffline (ps : List PosNo) : AtRest (s.talkOffline ps) := by
  have dropped (gs : List GroupNo) : AtRest (gs.foldl (State.dropOffline ps) s) :=
    h.foldl _ gs fun s g _ hs => hs.dropOffline ps g
  have none : (List.finRange 64).filter (fun g => ps.any (s.group g).talks) = [] := by
    simp [GroupRec.talks, h.group]
  unfold State.talkOffline
  simp only [none, List.foldl_nil]
  rw [State.noticeGroups, (dropped _).reResolve]
  exact dropped _

theorem AtRest.goOffline (ps : List PosNo) : AtRest (s.goOffline ps) := by
  unfold State.goOffline State.removePositions
  rw [h.removeConns]
  exact (h.talkOffline ps).foldl _ _ fun s p _ hs => (hs.setPosition p ⟨rfl, rfl⟩).raise _

theorem AtRest.goOnline (hr : s.running = false) (p : PosNo) : AtRest (s.goOnline p) := by
  have on := (h.setPosition p (r := (s.position p).quiet) ⟨rfl, rfl⟩).raise (.online p)
  have held : ((s.setPosition p (s.position p).quiet).raise (.online p)).running = false := by
    rw [((does_setPosition (K := anything) trivial s p _).note (.online p)).running]; exact hr
  unfold State.goOnline State.makePositionMonitors
  rw [makeMonitors_held held]
  exact on

theorem AtRest.closeSteps : AtRest s.closeSteps := by
  have stepped : s.rcu.chans.map Chan.closeStep = s.rcu.chans := by
    refine Vector.ext fun i hi => ?_
    have := (h.chan ⟨i, hi⟩).1
    simp only [State.chan, Fin.getElem_fin] at this
    simp [Chan.closeStep, this]
  have same : AtRest { s with rcu := { s.rcu with chans := s.rcu.chans.map Chan.closeStep } } :=
    h.of_eq rfl rfl rfl rfl rfl rfl rfl rfl rfl rfl stepped
  unfold State.closeSteps
  simp only [same.chan, reduceCtorEq, decide_false, Bool.false_and, List.filter_false, List.foldl_nil]
  exact same

theorem AtRest.recorderLost : s.recorderLost = s := by simp [State.recorderLost, h.chan]

theorem AtRest.farSignal (hr : s.running = false) (c : LineCause) (l : LineNo) (f : FarSignal) :
    AtRest (s.farSignal c l f) := by
  have put : AtRest (s.setLine l { s.line l with far := f }) := h.setLine l (h.line l).1
  unfold State.farSignal
  simp only [State.setLine_running, hr, Bool.false_eq_true, if_false]
  exact AtRest.ite _ h put

theorem AtRest.storePositionCfg (p : PosNo) (cfg : PositionCfg) : AtRest (s.storePositionCfg p cfg) := by
  have put : AtRest (s.setPosition p { s.position p with cfg := cfg }) := h.setPosition p (h.position p)
  unfold State.storePositionCfg
  refine AtRest.ite _ ?_ put
  rw [State.reResolvePosition, put.reResolve]
  exact put

theorem AtRest.changeAssign (hr : s.running = false) (i : Fin 256) (a : Assign) : AtRest (s.changeAssign i a) := by
  have put : AtRest ({ s with psc := { s.psc with assigns := s.psc.assigns.set i a } } : State) :=
    { h with position := fun p => h.position p }
  have made (places : List (PosNo × SpkNo)) :
      AtRest (({ s with psc := { s.psc with assigns := s.psc.assigns.set i a } } : State).makeMonitors places) := by
    rw [makeMonitors_held (s := { s with psc := { s.psc with assigns := s.psc.assigns.set i a } }) hr]; exact put
  unfold State.changeAssign
  split
  · simp only [h.removeConns]; exact made _
  · exact made _
  · exact made _

theorem AtRest.clearClip (i : Nat) : AtRest (s.clearClip i) := by
  unfold State.clearClip
  split
  · exact { h with }
  · exact h

theorem AtRest.hookCell (hr : s.running = false) (p : PosNo) (b v : Byte) : AtRest (s.hookCell p b v) := by
  have set (a : Handset) (off : Bool) : AtRest (s.setPosition p ((s.position p).setHook a off)) :=
    h.setPosition p (by cases a <;> exact h.position p)
  unfold State.hookCell
  split
  · exact h
  · rename_i a _
    refine AtRest.ite _ h (AtRest.ite _ ?_ (AtRest.ite _ ?_ h))
    · exact h.setPosition p (by cases a <;> exact h.position p)
    · unfold State.putDown
      simp only [State.setPosition_running, hr, Bool.and_false, Bool.false_eq_true, if_false]
      exact set a false

theorem AtRest.levelCell (p : PosNo) (e : Byte) (v : U16) : AtRest (s.levelCell p e v) := by
  unfold State.levelCell
  split
  · exact AtRest.ite _ (h.setPosition p (h.position p)) h
  · exact h

theorem AtRest.countClip (i : OutNo) : AtRest (s.countClip i) := by
  have counted : AtRest { s with mix := { s.mix with clips := s.mix.clips.set i (min (s.mix.clips[i] + 1) Config.countMax) } } :=
    { h with }
  exact AtRest.ite _ (counted.raiseRunning _) counted

theorem AtRest.judgePort (n : PortNo) (good : Bool) : AtRest (s.judgePort n good) := by
  have put (p : Port) : AtRest (s.setPort n p) := { h with }
  exact AtRest.ite _ (put _) ((put _).raise _)

theorem AtRest.denialSteps : AtRest s.denialSteps :=
  { h with
    position := fun p => by
      obtain ⟨pressed, denial⟩ := h.position p
      have : s.denialSteps.position p = (s.position p).denialStep := by simp [State.position, State.denialSteps]
      rw [this]
      simp [PositionRec.denialStep, denial, pressed] }

end

/-! #### The laws of a step's operations -/

/-- An operation that keeps the phase, and the blocks at rest while they do not run, keeps the law. -/
theorem Base.quietUnlessRunning {s t : State} (hb : Base s t) (hr : s.running = false → AtRest s → AtRest t)
    (h : s.quietUnlessRunning) : t.quietUnlessRunning := by
  rw [quietUnlessRunning_iff] at h ⊢
  intro hp
  rw [hb.mga.same.phase] at hp
  exact hr (running_eq_false.2 hp) (h hp)

/-- An operation that changes nothing while the switching blocks do not run keeps the law. -/
theorem Base.quiet_of_still {s t : State} (hb : Base s t) (hr : s.running = false → t = s) (h : s.quietUnlessRunning) :
    t.quietUnlessRunning :=
  hb.quietUnlessRunning (fun hn rest => by rw [hr hn]; exact rest) h

/-- R192: the hold leaves every block at rest. -/
theorem atRest_holdBlocks (s : State) : AtRest s.holdBlocks where
  line l := by
    have held : s.holdBlocks.line l = (s.line l).hold := by simp [State.line, State.holdBlocks, Lnc.hold]
    rw [held]
    refine ⟨⟨?_, rfl, rfl, rfl, rfl, rfl, rfl⟩, ?_, ?_⟩
    · simp only [LineRec.hold]; split <;> simp
    · simp [State.holdBlocks, Cxm.hold]
    · simp [State.demand, State.holdBlocks, Prs.hold]
  conns := rfl
  position p := by simp [State.position, State.holdBlocks, Psc.hold, PositionRec.hold]
  gen n := by simp [State.gen, State.holdBlocks, Cdu.hold, Gen.hold]
  tone t := by simp [State.holdBlocks, Mix.hold]
  group g := by simp [State.group, State.holdBlocks, Gtu.hold, GroupRec.hold]
  need t := by cases t <;> simp [State.keptNeed, State.holdBlocks, Prs.hold]
  waiting := rfl
  chan c := by simp [State.chan, State.holdBlocks, Rcu.hold, Chan.hold]

/-- R194: the reset state is at rest. -/
theorem atRest_atReset (m : QuadNo) : AtRest (State.atReset m) where
  line l := by simp [State.line, State.atReset, Lnc.reset, LineRec.reset, LineRec.quiet, State.demand, Cxm.reset, Prs.reset]
  conns := rfl
  position p := by simp [State.position, State.atReset, Psc.reset, PositionRec.reset]
  gen n := by simp [State.gen, State.atReset, Cdu.reset, Gen.reset]
  tone t := by simp [State.atReset, Mix.reset, Tone.reset]
  group g := by simp [State.group, State.atReset, Gtu.reset, GroupRec.reset]
  need t := by cases t <;> simp [State.keptNeed, State.atReset, Prs.reset]
  waiting := rfl
  chan c := by simp [State.chan, State.atReset, Rcu.reset, Chan.reset]

theorem does_kindChanged {K : Touch → Prop} {l : LineNo} (h : Calls K (· = l)) (s : State) (old : LineCfg) :
    Does K s (s.kindChanged l old) := by
  have move (new : LineState) : Does K s (s.moveLine l new .config) := does_moveLine s l new _ (h.line l rfl)
  unfold State.kindChanged
  refine Does.ite _ ?_ (Does.ite _ ((move _).trans (does_removeLine h _ _)) (Does.ite _ (does_evaluate h s _) .refl))
  exact (move .idle).trans (Does.ite _ ((does_evaluate h _ _).trans (does_makeLineMonitors h _)) .refl)

theorem lineCfgWritten_phase (s : State) (l : LineNo) (cfg : LineCfg) : (s.lineCfgWritten l cfg).mga.phase = s.mga.phase :=
  ((does_kindChanged (calls_anything _) (s.setLine l { s.line l with cfg := cfg }) _).trans
    (does_testExit (calls_anything _) _ _)).phase

theorem Mga.acknowledge_phase (m : Mga) (c : EventClass) : (m.acknowledge c).phase = m.phase := by
  unfold Mga.acknowledge
  simp only
  split
  · rw [(Mga.same_makePendingCell _ _ _).phase]; rfl
  · rfl

/-- A write of a tone source leaves one whose read index was 0 at 0. -/
theorem tone_quiet {s : State} (i : ToneNo) (r : Tone) (hr : s.mix.tones[i].index = 0 → r.index = 0)
    (hs : s.quietUnlessRunning) :
    ({ s with mix := { s.mix with tones := s.mix.tones.set i r } } : State).quietUnlessRunning := by
  rw [quietUnlessRunning_iff] at hs ⊢
  intro hp
  have rest := hs hp
  exact { rest with
    tone := fun x => by
      have := rest.tone x
      simp only [Fin.getElem_fin, Vector.getElem_set]
      split
      · exact hr (rest.tone i)
      · exact this }

theorem holdShelf_quiet (s : State) (h : s.quietUnlessRunning) : s.holdShelf.quietUnlessRunning := by
  unfold State.holdShelf
  split
  · rw [quietUnlessRunning_iff]
    exact fun _ => ((atRest_holdBlocks s).mga _).raise _
  · exact h

theorem releaseShelf_phase (s : State) (h : s.mga.phase = .held) : s.releaseShelf.mga.phase = .running := by
  have base : Base (({ s with mga := { s.mga with phase := .running } } : State).raise .switchingReleased) s.releaseShelf := by
    unfold State.releaseShelf
    rw [if_pos h]
    have start (u : State) : Base u { u with cdu := u.cdu.release } := .of_eq rfl rfl rfl rfl rfl
    exact (start _).trans ((base_evaluateAll _).trans (base_makeAllMonitors _))
  rw [base.mga.same.phase, (calm_raise _ _).mga.same.phase]

theorem releaseShelf_quiet (s : State) (h : s.quietUnlessRunning) : s.releaseShelf.quietUnlessRunning := by
  by_cases hp : s.mga.phase = .held
  · rw [quietUnlessRunning_iff]
    exact fun hn => absurd (releaseShelf_phase s hp) hn
  · unfold State.releaseShelf
    rw [if_neg hp]
    exact h

theorem endInit_quiet (s : State) (h : s.quietUnlessRunning) : s.endInit.quietUnlessRunning := by
  rw [quietUnlessRunning_iff] at h ⊢
  intro hp
  unfold State.endInit at hp ⊢
  split_ifs at hp ⊢ with hi
  · exact ((h (by simp [hi])).mga _).raise _
  · exact h hp

theorem quiet_intakeOp {s t : State} (h : IntakeOp s t) (hs : s.quietUnlessRunning) : t.quietUnlessRunning := by
  have still {u : State} (hb : Base s u) (hr : s.running = false → u = s) : u.quietUnlessRunning := hb.quiet_of_still hr hs
  cases h
  case lineCfg l cfg =>
    rw [quietUnlessRunning_iff] at hs ⊢
    rw [lineCfgWritten_phase]
    exact fun hp => (hs hp).lineCfgWritten (running_eq_false.2 hp) l cfg
  case positionCfg p cfg =>
    exact (storePositionCfg_calm s p cfg).toBase.quietUnlessRunning (fun _ r => r.storePositionCfg p cfg) hs
  case changeAssign i a => exact (changeAssign_base s i a).quietUnlessRunning (fun hr r => r.changeAssign hr i a) hs
  case groupCfg g cfg => exact (storeGroupCfg_calm s g cfg).toBase.quietUnlessRunning (fun hr r => r.storeGroupCfg hr g cfg) hs
  case storeGen n on m x c p =>
    exact (storeGen_calm s n on m x c p).toBase.quietUnlessRunning (fun hr r => r.storeGen hr n on m x c p) hs
  case policy b hd hl hg =>
    refine (calm_reResolveTables { s with prs := b }).toBase.quietUnlessRunning (fun _ r => ?_) ?_
    · rw [State.reResolveTables, r.reResolve]; exact r
    · exact (Base.of_eq (s := s) (t := { s with prs := b }) rfl rfl rfl rfl rfl).quietUnlessRunning
        (fun _ r => r.of_eq rfl rfl rfl rfl rfl rfl hd hl hg rfl rfl) hs
  case clearClip i => exact (clearClip_calm s i).toBase.quietUnlessRunning (fun _ r => r.clearClip i) hs
  case clearFault l hf => exact (base_clearFault s l).quietUnlessRunning (fun _ r => absurd hf (r.notFault l)) hs
  case triggerGen n => exact still (calm_triggerGen s n).toBase fun hr => by simp [State.triggerGen, hr]
  case forceRelease l =>
    refine (base_clearLineConns s l _).quietUnlessRunning (fun _ r => ?_) hs
    simpa [State.clearLineConns, r.lineConns] using r
  case hold => exact holdShelf_quiet s hs
  case release => exact releaseShelf_quiet s hs
  case keyDown p b =>
    refine still (base_keyDown s p b) fun hr => ?_
    unfold State.keyDown
    split <;> simp [State.takesKeys, hr]
  case keyUp p b =>
    refine still (base_keyUp s p b) fun hr => ?_
    unfold State.keyUp
    split <;> simp [State.takesKeys, hr]
  case hookCell p a b => exact (base_hookCell s p a b).quietUnlessRunning (fun hr r => r.hookCell hr p a b) hs
  case levelCell p e v => exact (calm_levelCell s p e v).toBase.quietUnlessRunning (fun _ r => r.levelCell p e v) hs
  case toneSample i k v => exact tone_quiet i _ id hs
  case toneControl i n v => exact tone_quiet i _ (fun h => by rw [h]; exact ite_self 0) hs
  case acknowledge c =>
    rw [quietUnlessRunning_iff] at hs ⊢
    exact fun hp => (hs (by rwa [Mga.acknowledge_phase] at hp)).mga _
  all_goals exact hs

theorem quiet_periodOp {s t : State} (h : PeriodOp s t) (hs : s.quietUnlessRunning) : t.quietUnlessRunning := by
  have still {u : State} (hb : Base s u) (hr : s.running = false → u = s) : u.quietUnlessRunning := hb.quiet_of_still hr hs
  cases h
  case intake h => exact quiet_intakeOp h hs
  case countClip i => exact (calm_countClip s i).toBase.quietUnlessRunning (fun _ r => r.countClip i) hs
  case advanceTones => exact still (calm_advanceTones s).toBase fun hr => by simp [State.advanceTones, hr]
  case closeSteps => exact (calm_closeSteps s).toBase.quietUnlessRunning (fun _ r => r.closeSteps) hs
  case judgePort n good =>
    have phase : (s.judgePort n good).mga.phase = s.mga.phase := by
      unfold State.judgePort
      simp only
      split
      · rfl
      · exact (calm_raise _ _).mga.same.phase
    rw [quietUnlessRunning_iff] at hs ⊢
    exact fun hp => (hs (by rwa [phase] at hp)).judgePort n good
  case farSignal c l f => exact (base_farSignal s c l f).quietUnlessRunning (fun hr r => r.farSignal hr c l f) hs
  case goOnline p => exact (base_goOnline s p).quietUnlessRunning (fun hr r => r.goOnline hr p) hs
  case goOffline ps => exact (base_goOffline s ps).quietUnlessRunning (fun _ r => r.goOffline ps) hs
  case recorderLost => exact (calm_recorderLost s).toBase.quietUnlessRunning (fun _ r => by rw [r.recorderLost]; exact r) hs
  case recorderBack => exact still (calm_recorderBack s).toBase fun hr => by simp [State.recorderBack, hr]
  case slotReadyIn i b =>
    refine (calm_slotReadyIn s i b).toBase.quietUnlessRunning (fun hr r => ?_) hs
    have put : AtRest { s with rcu := { s.rcu with slotReady := s.rcu.slotReady.set i b } } := { r with }
    have held : ({ s with rcu := { s.rcu with slotReady := s.rcu.slotReady.set i b } } : State).running = false := hr
    simpa [State.slotReadyIn, State.readyChange, held] using put
  all_goals exact hs

theorem Mga.pick_phase (m : Mga) : m.pick.2.phase = m.phase := by
  unfold Mga.pick
  split <;> [skip; split; skip; skip] <;> rfl

theorem Mga.lane_phase (n : Nat) (m : Mga) : (Mga.lane n m).2.phase = m.phase := by
  induction n generalizing m with
  | zero => rfl
  | succ n ih =>
    have := m.pick_phase
    unfold Mga.lane
    split <;> simp_all

theorem sendFrames_phase (s : State) : s.sendFrames.mga.phase = s.mga.phase := by
  unfold State.sendFrames
  simp only
  split
  · exact Mga.lane_phase _ _
  · rfl

theorem quiet_stepOp {s t : State} (h : StepOp s t) (hs : s.quietUnlessRunning) : t.quietUnlessRunning := by
  have still {u : State} (hb : Base s u) (hr : s.running = false → u = s) : u.quietUnlessRunning := hb.quiet_of_still hr hs
  have only {u : State} (hb : Base s u) (hr : s.running = true) : u.quietUnlessRunning :=
    hb.quiet_of_still (fun h => by simp [h] at hr) hs
  cases h
  case period h => exact quiet_periodOp h hs
  case hardReset m =>
    rw [quietUnlessRunning_iff]
    exact fun _ => { atRest_atReset m with }
  case endInit => exact endInit_quiet s hs
  case sendFrames =>
    rw [quietUnlessRunning_iff] at hs ⊢
    rw [sendFrames_phase]
    exact fun hp => { hs hp with }
  case storeSamples f =>
    rw [quietUnlessRunning_iff] at hs ⊢
    intro hp
    simp only [State.storeSamples] at hp ⊢
    exact (hs hp).lif _
  case stepGens hr => exact only (calm_stepGens s).toBase hr
  case lineTimers hr => exact only (base_lineTimers s) hr
  case denialSteps => exact (calm_denialSteps s).toBase.quietUnlessRunning (fun _ r => r.denialSteps) hs
  case timeoutStep gs hr => exact only (calm_timeoutStep s gs).toBase hr
  case wrapGen n => exact still (calm_wrapGen s n).toBase fun hr => by simp [State.wrapGen, hr]
  case completeGen n => exact still (calm_completeGen s n).toBase fun hr => by simp [State.completeGen, hr]
  case ringExpiry l => exact still (calm_ringExpiry s l).toBase fun hr => by simp [State.ringExpiry, hr]
  case answerExpiry l => exact still (base_answerExpiry s l) fun hr => by simp [State.answerExpiry, hr]
  case hangExpiry l => exact still (calm_hangExpiry s l).toBase fun hr => by simp [State.hangExpiry, hr]
  case guardExpiry l => exact still (base_guardExpiry s l) fun hr => by simp [State.guardExpiry, hr]
  case endDenial p =>
    exact (calm_endDenial s p).toBase.quietUnlessRunning (fun _ r => r.setPosition p ⟨(r.position p).1, rfl⟩) hs
  case closeExpiry c hr => exact only (calm_closeExpiry s c).toBase hr
  case lineRequest p a l k hr => exact only (base_lineRequest s p a l k) hr
  case releaseKey p a k hr => exact only (base_releaseKey s p a k) hr
  case hookRelease p a hr => exact only (base_hookRelease s p a) hr
  case holdKey p a k hr => exact only (base_holdKey s p a k) hr
  case privacyKey p a k hr => exact only (base_privacyKey s p a k) hr
  case speakerTalk p c b hr => exact only (base_speakerTalk s p c b) hr
  case ringRequest l => exact still (calm_ringRequest s l).toBase fun hr => by simp [State.ringRequest, hr]
  case toggleDemand l hr => exact only (calm_toggleDemand s l).toBase hr
  case talkRequest p g c k hr => exact only (calm_talkRequest s p g c k).toBase hr
  case talkRelease p g hr => exact only (calm_talkRelease s p g).toBase hr
  case queue => exact hs
  case clock => exact hs
  case resetLow => exact hs

/-- Settles O10: an operation that acts outside RUNNING leaves the blocks at rest, and the hold brings them to rest. -/
theorem quietUnlessRunningKept : Obligations.QuietUnlessRunningKept := fun _ _ hs h =>
  step_keeps (R := fun s t => s.quietUnlessRunning → t.quietUnlessRunning) (fun _ h => h) (fun h k hs => k (h hs))
    (fun _ _ => quiet_stepOp) h hs

end Sys2Proof.Machine

/-! ### The reset state (R194) -/

namespace Sys2Proof.Machine

section
variable (m : QuadNo)

@[simp] theorem atReset_line (l : LineNo) : (State.atReset m).line l = LineRec.reset := by
  simp [State.line, State.atReset, Lnc.reset]

@[simp] theorem atReset_position (p : PosNo) : (State.atReset m).position p = PositionRec.reset := by
  simp [State.position, State.atReset, Psc.reset]

@[simp] theorem atReset_group (g : GroupNo) : (State.atReset m).group g = GroupRec.reset := by
  simp [State.group, State.atReset, Gtu.reset]

@[simp] theorem atReset_gen (n : CgNo) : (State.atReset m).gen n = Gen.reset := by
  simp [State.gen, State.atReset, Cdu.reset]

@[simp] theorem atReset_chan (c : ChanNo) : (State.atReset m).chan c = Chan.reset := by
  simp [State.chan, State.atReset, Rcu.reset]

@[simp] theorem atReset_port (n : PortNo) : (State.atReset m).port n = Port.reset := by
  simp [State.port, State.atReset, Lif.reset]

@[simp] theorem atReset_key (p : PosNo) (k : KeyNo) : (State.atReset m).key p k = { action := .none, colour := .green } := by
  simp [State.key, State.atReset, Psc.reset]

@[simp] theorem atReset_assign (p : PosNo) (c : SpkNo) : (State.atReset m).assign p c = .none := by
  simp [State.assign, State.atReset, Psc.reset]

@[simp] theorem atReset_demand (l : LineNo) : (State.atReset m).demand l = false := by
  simp [State.demand, State.atReset, Prs.reset]

theorem atReset_cls (c : EventClass) : (State.atReset m).mga.cls c =
    ClassRec.reset (if c = .clip then .latched else .each) := by
  cases c <;> rfl

theorem atReset_poolUsed : (State.atReset m).poolUsed = 0 := by
  simp [State.poolUsed, State.atReset, Gtu.reset, GroupRec.reset]

theorem atReset_running : (State.atReset m).running = false := rfl

/-- R134: with no table entry a line has the default code. -/
theorem atReset_lineSide (l : LineNo) : (State.atReset m).lineSide l = (.best, .default) := by
  have none : (State.atReset m).lineRange l = none := by
    simp [State.lineRange, State.atReset, Prs.reset, PolicyRange.covers]
  unfold State.lineSide
  rw [none]
  simp [State.atReset, Prs.reset]

end

/-! ### O14 -/

/-- Settles O14: each register of the loaded reset state, by its block. -/
theorem hardResetLoadsResetValues : Obligations.HardResetLoadsResetValues := by
  intro m s
  refine ⟨{ State.atReset m with pending := s.pending }, rfl, ?_⟩
  have rest := atRest_atReset m
  have shareNone (l : LineNo) : (State.atReset m).share l = .none := by simp [State.share, State.bridge, rest.lineConns]
  have noSlots (p : PosNo) : (State.atReset m).holdSlots p = 0 := by simp [State.holdSlots, rest.conns]
  have offline (p : PosNo) : (State.atReset m).online p = false := by
    simp [State.online, State.portUp, Port.reset]
  have quietLine (l : LineNo) : (State.atReset m).outSignal l = .idle := by simp [State.outSignal, atReset_running]
  have pool : (State.atReset m).poolFree = 64 := by rw [State.poolFree, atReset_poolUsed]; rfl
  refine ⟨rfl, rfl, rfl, rfl, atReset_port m, ?present, ?far, ?mics, rfl, rfl, rfl, rfl, rfl, rfl, atReset_cls m,
    atReset_line m, fun l => ⟨quietLine l, (rest.line l).2.1, shareNone l, atReset_demand m l, atReset_lineSide m l⟩,
    atReset_position m, fun p => ⟨offline p, noSlots p⟩, atReset_key m, atReset_assign m, ?style, rfl, rfl, atReset_gen m,
    ?clips, ?tones, atReset_group m, pool, rfl, rfl, rfl, ?fixed, ?ranges, rest.need, rfl, rfl, rfl,
    fun c => ⟨atReset_chan m c, ?ready⟩⟩
  case present | far | mics => intro x; simp [State.atReset, Lif.reset]
  case style => intro x; simp [State.atReset, Psc.reset]
  case clips | tones => intro x; simp [State.atReset, Mix.reset, Tone.reset]
  case fixed | ranges => intro x; simp [State.atReset, Prs.reset]
  case ready => simp [State.atReset, Rcu.reset]

/-! ### O11 -/

theorem atReset_mgaSafe (m : QuadNo) : (State.atReset m).mgaSafe := by
  have queues : (State.atReset m).queuesBounded := by constructor <;> exact Nat.zero_le _
  have lane : (State.atReset m).laneBounded := by
    show 1 ≤ 4 ∧ 4 ≤ 8 ∧ 0 ≤ 4
    decide
  refine ⟨queues, lane, fun c => ?_, rfl⟩
  rw [atReset_cls]
  exact Nat.zero_le _

/-- A table without connections meets its laws. -/
theorem connectionsLawful_of_nil {s : State} (h : s.cxm.conns = []) (ha : ∀ l, s.assignments l ≤ Config.assignRoom) :
    s.connectionsLawful := by
  have none (l : LineNo) : s.lineConns l = [] := by simp [State.lineConns, h]
  refine ⟨by simp [h], by simp [h], by simp [h], fun l => ?_, fun l _ => none l, fun p => ?_⟩
  · simp [State.bridge, State.monitors, none, ha l]
  · simp [State.holdSlots, h]

theorem atReset_connectionsLawful (m : QuadNo) : (State.atReset m).connectionsLawful :=
  connectionsLawful_of_nil rfl fun l => by
    have : (State.atReset m).psc.assigns.toList = List.replicate 256 .none := by simp [State.atReset, Psc.reset]
    rw [State.assignments, this, List.filter_replicate_of_neg (by simp)]
    exact Nat.zero_le _

theorem atReset_totalsReported (m : QuadNo) : (State.atReset m).totalsReported := fun l => by
  simp [LineRec.reset, State.totalsNow, State.monitors, (atRest_atReset m).lineConns]

theorem atReset_groupsLawful (m : QuadNo) : (State.atReset m).groupsLawful := by
  refine ⟨fun g => ?_, by rw [atReset_poolUsed]; exact Nat.zero_le _⟩
  simp [GroupRec.reset, GroupCfg.reset]

theorem atReset_needsSettled (m : QuadNo) : (State.atReset m).needsSettled := fun x => by
  rw [(atRest_atReset m).need, (atRest_atReset m).needNow]

theorem atReset_rangesKept (m : QuadNo) : (State.atReset m).rangesKept := by
  refine ⟨fun n => ?_, fun n => ?_, fun t => ?_, fun i => ?_⟩
  · simp [Port.reset, Port.wellFormed]
  · simp [Gen.reset, Shape.reset, Gen.wellFormed]
  · simp [State.atReset, Mix.reset, Tone.reset, Tone.wellFormed]
  · simp [State.atReset, Mix.reset]

theorem atReset_sourcesEnd (m : QuadNo) : (State.atReset m).sourcesEnd := fun n => by
  simp [State.follow, Gen.reset]

theorem atReset_recordersLawful (m : QuadNo) : (State.atReset m).recordersLawful := by
  have rest := atRest_atReset m
  refine ⟨fun x => ?_, by simp [rest.waiting], fun c => by simp [Chan.reset], fun c _ => (rest.chan c).1,
    fun _ h => absurd rest.waiting h⟩
  simp [State.boundChans, State.waitsOf, rest.waiting, rest.need, Chan.reset]

/-- Settles O11: the reset state is at rest, and its tables are empty. -/
theorem resetMeetsTheLaws : Obligations.ResetMeetsTheLaws := by
  refine ⟨atReset_mgaSafe 0, reset_disabledIsUnused .reset 0, atReset_connectionsLawful 0, atReset_totalsReported 0,
    atReset_groupsLawful 0, atReset_needsSettled 0, atReset_rangesKept 0,
    (quietUnlessRunning_iff _).2 fun _ => atRest_atReset 0, fun l h => ?_, atReset_sourcesEnd 0,
    atReset_recordersLawful 0⟩
  obtain ⟨-, unset, -⟩ := (atRest_atReset 0).line l
  exact absurd h (by simp [State.reset, unset])

end Sys2Proof.Machine

/-! ### What a command makes of the state -/

namespace Sys2Proof.Machine

theorem live_awake {s : State} (h : s.awake) (f : State → State) : live f s = .next (f s) := by
  have low : s.lif.rstLow = false := h
  simp [live, low]

theorem State.serving.awake {s : State} (h : s.serving) : s.awake := h.1

theorem State.switching.running {s : State} (h : s.switching) : s.running = true := by
  obtain ⟨_, phase⟩ := h
  simp [State.running, phase]

/-- R180: a request that is judged. -/
theorem request_serving {s : State} (h : s.serving) (kind : Byte) (tag : U16) (judge : State → Verdict) :
    s.request kind tag judge = (judge s).state.respond kind tag (judge s).code (judge s).data := by
  obtain ⟨-, phase, room⟩ := h
  simp [State.request, State.responseRoom, room, phase]

theorem exec_takes {s : State} (h : s.awake) (i : Instr) (hi : forMga i) : exec i s = .next (s.takeRequest i) := by
  rw [exec_request i s hi, live_awake h]

section
variable {s : State} (h : s.awake)
include h

theorem exec_framePeriod (f : Inbound) : exec (.framePeriod f) s = .next (s.framePeriod f) :=
  live_awake h fun s => s.framePeriod f

theorem exec_cadenceStep : exec .cadenceStep s = .next s.cadenceStep := live_awake h State.cadenceStep

theorem exec_generatorWrap (n : CgNo) : exec (.generatorWrap n) s = .next (s.wrapGen n) := live_awake h fun s => s.wrapGen n

theorem exec_oneshotCompletion (n : CgNo) : exec (.oneshotCompletion n) s = .next (s.completeGen n) :=
  live_awake h fun s => s.completeGen n

theorem exec_ringTimerExpiry (l : LineNo) : exec (.ringTimerExpiry l) s = .next (s.ringExpiry l) :=
  live_awake h fun s => s.ringExpiry l

theorem exec_answerTimerExpiry (l : LineNo) : exec (.answerTimerExpiry l) s = .next (s.answerExpiry l) :=
  live_awake h fun s => s.answerExpiry l

theorem exec_hangTimerExpiry (l : LineNo) : exec (.hangTimerExpiry l) s = .next (s.hangExpiry l) :=
  live_awake h fun s => s.hangExpiry l

theorem exec_guardTimerExpiry (l : LineNo) : exec (.guardTimerExpiry l) s = .next (s.guardExpiry l) :=
  live_awake h fun s => s.guardExpiry l

theorem exec_denialExpiry (p : PosNo) : exec (.denialExpiry p) s = .next (s.endDenial p) :=
  live_awake h fun s => s.endDenial p

theorem exec_ringRequest (l : LineNo) : exec (.ringRequest l) s = .next (s.ringRequest l) :=
  live_awake h fun s => s.ringRequest l

theorem exec_releaseRequest (run : s.running = true) (p : PosNo) (a : Handset) (k : KeyNo) :
    exec (.releaseRequest p a k) s = .next (s.releaseKey p a k) :=
  (live_awake h (whileRunning fun s => s.releaseKey p a k)).trans (by simp [whileRunning, run])

theorem exec_hookRelease (run : s.running = true) (p : PosNo) (a : Handset) :
    exec (.hookRelease p a) s = .next (s.hookRelease p a) :=
  (live_awake h (whileRunning fun s => s.hookRelease p a)).trans (by simp [whileRunning, run])

end

theorem numOf_of_le {n k : Nat} (h : n ≤ k) : numOf n k = none := by simp [numOf, Nat.not_lt.2 h]

theorem numOf_val {n : Nat} (i : Fin n) : numOf n i.val = some i := by simp [numOf, i.isLt]

/-! ### O17: the shelf hold -/

/-- Settles O17: the hold of each block, taken by MGA's request. -/
theorem holdStopsTheBlocks : Obligations.HoldStopsTheBlocks := by
  intro tag s h
  have taken : exec (.hold tag) s = .next (s.holdShelf.respond 11 tag .ok []) := by
    rw [exec_takes h.awake (.hold tag) trivial]
    exact congrArg _ (request_serving h 11 tag State.judgeHold)
  refine ⟨fun hp => ?_, fun hp => ?_⟩
  · have run : s.running = true := by simp [State.running, hp]
    rw [taken, State.holdShelf, if_pos run, State.raise_eq]
    rfl
  · have held : s.running = false := by simp [State.running, hp]
    rw [taken, State.holdShelf, held]
    rfl

/-! ### O25: ring timers, hang timers and denial displays -/

theorem Timer.isRunning_iff (x : Timer) : x.isRunning = true ↔ ∃ k, x = .running k := by
  cases x <;> simp [Timer.isRunning]

theorem LineState.isRinging_iff (x : LineState) : x.isRinging = true ↔ x = .ringingIn ∨ x = .unanswered := by
  cases x <;> simp [LineState.isRinging]

theorem raiseRunning_of_running {s : State} (h : s.running = true) (o : Occurrence) : s.raiseRunning o = s.raise o := by
  simp [State.raiseRunning, h]

/-- R23: a change of state while the switching blocks are running. -/
theorem moveLine_running {s : State} (h : s.running = true) (l : LineNo) (new : LineState) (c : LineCause) :
    s.moveLine l new c = (s.setLine l ((s.line l).enter new)).raise (.line l (s.line l).state new c) := by
  rw [State.moveLine, raiseRunning_of_running]
  exact h

/-- R10: a ring timer that runs in RINGING_IN. -/
theorem ringExpiry_eq {s : State} (h : s.running = true) {l : LineNo} (hs : (s.line l).state = .ringingIn)
    (hr : (s.line l).ring.isRunning = true) : s.ringExpiry l = s.moveLine l .unanswered .ringTimeout := by
  simp [State.ringExpiry, h, hs, hr]

theorem ringExpiry_still {s : State} {l : LineNo} (h : ¬ ((s.line l).state = .ringingIn ∧ (s.line l).ring.isRunning = true)) :
    s.ringExpiry l = s := by
  simp only [State.ringExpiry, Bool.and_eq_true, decide_eq_true_eq, and_assoc]
  exact if_neg fun k => h k.2

/-- R11: a hang timer that runs in RINGING_IN or UNANSWERED. -/
theorem hangExpiry_eq {s : State} (h : s.running = true) {l : LineNo} (hs : (s.line l).state.isRinging = true)
    (hr : (s.line l).hang.isRunning = true) : s.hangExpiry l = s.moveLine l .idle .abandoned := by
  simp [State.hangExpiry, h, hs, hr]

theorem hangExpiry_still {s : State} {l : LineNo}
    (h : ¬ ((s.line l).state.isRinging = true ∧ (s.line l).hang.isRunning = true)) : s.hangExpiry l = s := by
  simp only [State.hangExpiry, Bool.and_eq_true, and_assoc]
  exact if_neg fun k => h k.2

/-- Settles O25: what each expiry does where it can occur, and its guard where it cannot. -/
theorem ringHangAndDenialExpiry : Obligations.RingHangAndDenialExpiry := by
  intro s h
  have run := h.running
  obtain ⟨awake, -⟩ := h
  refine ⟨fun l k hs ht => ?_, fun l hn => ?_, fun l k hs ht => ?_, fun l hn => ?_, exec_denialExpiry awake⟩
  · rw [exec_ringTimerExpiry awake, ringExpiry_eq run hs (by simp [ht, Timer.isRunning]), moveLine_running run, hs]
    rfl
  · rw [exec_ringTimerExpiry awake, ringExpiry_still]
    rw [Timer.isRunning_iff]
    rintro ⟨hs, k, hk⟩
    exact hn.elim (fun h => h hs) fun h => h k hk
  · rw [exec_hangTimerExpiry awake, hangExpiry_eq run ((LineState.isRinging_iff _).2 hs) (by simp [ht, Timer.isRunning]),
      moveLine_running run]
    rfl
  · rw [exec_hangTimerExpiry awake, hangExpiry_still]
    rw [Timer.isRunning_iff, LineState.isRinging_iff]
    rintro ⟨hs, k, hk⟩
    exact hn.elim (fun ⟨h, h'⟩ => hs.elim h h') fun h => h k hk

/-! ### O39: ring requests -/

theorem trigger_eq (g : Gen) (h : g.enable = true) :
    g.trigger = if g.mode = .oneshot ∧ g.running = false then { g with running := true, phase := 0 } else g := by
  simp [Gen.trigger, Gen.waiting, h]

/-- R83: a trigger of an enabled generator while the switching blocks are running. -/
theorem triggerGen_eq {s : State} (h : s.running = true) (n : CgNo) (he : (s.gen n).enable = true) :
    s.triggerGen n = if (s.gen n).mode = .oneshot ∧ (s.gen n).running = false
      then s.setGen n { s.gen n with running := true, phase := 0 } else s := by
  have same : s.setGen n (s.gen n) = s := by simp [State.setGen, State.gen]
  simp only [State.triggerGen, h, if_true, trigger_eq _ he]
  split
  · rfl
  · exact same

/-- Settles O39. -/
theorem ringRequestStartsABurst : Obligations.RingRequestStartsABurst := by
  intro l s h hkind hstate
  have run := h.running
  have up : (s.line l).state.isUp = true := by rcases hstate with h | h <;> simp [h, LineState.isUp]
  refine ⟨fun hn => ?_, fun hp he => ?_⟩
  · rw [exec_ringRequest h.1]
    refine congrArg _ (if_neg ?_)
    simp only [Bool.and_eq_true, Option.isNone_iff_eq_none, decide_eq_true_eq]
    rintro ⟨⟨-, none⟩, on⟩
    exact hn.elim (fun h => h none) fun h => by simp [on] at h
  · rw [exec_ringRequest h.1]
    refine congrArg _ ?_
    have stands : s.ringRequest l =
        (s.setLine l { s.line l with ringPending := some (s.line l).cfg.burstCg }).triggerGen (s.line l).cfg.burstCg := by
      simp [State.ringRequest, run, hkind, up, hp, he]
    rw [stands]
    exact triggerGen_eq (s := s.setLine l _) run _ he

/-! ### O52: CLEAR_FAULT and TRIGGER -/

/-- R20: a line that leaves FAULT with no speaker place assigned to it. -/
theorem placesOf_eq_nil {s : State} {l : LineNo} (h : ∀ j : Fin 256, s.psc.assigns[j] ≠ .line l) : s.placesOf l = [] := by
  have (pc : PosNo × SpkNo) : s.assign pc.1 pc.2 ≠ .line l := h ⟨8 * pc.1.val + pc.2.val, by omega⟩
  simp [State.placesOf, this]

theorem makeMonitors_nil (s : State) : s.makeMonitors [] = s := rfl

theorem setLine_setLine (s : State) (l : LineNo) (a b : LineRec) : (s.setLine l a).setLine l b = s.setLine l b := by
  simp [State.setLine]

/-- R20: the state that a line leaving FAULT enters. -/
theorem faultExitState_eq (s : State) (l : LineNo) : s.faultExitState l =
    if (s.line l).cfg.kind.isWire && offHook (s.line l).far then .ringingIn
    else if decide ((s.line l).cfg.kind = .hootLeg) && (s.group (s.line l).cfg.group).cfg.enabled then .active
    else .idle := by
  unfold State.faultExitState
  cases hk : (s.line l).cfg.kind <;> simp [LineKind.isWire, hk]

/-- A line record as it leaves FAULT. -/
theorem enter_from_fault (r : LineRec) (new : LineState) (h : new = .ringingIn ∨ new = .active ∨ new = .idle) :
    r.enter new = { r with
      state := new
      ring := if new = .ringingIn ∧ r.cfg.ringTimeout ≠ 0 then .running (r.cfg.ringTimeout * 100) else .stopped
      answer := .stopped, hang := .stopped, guard := .stopped, faultClear := false
      ringPending := if new = .active then r.ringPending else none } := by
  rcases h with rfl | rfl | rfl <;> simp [LineRec.enter, LineState.isUp, Timer.start]

theorem faultExitState_cases (s : State) (l : LineNo) :
    s.faultExitState l = .ringingIn ∨ s.faultExitState l = .active ∨ s.faultExitState l = .idle := by
  rw [faultExitState_eq]
  split_ifs <;> simp

/-- R20: with no speaker place assigned to the line, the exit is the change of state alone. -/
theorem exitFault_unassigned {s : State} (run : s.running = true) (l : LineNo) (c : LineCause)
    (h : ∀ j : Fin 256, s.psc.assigns[j] ≠ .line l) : s.exitFault l c =
      (s.setLine l ((s.line l).enter (s.faultExitState l))).raise (.line l (s.line l).state (s.faultExitState l) c) := by
  have none : (s.moveLine l (s.faultExitState l) c).placesOf l = [] := placesOf_eq_nil fun j => by
    rw [(does_moveLine (K := (· = .line l)) s l _ c rfl).psc (by simp)]
    exact h j
  rw [State.exitFault, State.makeLineMonitors, none, makeMonitors_nil, moveLine_running run]

theorem exitMet_expired {r : LineRec} (h : r.guard = .expired) (hc : r.faultClear = true) : r.exitMet = true := by
  unfold LineRec.exitMet
  cases r.cfg.faultMode <;> simp [h, hc]

/-- R19: CLEAR_FAULT on a line whose guard timer has expired and that no speaker place is assigned to. -/
theorem clearFault_unassigned {s : State} (run : s.running = true) {l : LineNo} (hs : (s.line l).state = .fault)
    (hg : (s.line l).guard = .expired) (ha : ∀ j : Fin 256, s.psc.assigns[j] ≠ .line l) :
    s.clearFault l =
      (s.setLine l { s.line l with
        state := s.faultExitState l
        ring := if s.faultExitState l = .ringingIn ∧ (s.line l).cfg.ringTimeout ≠ 0
          then .running ((s.line l).cfg.ringTimeout * 100) else .stopped
        answer := .stopped, hang := .stopped, guard := .stopped, faultClear := false
        ringPending := if s.faultExitState l = .active then (s.line l).ringPending else none }).raise
        (.line l .fault (s.faultExitState l) .clear) := by
  have leaves : s.clearFault l = (s.setLine l { s.line l with faultClear := true }).exitFault l .clear := by
    simp [State.clearFault, State.testExit, hs, exitMet_expired, hg]
  have same : (s.setLine l { s.line l with faultClear := true }).faultExitState l = s.faultExitState l := by
    simp [faultExitState_eq]
  have exit := exitFault_unassigned (s := s.setLine l { s.line l with faultClear := true }) run l .clear ha
  rw [same, enter_from_fault _ _ (faultExitState_cases s l), setLine_setLine, State.setLine_line_self] at exit
  rw [leaves, exit, hs]

/-- Settles O52: the refusals, then the exit from FAULT with no monitor to make. -/
theorem clearFaultAndTrigger : Obligations.ClearFaultAndTrigger := by
  intro tag s h
  have clear (line : U16) : exec (.clearFault tag line) s = .next ((s.judgeClearFault line).state.respond 4 tag
      (s.judgeClearFault line).code (s.judgeClearFault line).data) := by
    rw [exec_takes h.awake (.clearFault tag line) trivial]
    exact congrArg _ (request_serving h 4 tag fun s => s.judgeClearFault line)
  have trigger (cg : Byte) : exec (.trigger tag cg) s = .next ((s.judgeTrigger cg).state.respond 5 tag
      (s.judgeTrigger cg).code (s.judgeTrigger cg).data) := by
    rw [exec_takes h.awake (.trigger tag cg) trivial]
    exact congrArg _ (request_serving h 5 tag fun s => s.judgeTrigger cg)
  refine ⟨fun line => ⟨fun hr => ?_, fun l hl => ⟨fun hs => ?_, fun hs hg => ?_, fun hp hs hg ha => ?_⟩⟩,
    fun cg => ⟨fun hr => ?_, fun n hn => ⟨fun hp => ?_, fun hp he => ?_, fun hp he => ?_⟩⟩⟩
  · rw [clear, State.judgeClearFault, numOf_of_le hr]
    rfl
  · rw [clear, State.judgeClearFault, hl, numOf_val]
    simp [hs, State.refuse]
  · have stays : s.clearFault l = s.setLine l { s.line l with faultClear := true } := by
      simp [State.clearFault, State.testExit, LineRec.exitMet, hg]
    rw [clear, State.judgeClearFault, hl, numOf_val]
    simp [hs, State.accept, stays]
  · have run : s.running = true := by simp [State.running, hp]
    rw [clear, State.judgeClearFault, hl, numOf_val]
    simp only [hs, if_true, State.accept, clearFault_unassigned run hs hg ha, faultExitState_eq]
    rfl
  · rw [trigger, State.judgeTrigger, numOf_of_le hr]
    rfl
  · rw [trigger, State.judgeTrigger, hn, numOf_val]
    simp [State.running, hp, State.refuse]
  · rw [trigger, State.judgeTrigger, hn, numOf_val]
    simp [State.running, hp, he, State.refuse]
  · have run : s.running = true := by simp [State.running, hp]
    rw [trigger, State.judgeTrigger, hn, numOf_val]
    simp only [run, he, Bool.not_true, Bool.false_eq_true, if_false, State.accept, triggerGen_eq run n he]

end Sys2Proof.Machine

/-! ### O51: READ_STATE -/

namespace Sys2Proof.Machine

/-! #### Numbers and parts of records, byte for byte -/

theorem byte4_eq (n : Nat) : byte4 n =
    [BitVec.ofNat 8 (n / 16777216), BitVec.ofNat 8 (n / 65536), BitVec.ofNat 8 (n / 256), BitVec.ofNat 8 n] := by
  simp [byte4, byte2, Nat.div_div_eq_div_mul]

theorem flag1_eq (b : Bool) : flag1 b = [if b then BitVec.ofNat 8 1 else BitVec.ofNat 8 0] := by cases b <;> rfl

/-- The numbers that a test picks are an ascending list of its members. -/
theorem filter_finRange_eq {n : Nat} {p : Fin n → Bool} {L : List (Fin n)} (hL : L.Pairwise (· < ·))
    (h : ∀ i, p i = true ↔ i ∈ L) : (List.finRange n).filter p = L :=
  ((List.sortedLT_finRange n).pairwise.filter p).eq_of_mem_iff hL (by simp [h])

theorem chanSlots_mono {s : State} (h : s.rcu.mode = .mono) (c : ChanNo) : s.chanSlots c = [c] :=
  filter_finRange_eq (by simp) fun i => by simp [State.slotChan, h]

theorem chanSlots_stereo {s : State} (h : s.rcu.mode = .stereo) {c left right : ChanNo} (hl : left.val = 2 * c.val)
    (hr : right.val = 2 * c.val + 1) : s.chanSlots c = [left, right] := by
  refine filter_finRange_eq ?_ fun i => ?_
  · have : left < right := Fin.lt_def.2 (by omega)
    simpa using this
  · simp only [State.slotChan, h, decide_eq_true_eq, Fin.ext_iff, List.mem_cons, List.not_mem_nil, or_false]
    omega

theorem chanReady_mono {s : State} (h : s.rcu.mode = .mono) (c : ChanNo) : s.chanReady c = s.rcu.slotReady[c] := by
  simp [State.chanReady, h]

theorem chanReady_stereo {s : State} (h : s.rcu.mode = .stereo) {c left right : ChanNo} (hl : left.val = 2 * c.val)
    (hr : right.val = 2 * c.val + 1) : s.chanReady c = (s.rcu.slotReady[left] && s.rcu.slotReady[right]) := by
  have low : c.val < 64 := by omega
  simp [State.chanReady, h, low, hl, hr]

/-- R160: a target's place on the wait list is that of its first entry. -/
theorem idxOf_find {es : List RecWait} {x : Target} {e : RecWait} (h : es.find? (fun e => decide (e.target = x)) = some e) :
    es.idxOf e = es.findIdx (fun e => decide (e.target = x)) := by
  induction es with
  | nil => simp at h
  | cons y ys ih =>
    by_cases hy : y.target = x
    · obtain rfl : y = e := by simpa [List.find?_cons, hy] using h
      simp [List.findIdx_cons, hy]
    · have hne : y ≠ e := by
        rintro rfl
        simp only [List.find?_cons, hy, decide_false] at h
        exact hy (by simpa using List.find?_some h)
      simp only [List.find?_cons, hy, decide_false] at h
      simp [List.findIdx_cons, hy, hne, ih h]

/-! #### Judging a READ_STATE -/

theorem exec_readState {s : State} (h : s.serving) (tag : U16) (clear : Bool) (kind : Byte) (index : U16) :
    exec (.readState tag clear kind index) s = .next ((s.judgeReadState clear kind index).state.respond 3 tag
      (s.judgeReadState clear kind index).code (s.judgeReadState clear kind index).data) := by
  rw [exec_takes h.awake (.readState tag clear kind index) trivial]
  exact congrArg _ (request_serving h 3 tag fun s => s.judgeReadState clear kind index)

/-- An object's response; the clear option acts on clip counters alone. -/
theorem readState_answers {s : State} (h : s.serving) (tag : U16) (clear : Bool) {kind : Byte} {index : U16} {bs : List Byte}
    (hb : s.stateBytes kind.toNat index.toNat = some (some bs)) (hk : kind ≠ 7) :
    exec (.readState tag clear kind index) s = .next (s.respond 3 tag .ok bs) := by
  rw [exec_readState h]
  have off : (clear && decide (kind = 7)) = false := by simp only [hk, decide_false, Bool.and_false]
  simp only [State.judgeReadState, hb, off, Bool.false_eq_true, if_false, State.answerData]

theorem toNat_index {n : Nat} (i : Fin n) (h : n ≤ 65536 := by decide) : (BitVec.ofNat 16 i.val).toNat = i.val := by
  simp only [BitVec.toNat_ofNat]
  omega

/-- R195: the marks of a group stay in ascending order. -/
theorem insertMark_sorted (p : PosNo) (ms : List PosNo) (h : ms.Pairwise (fun a b => a < b)) :
    (insertMark p ms).Pairwise (fun a b => a < b) ∧ ∀ q : PosNo, q ∈ insertMark p ms ↔ q = p ∨ q ∈ ms := by
  induction ms with
  | nil => simp [insertMark]
  | cons x xs ih =>
    obtain ⟨hx, hxs⟩ := List.pairwise_cons.1 h
    obtain ⟨sorted, mem⟩ := ih hxs
    unfold insertMark
    split_ifs with hlt heq
    · refine ⟨List.pairwise_cons.2 ⟨fun y hy => ?_, h⟩, by simp⟩
      rcases List.mem_cons.1 hy with rfl | hy
      · exact hlt
      · exact lt_trans hlt (hx y hy)
    · exact ⟨h, by simp [heq]⟩
    · refine ⟨List.pairwise_cons.2 ⟨fun y hy => ?_, sorted⟩, fun q => by simp [mem, or_left_comm]⟩
      rcases (mem y).1 hy with rfl | hy
      · exact lt_of_le_of_ne (not_lt.1 hlt) (Ne.symm heq)
      · exact hx y hy

/-- R53: the speaker places in the order of their index are those of each position in turn. -/
theorem speakerPlaces_eq : speakerPlaces =
    (List.finRange 32).flatMap fun p => (List.finRange 8).map fun k => (p, k) := by
  decide +kernel

/-- R53: the speaker records of a line, position by position and channel by channel. -/
theorem monitorsSorted_eq (s : State) (l : LineNo) : s.monitorsSorted l =
    (List.finRange 32).flatMap fun p => (List.finRange 8).flatMap fun k =>
      (s.monitors l).filter fun c => decide (c.pos = p) && decide (c.place = .spk k) := by
  rw [State.monitorsSorted, speakerPlaces_eq, ← List.flatMap_def, List.flatMap_assoc]
  simp only [List.flatMap_map]

/-- R168: a position port has eight slots. -/
theorem portPositions_length : ∀ n : PortNo, 4 ≤ n.val → n.val < 8 → (portPositions n).length = 8 := by decide

/-- Settles O51: the bytes of each object, part by part. -/
theorem readStateAnswersAndClears : Obligations.ReadStateAnswersAndClears := by
  refine ⟨?_, fun p ms h => insertMark_sorted p ms h, by decide, by decide, by decide, by decide, by decide, by decide,
    by decide, by decide⟩
  intro tag index clear s h answer channels num one two four flag source timer share place records entries order binding
    tag16 channel
  have byte1s (n : Nat) : byte1 n = [one n] := rfl
  have byte2s (n : Nat) : byte2 n = two n := rfl
  have byte4s (n : Nat) : byte4 n = four n := byte4_eq n
  have flags (b : Bool) : flag1 b = [flag b] := flag1_eq b
  have flag1s : flag1 = fun b => [flag b] := funext flags
  have singles {α : Type} (f : α → Byte) (l : List α) : l.flatMap (fun x => [f x]) = l.map f :=
    List.map_eq_flatMap.symm
  have sources (x : Option CgNo) : cgBytes x = [source x] := by cases x <;> rfl
  have timers (x : Timer) : x.bytes = timer x := by
    cases x with
    | stopped => rfl
    | running n => show byte1 1 ++ byte4 n = _; rw [byte4s]; rfl
    | expired => rfl
  have shares (l : LineNo) : (s.share l).bytes = share l := by
    show _ = match s.share l with
      | .none => _
      | .sole => _
      | .bridged => _
      | .exclusive p => _
    cases s.share l <;> rfl
  have places (x : Place) : one x.code = place x := by cases x <;> rfl
  have conns (cs : List Conn) : counted Conn.bytes cs = records cs := by
    have each : Conn.bytes = fun c => two c.line.val ++ [one c.pos.val, place c.place,
        if c.place.isHandset then 0 else 1, flag c.talk] ++ four c.joined.toNat := by
      funext c
      have side : (byte1 (if c.place.isHandset then 0 else 1) : List Byte) = [if c.place.isHandset then 0 else 1] := by
        cases c.place.isHandset <;> rfl
      simp only [Conn.bytes, byte2s, byte4s, flags, side, byte1s, places, List.append_assoc, List.cons_append,
        List.nil_append]
    simp only [counted, byte1s, each, records, List.cons_append, List.nil_append]
  have talks (es : List TalkEntry) : counted TalkEntry.bytes es = entries es := by
    have each : TalkEntry.bytes = fun e => [one e.pos.val, one (talkClassCode e.cls)] ++ four e.stamp.toNat := by
      funext e
      simp only [TalkEntry.bytes, byte1s, byte4s, List.cons_append, List.nil_append]
    simp only [counted, byte1s, each, entries, List.cons_append, List.nil_append]
  have bindings (x : Target) : s.bindingBytes x = binding x := by
    have list : s.waitList = order := rfl
    cases hb : s.boundChan x with
    | some c => simp only [State.bindingBytes, binding, hb]; rfl
    | none =>
      cases hf : order.find? (fun e => decide (e.target = x)) with
      | none => simp only [State.bindingBytes, State.waitPlace, binding, hb, list, hf]; rfl
      | some e =>
        have rank : byte1 e.rank.code = [if e.rank = .best then 0 else 1] := by cases e.rank <;> rfl
        simp only [State.bindingBytes, State.waitPlace, binding, hb, list, hf, Option.map_some, idxOf_find hf, rank, byte2s]
        rfl
  have targets (x : Option Target) : targetBytes x = match x with
      | none => [0, 255, 255]
      | some (.line l) => 1 :: two l.val
      | some (.group g) => 2 :: two g.val := by
    rcases x with _ | _ | _ <;> rfl
  have tags (x : Tag) : x.bytes = tag16 x := by
    have parties : partyBytes x.parties = (x.parties.map (fun p : PosNo => one p.val) ++ [255, 255, 255, 255]).take 4 := by
      have pad : List.replicate (4 - x.parties.length) (255 : Byte) = ([255, 255, 255, 255] : List Byte).take (4 - x.parties.length) := by
        rw [show ([255, 255, 255, 255] : List Byte) = List.replicate 4 255 from rfl, List.take_replicate]
        congr 1
        omega
      rw [partyBytes, pad, List.take_append, List.take_append, List.take_take, List.length_map]
      congr 2
      omega
    obtain ⟨indicator, target, segment, parties⟩ := x
    unfold Tag.bytes
    simp only [parties, byte1s, byte2s, tag16]
    rcases target with _ | _ | _ <;> rfl
  have channelsOf (c first : ChanNo) (readies : List Bool) (low : c.val < s.rcu.mode.channels)
      (ready : s.chanReady c = readies.all id)
      (slots : ∃ rest, s.chanSlots c = first :: rest ∧ (first :: rest).map (fun i : ChanNo => s.rcu.slotReady[i]) = readies) :
      (if c.val < s.rcu.mode.channels then (numOf 128 c.val).map s.channelBytes else none) =
        some (channel c first readies) := by
    obtain ⟨rest, slots, rfl⟩ := slots
    rw [if_pos low, numOf_val, Option.map_some]
    unfold State.channelBytes
    simp only [slots, ready, byte1s, byte2s, flags, tags, targets, counted, singles, List.length_map, List.map_map,
      List.append_assoc, List.cons_append, List.nil_append, channel]
    rfl
  refine ⟨fun kind hk => ?_, fun x hx hi => ?_, fun l => ?_, fun p => ?_, fun l => ?_, fun g => ?_, fun n => ?_,
    fun c hm => ?_, fun c left right hm hl hr => ?_, fun n => ?_, fun i => ?_⟩
  · have none : s.stateBytes kind.toNat index.toNat = none := by
      unfold State.stateBytes
      split <;> first | omega | rfl
    rw [exec_readState h, State.judgeReadState, none]
    rfl
  · have beyond : s.stateBytes (BitVec.ofNat 8 x.1).toNat index.toNat = some none := by
      simp only [List.mem_cons, List.not_mem_nil, or_false] at hx
      rcases hx with rfl | rfl | rfl | rfl | rfl | rfl | rfl | rfl <;>
        simp only [BitVec.toNat_ofNat, Nat.reduceMod, Nat.reducePow, State.stateBytes, numOf_of_le hi, Option.map_none]
      have room : s.rcu.mode.channels ≤ index.toNat := by
        refine le_trans (le_of_eq ?_) hi
        show _ = if s.rcu.mode = .mono then 128 else 64
        cases s.rcu.mode <;> rfl
      rw [if_neg (Nat.not_lt.2 room)]
    rw [exec_readState h, State.judgeReadState, beyond]
    rfl
  · refine readState_answers h tag clear (kind := 0) ?_ (by decide)
    rw [toNat_index]
    show some ((numOf 512 l.val).map s.lineBytes) = _
    rw [numOf_val]
    rw [Option.map_some]
    unfold State.lineBytes
    simp only [byte1s, flags, sources, timers, shares, conns, bindings, List.append_assoc, List.cons_append,
      List.nil_append]
    cases (s.lineSide l).2 <;> rfl
  · refine readState_answers h tag clear (kind := 1) ?_ (by decide)
    rw [toNat_index]
    show some ((numOf 32 p.val).map s.positionBytes) = _
    rw [numOf_val]
    have hand (x : Handset) : byte1 (handsetCode x) = [if x = .left then 0 else 1] := by cases x <;> rfl
    rw [Option.map_some]
    unfold State.positionBytes
    simp only [flags, hand, byte1s, counted, List.cons_append, List.nil_append]
    have pressed : Pressed.bytes = fun e => one e.key.val :: match e.target with
        | .group g => [0, one g.val]
        | .lineSpeaker c => [1, one c.val] := by
      funext ⟨key, target⟩
      cases target <;> rfl
    rw [pressed]
    cases (s.position p).denial <;> rfl
  · refine readState_answers h tag clear (kind := 2) ?_ (by decide)
    rw [toNat_index]
    show some ((numOf 512 l.val).map s.connectionBytes) = _
    rw [numOf_val]
    simp only [Option.map_some, State.connectionBytes, shares, byte1s, conns, monitorsSorted_eq,
      List.append_assoc, List.cons_append, List.nil_append]
  · refine readState_answers h tag clear (kind := 3) ?_ (by decide)
    rw [toNat_index]
    show some ((numOf 64 g.val).map s.groupBytes) = _
    rw [numOf_val]
    rw [Option.map_some]
    unfold State.groupBytes
    simp only [talks, bindings]
    simp only [GroupCfg.bytes, flags, byte1s, byte2s, State.legs, counted, singles, List.append_assoc,
      List.cons_append, List.nil_append]
    cases s.groupPolicy g <;> rfl
  · refine readState_answers h tag clear (kind := 4) ?_ (by decide)
    rw [toNat_index]
    show some ((numOf 16 n.val).map s.generatorBytes) = _
    rw [numOf_val]
    simp only [Option.map_some, State.generatorBytes, Gen.cfgBytes, flags, byte1s, byte2s, byte4s, sources, State.now,
      List.append_assoc, List.cons_append, List.nil_append]
  · refine readState_answers h tag clear (kind := 5) ?_ (by decide)
    rw [toNat_index]
    exact congrArg some (channelsOf c c [s.rcu.slotReady[c]] (by rw [hm]; exact c.isLt) (by simp [chanReady_mono hm]) (by simp [chanSlots_mono hm]))
  · refine readState_answers h tag clear (kind := 5) ?_ (by decide)
    rw [toNat_index]
    have low : c.val < s.rcu.mode.channels := by
      rw [hm]
      show c.val < 64
      omega
    exact congrArg some (channelsOf c left _ low (by simp [chanReady_stereo hm hl hr]) ⟨[right], chanSlots_stereo hm hl hr, rfl⟩)
  · refine readState_answers h tag clear (kind := 6) ?_ (by decide)
    rw [toNat_index]
    show some ((numOf 9 n.val).map s.portBytes) = _
    rw [numOf_val, Option.map_some]
    unfold State.portBytes
    simp only [byte1s, counted, flag1s, singles, portPositions, List.cons_append, List.nil_append]
    have here (p : PosNo) : decide (posPort p = n) = decide (4 + p.val / 8 = n.val) := by simp [posPort, Fin.ext_iff]
    split_ifs with h4 h8
    · rfl
    · have eight := portPositions_length n (Nat.le_of_not_lt h4) h8
      rw [portPositions] at eight
      rw [eight]
      simp only [here]
      rfl
    · rw [Vector.length_toList]
      rfl
  · rw [exec_readState h]
    have bytes : s.stateBytes (7 : Byte).toNat (num i.val).toNat = some (some (two s.mix.clips[i])) := by
      rw [toNat_index]
      show some ((numOf 960 i.val).map s.clipBytes) = _
      rw [numOf_val]
      rfl
    simp only [State.judgeReadState, bytes, decide_true, Bool.and_true, State.answerData, answer]
    have cleared : s.clearClip (num i.val).toNat = { s with mix := { s.mix with clips := s.mix.clips.set i 0 } } := by
      rw [toNat_index]
      simp [State.clearClip]
    rw [cleared]

end Sys2Proof.Machine

/-! ### Period ends (R79) -/

namespace Sys2Proof.Machine

/-! #### One generator -/

theorem receives_iff (g : Gen) (es : List CgNo) :
    g.receives es = true ↔ g.enable = true ∧ ∃ m, g.source = some m ∧ m ∈ es := by
  unfold Gen.receives
  cases g.source <;> simp

theorem wraps_iff (g : Gen) :
    g.wraps = true ↔ g.enable = true ∧ g.running = true ∧ g.active.period ≤ g.phase + 1 := by
  simp [Gen.wraps, and_assoc]

/-- A generator that takes no period end of `es`. -/
theorem receive_of_not {g : Gen} {es : List CgNo} (h : ¬ g.receives es = true ∨ g.mode = .free) : g.receive es = g := by
  unfold Gen.receive
  rcases h with h | h
  · rw [if_neg h]
  · rw [h]
    exact ite_self g

theorem receive_follow {g : Gen} {es : List CgNo} (h : g.receives es = true) (hm : g.mode = .follow) :
    g.receive es = g.load := by
  rw [Gen.receive, if_pos h, hm]

theorem receive_oneshot {g : Gen} {es : List CgNo} (h : g.receives es = true) (hm : g.mode = .oneshot) :
    g.receive es = if g.running then g else { g with running := true, phase := 0 } := by
  have on := ((receives_iff g es).1 h).1
  rw [Gen.receive, if_pos h, hm]
  cases hr : g.running <;> simp [Gen.trigger, Gen.waiting, on, hm, hr]

/-- A generator not enabled, FREE or without a source takes no period end. -/
theorem receive_of_idle {g : Gen} (es : List CgNo) (h : g.enable = false ∨ g.mode = .free ∨ g.source = none) :
    g.receive es = g := by
  refine receive_of_not ?_
  rw [receives_iff]
  rcases h with h | h | h
  · exact .inl (by simp [h])
  · exact .inr h
  · exact .inl (by simp [h])

/-! #### Passing on -/

theorem passOn_gen (s : State) (es : List CgNo) (n : CgNo) : (s.passOn es).gen n = (s.gen n).receive (s.spread 15 es) := by
  simp [State.passOn, State.endBursts, State.gen]

theorem passOn_line (s : State) (es : List CgNo) (l : LineNo) :
    (s.passOn es).line l = (s.line l).endBurst (s.spread 15 es) := by
  simp [State.passOn, State.endBursts, State.line]

theorem LineRec.endBurst_of_mem {r : LineRec} {es : List CgNo} {n : CgNo} (h : r.ringPending = some n) (hn : n ∈ es) :
    r.endBurst es = { r with ringPending := none } := by
  simp [LineRec.endBurst, h, hn]

theorem LineRec.endBurst_of_not_mem {r : LineRec} {es : List CgNo} {n : CgNo} (h : r.ringPending = some n) (hn : n ∉ es) :
    r.endBurst es = r := by
  simp [LineRec.endBurst, h, hn]

/-! #### Where period ends spread -/

theorem mem_spreadOnce {s : State} {es : List CgNo} {n : CgNo} :
    n ∈ s.spreadOnce es ↔ n ∈ es ∨ ((s.gen n).mode = .follow ∧ (s.gen n).receives es = true) := by
  simp [State.spreadOnce]

theorem spread_succ (s : State) (k : Nat) (es : List CgNo) : s.spread (k + 1) es = s.spreadOnce (s.spread k es) := by
  induction k generalizing es with
  | zero => rfl
  | succ k ih => rw [State.spread, ih, State.spread]

theorem mem_spread_of_mem {s : State} {k : Nat} {es : List CgNo} {n : CgNo} (h : n ∈ es) : n ∈ s.spread k es := by
  induction k with
  | zero => exact h
  | succ k ih => rw [spread_succ]; exact mem_spreadOnce.2 (.inl ih)

/-- The spread of period ends reads no more than the mode, the enable and the source of the generators. -/
theorem spread_congr {s t : State} (h : ∀ n, (t.gen n).mode = (s.gen n).mode ∧ (t.gen n).enable = (s.gen n).enable ∧
    (t.gen n).source = (s.gen n).source) (k : Nat) (es : List CgNo) : t.spread k es = s.spread k es := by
  have once (es : List CgNo) : t.spreadOnce es = s.spreadOnce es := by
    refine List.filter_congr fun n _ => ?_
    obtain ⟨mode, on, source⟩ := h n
    simp [mode, on, source, Gen.receives]
  induction k generalizing es with
  | zero => rfl
  | succ k ih => rw [State.spread, State.spread, once, ih]

/-- R74: a generator that period ends of `n` reach through FOLLOW generators leads back to `n` along its sources. -/
theorem returnsTo_succ {s : State} {n m : CgNo} {k : Nat} (h : s.returnsTo n k m = true) : s.returnsTo n (k + 1) m = true := by
  induction k generalizing m with
  | zero =>
    simp only [State.returnsTo, decide_eq_true_eq] at h
    simp [State.returnsTo, h]
  | succ k ih =>
    rw [State.returnsTo] at h ⊢
    cases hs : (s.gen m).source with
    | none => simpa [hs] using h
    | some x =>
      simp only [hs, Bool.or_eq_true] at h ⊢
      exact h.imp id ih

theorem returnsTo_of_mem_spread {s : State} {n : CgNo} (k : Nat) {x : CgNo} (h : x ∈ s.spread k [n]) :
    s.returnsTo n k x = true := by
  induction k generalizing x with
  | zero =>
    obtain rfl : x = n := by simpa [State.spread] using h
    simp [State.returnsTo]
  | succ k ih =>
    rw [spread_succ, mem_spreadOnce] at h
    rcases h with h | ⟨-, h⟩
    · exact returnsTo_succ (ih h)
    · obtain ⟨-, m, source, hm⟩ := (receives_iff _ _).1 h
      simp [State.returnsTo, source, ih hm]

/-! ### O23: the wrap of a generator -/

/-- Loading a generator twice loads it once. -/
theorem load_load (g : Gen) : g.load.load = g.load := rfl

/-- A generator that is loaded and no ONESHOT stays loaded through the period ends of the step. -/
theorem load_receive {g : Gen} (h : g.mode ≠ .oneshot) (es : List CgNo) : g.load.receive es = g.load := by
  by_cases hr : g.load.receives es = true
  · cases hm : g.mode with
    | free => exact receive_of_not (.inr hm)
    | follow => rw [receive_follow hr hm, load_load]
    | oneshot => exact absurd hm h
  · exact receive_of_not (.inl hr)

/-- What the receivers of generator `n` do with its period end, where `n` itself has changed. -/
theorem passOn_receiver (s : State) (n m : CgNo) (g : Gen) (hne : m ≠ n) (on : (s.gen m).enable = true)
    (source : (s.gen m).source = some n) :
    let t := (s.setGen n g).passOn [n]
    ((s.gen m).mode = .follow → t.gen m = { s.gen m with active := (s.gen m).pending, phase := 0 }) ∧
    ((s.gen m).mode = .oneshot → t.gen m =
      if (s.gen m).running then s.gen m else { s.gen m with running := true, phase := 0 }) := by
  have same : (s.setGen n g).gen m = s.gen m := State.setGen_gen_ne s g hne.symm
  have takes : (s.gen m).receives ((s.setGen n g).spread 15 [n]) = true :=
    (receives_iff _ _).2 ⟨on, n, source, mem_spread_of_mem (by simp)⟩
  refine ⟨fun hm => ?_, fun hm => ?_⟩
  · rw [passOn_gen, same, receive_follow takes hm]
    rfl
  · rw [passOn_gen, same, receive_oneshot takes hm]

theorem passOn_bursts (s : State) (n : CgNo) (g : Gen) :
    let t := (s.setGen n g).passOn [n]
    (∀ l : LineNo, (s.line l).ringPending = some n → t.line l = { s.line l with ringPending := none }) ∧
    (∀ l : LineNo, (s.line l).ringPending = none → t.line l = s.line l) := by
  refine ⟨fun l hl => ?_, fun l hl => ?_⟩
  · rw [passOn_line]
    exact LineRec.endBurst_of_mem hl (mem_spread_of_mem (by simp))
  · rw [passOn_line]
    exact LineRec.endBurst_of_none _ hl

theorem wrapGen_eq {s : State} (run : s.running = true) {n : CgNo} (on : (s.gen n).enable = true)
    (runs : (s.gen n).running = true) (hm : (s.gen n).mode ≠ .oneshot) :
    s.wrapGen n = (s.setGen n (s.gen n).load).passOn [n] := by
  simp [State.wrapGen, run, on, runs, hm]

/-- Settles O23: the wrap loads the generator, and its period end spreads from it. -/
theorem generatorWrapPassesOn : Obligations.GeneratorWrapPassesOn := by
  intro n s h
  refine ⟨fun on runs hm => ⟨_, exec_generatorWrap h.1 n, ?_⟩, fun hn => ?_⟩
  · rw [wrapGen_eq h.running on runs hm]
    obtain ⟨bursts, others⟩ := passOn_bursts s n (s.gen n).load
    refine ⟨rfl, ?_, fun m hne hon hsrc => passOn_receiver s n m _ hne hon hsrc, fun m hne hidle => ?_, bursts, others⟩
    · rw [passOn_gen, State.setGen_gen_self, load_receive hm]
      rfl
    · rw [passOn_gen, State.setGen_gen_ne s _ hne.symm, receive_of_idle _ hidle]
  · rw [exec_generatorWrap h.1]
    refine congrArg _ (if_neg ?_)
    rcases hn with hn | hn | hn <;> simp [hn]

/-! ### O24: the completion of a ONESHOT generator -/

theorem completeGen_eq {s : State} (run : s.running = true) {n : CgNo} (on : (s.gen n).enable = true)
    (runs : (s.gen n).running = true) (hm : (s.gen n).mode = .oneshot) :
    s.completeGen n = (s.setGen n (s.gen n).complete).passOn [n] := by
  simp [State.completeGen, run, on, runs, hm]

/-- R74: a generator whose sources form no cycle takes no part in the passing on of its own period end. -/
theorem not_receives_own {s : State} {n : CgNo} {g : Gen} (hs : g.source = (s.gen n).source)
    (h : s.closesCycle n (s.gen n).source = false) (hg : ∀ m, ((s.setGen n g).gen m).mode = (s.gen m).mode ∧
      ((s.setGen n g).gen m).enable = (s.gen m).enable ∧ ((s.setGen n g).gen m).source = (s.gen m).source) :
    ¬ g.receives ((s.setGen n g).spread 15 [n]) = true := by
  rw [receives_iff, hs]
  rintro ⟨-, m, source, hm⟩
  rw [spread_congr hg] at hm
  have back := returnsTo_succ (returnsTo_of_mem_spread 15 hm)
  rw [source, State.closesCycle, back] at h
  cases h

/-- Settles O24: the completion stops the generator, and its period end spreads from it but not back to it. -/
theorem oneshotCompletionPassesOn : Obligations.OneshotCompletionPassesOn := by
  intro n s h
  refine ⟨fun on runs hm hcycle => ⟨_, exec_oneshotCompletion h.1 n, ?_⟩, fun hn => ?_⟩
  · rw [completeGen_eq h.running on runs hm]
    obtain ⟨bursts, others⟩ := passOn_bursts s n (s.gen n).complete
    refine ⟨rfl, ?_, fun m hne hon hsrc => passOn_receiver s n m _ hne hon hsrc, bursts, others⟩
    have alike (m : CgNo) : ((s.setGen n (s.gen n).complete).gen m).mode = (s.gen m).mode ∧
        ((s.setGen n (s.gen n).complete).gen m).enable = (s.gen m).enable ∧
        ((s.setGen n (s.gen n).complete).gen m).source = (s.gen m).source := by
      rw [State.setGen_gen_eq]
      split
      · rename_i e
        subst e
        exact ⟨rfl, rfl, rfl⟩
      · exact ⟨rfl, rfl, rfl⟩
    rw [passOn_gen, State.setGen_gen_self, receive_of_not (.inl (not_receives_own (by rfl) hcycle alike))]
    rfl
  · rw [exec_oneshotCompletion h.1]
    refine congrArg _ (if_neg ?_)
    rcases hn with hn | hn | hn <;> simp [hn]

/-! ### O21: the cadence step at the clock and the generators -/

/-- A list of generators is closed when no FOLLOW generator beyond it takes a period end of it. -/
def SpreadClosed (s : State) (es : List CgNo) : Prop := ∀ n, n ∈ s.spreadOnce es → n ∈ es

theorem SpreadClosed.spreadOnce {s : State} {es : List CgNo} (h : SpreadClosed s es) : SpreadClosed s (s.spreadOnce es) := by
  have same (n : CgNo) : n ∈ s.spreadOnce es ↔ n ∈ es := ⟨h n, fun hn => mem_spreadOnce.2 (.inl hn)⟩
  intro n hn
  rw [same]
  refine h n (mem_spreadOnce.2 ?_)
  refine (mem_spreadOnce.1 hn).imp (same n).1 fun ⟨mode, takes⟩ => ⟨mode, ?_⟩
  obtain ⟨on, m, source, hm⟩ := (receives_iff _ _).1 takes
  exact (receives_iff _ _).2 ⟨on, m, source, (same m).1 hm⟩

/-- Each link of the spread adds a generator, until the list is closed. -/
theorem spread_grows {s : State} {es : List CgNo} (hne : es ≠ []) (k : Nat) :
    k + 1 ≤ (s.spread k es).toFinset.card ∨ SpreadClosed s (s.spread k es) := by
  induction k with
  | zero =>
    left
    exact Finset.card_pos.2 (List.toFinset_nonempty_iff es |>.2 hne)
  | succ k ih =>
    rw [spread_succ]
    rcases ih with ih | ih
    · by_cases hc : SpreadClosed s (s.spread k es)
      · exact .inr hc.spreadOnce
      · left
        simp only [SpreadClosed, not_forall] at hc
        obtain ⟨n, new, old⟩ := hc
        have more : (s.spread k es).toFinset ⊂ (s.spreadOnce (s.spread k es)).toFinset := by
          refine Finset.ssubset_iff_of_subset (fun x hx => ?_) |>.2 ⟨n, by simpa using new, by simpa using old⟩
          rw [List.mem_toFinset] at hx ⊢
          exact mem_spreadOnce.2 (.inl hx)
        have := Finset.card_lt_card more
        omega
    · exact .inr ih.spreadOnce

/-- R79: fifteen links reach every generator that a chain of FOLLOW generators does. -/
theorem spread_closed (s : State) (es : List CgNo) : SpreadClosed s (s.spread 15 es) := by
  by_cases hne : es = []
  · have none (k : Nat) : s.spread k [] = [] := by
      induction k with
      | zero => rfl
      | succ k ih =>
        rw [spread_succ, ih, List.eq_nil_iff_forall_not_mem]
        intro n hn
        simp [mem_spreadOnce, receives_iff] at hn
    rw [hne, none]
    intro n hn
    simp [mem_spreadOnce, receives_iff] at hn
  · rcases spread_grows (s := s) hne 15 with h | h
    · have all : (s.spread 15 es).toFinset = Finset.univ := by
        refine Finset.eq_univ_of_card _ (le_antisymm (Finset.card_le_univ _) ?_)
        simpa using h
      intro n _
      rw [← List.mem_toFinset, all]
      exact Finset.mem_univ n
    · exact h

/-- The generators that wrap or complete by themselves in a cadence step. -/
def State.wrapping (s : State) : List CgNo := (List.finRange 16).filter (fun n => (s.gen n).wraps)

/-- R79: the period ends of a cadence step. -/
theorem endsAt_iff (s : State) (n : CgNo) : s.EndsAt n ↔ n ∈ s.spread 15 s.wrapping := by
  refine ⟨fun h => ?_, ?_⟩
  · induction h with
    | wrap n on runs last =>
      exact mem_spread_of_mem (by simp [State.wrapping, wraps_iff, on, runs, last])
    | sync n m on follows source _ ih =>
      exact spread_closed s _ n (mem_spreadOnce.2 (.inr ⟨follows, (receives_iff _ _).2 ⟨on, m, source, ih⟩⟩))
  · generalize 15 = k
    induction k generalizing n with
    | zero =>
      intro h
      obtain ⟨on, runs, last⟩ := (wraps_iff _).1 (by simpa [State.spread, State.wrapping] using h)
      exact .wrap n on runs last
    | succ k ih =>
      intro h
      rw [spread_succ, mem_spreadOnce] at h
      rcases h with h | ⟨follows, takes⟩
      · exact ih n h
      · obtain ⟨on, m, source, hm⟩ := (receives_iff _ _).1 takes
        exact .sync n m on follows source (ih m hm)

/-- R79, R82: a generator's own advance in a cadence step. -/
theorem advance_eq (g : Gen) : g.advance =
    if g.enable && g.running && decide (g.active.period ≤ g.phase + 1)
      then { g with active := g.pending, phase := 0, running := decide (g.mode ≠ .oneshot) }
    else if g.enable && g.running then { g with phase := g.phase + 1 }
    else g := by
  unfold Gen.advance
  split
  · rename_i h
    have ends : (g.enable && g.running && decide (g.active.period ≤ g.phase + 1)) = true := h
    obtain ⟨-, runs, -⟩ := (wraps_iff g).1 h
    rw [if_pos ends]
    by_cases hm : g.mode = .oneshot <;> simp [Gen.complete, Gen.load, hm, runs]
  · rename_i h
    exact (if_neg h).symm

theorem advance_kept (g : Gen) : g.advance.mode = g.mode ∧ g.advance.enable = g.enable ∧ g.advance.source = g.source := by
  rw [advance_eq]
  split_ifs <;> exact ⟨rfl, rfl, rfl⟩

/-- A sync leaves nothing of the generator's own advance, unless it is a ONESHOT. -/
theorem advance_load {g : Gen} (hm : g.mode = .follow) : g.advance.load = g.load := by
  have runs : decide (g.mode ≠ .oneshot) = true := by simp [hm]
  rw [advance_eq, runs]
  split_ifs with h
  · simp only [Bool.and_eq_true] at h
    simp [Gen.load, h.1.2]
  · rfl
  · rfl

/-- R79 step 1: the generators after their own advances. -/
def State.advanced (s : State) : State := { s with cdu := { s.cdu with gens := s.cdu.gens.map Gen.advance } }

theorem stepGens_eq (s : State) : s.stepGens = s.advanced.passOn s.wrapping := rfl

theorem advanced_gen (s : State) (n : CgNo) : s.advanced.gen n = (s.gen n).advance := by
  simp [State.gen, State.advanced]

theorem advanced_spread (s : State) (es : List CgNo) : s.advanced.spread 15 es = s.spread 15 es :=
  spread_congr (fun n => by rw [advanced_gen]; exact advance_kept _) 15 es

theorem stepGens_gen (s : State) (n : CgNo) :
    s.stepGens.gen n = (s.gen n).advance.receive (s.spread 15 s.wrapping) := by
  rw [stepGens_eq, passOn_gen, advanced_gen, advanced_spread]

theorem stepGens_line (s : State) (l : LineNo) : s.stepGens.line l = (s.line l).endBurst (s.spread 15 s.wrapping) := by
  rw [stepGens_eq, passOn_line, advanced_spread]
  rfl

/-- The footprint of the blocks that take a cadence step after the generators. -/
def afterGens : Touch → Prop
  | .gens => False
  | .mix => False
  | .bursts => False
  | .burst _ => False
  | .far _ => False
  | _ => True

theorem does_afterGens (s : State) : Does afterGens s s.lineTimers.denialSteps.talkTimeouts := by
  have calls : Calls afterGens fun _ => True := ⟨trivial, trivial, fun _ _ => trivial, fun _ _ => trivial, fun _ _ => trivial⟩
  exact ((does_lineTimers calls trivial s).trans ((Update.psc _ _).does trivial)).trans
    (does_timeoutStep trivial trivial _ _)

/-- The footprint of calls on the lines `A`. -/
def callsOn (A : LineNo → Prop) : Touch → Prop
  | .conns => True
  | .recording => True
  | .line l => A l
  | .demand l => A l
  | .privacy l => A l
  | _ => False

theorem calls_callsOn (A : LineNo → Prop) : Calls (callsOn A) A :=
  ⟨trivial, trivial, fun _ h => h, fun _ h => h, fun _ h => h⟩

/-- The footprint of talk: GTU and recording. -/
def talkOnly : Touch → Prop
  | .gtu => True
  | .recording => True
  | _ => False

/-- R6: a step leaves the record of a line none of whose timers expires but for the counts of its timers. -/
theorem lineTimers_line {s : State} {l : LineNo} (h : (s.line l).anyDue = false) : s.lineTimers.line l = (s.line l).tick := by
  have ticked : ({ s with lnc := { s.lnc with lines := s.lnc.lines.map LineRec.tick } } : State).line l =
      (s.line l).tick := by
    simp [State.line]
  have others (due : List LineNo) (hl : l ∉ due) (t : State) :
      (due.foldl (fun t x => State.lineExpiries (s.line x) t x) t).line l = t.line l := by
    refine (Does.foldl (K := callsOn (· ≠ l)) _ due (fun t x hx => ?_) t).line l fun h => h rfl
    exact does_lineExpiries ((calls_callsOn _).one (A := (· ≠ l)) (l := x) fun e => hl (e ▸ hx)) _ t
  unfold State.lineTimers
  rw [others _ (by simp [h]), ticked]

/-- What LNC, PSC and GTU make of a line at a step, when none of its timers expires. -/
theorem afterGens_line {s : State} {l : LineNo} (h : (s.line l).anyDue = false) :
    s.lineTimers.denialSteps.talkTimeouts.line l = (s.line l).tick := by
  have talk (u : State) : u.talkTimeouts.line l = u.line l :=
    (does_timeoutStep (K := talkOnly) trivial trivial u (List.finRange 64)).line l id
  have denials (u : State) : u.denialSteps.line l = u.line l := rfl
  rw [talk, denials, lineTimers_line h]

theorem endBurst_anyDue (es : List CgNo) (r : LineRec) : (r.endBurst es).anyDue = r.anyDue := by
  unfold LineRec.endBurst
  split
  · split <;> rfl
  · rfl

/-- The state of a cadence step after its clock has counted. -/
def State.clocked (s : State) : State := { s with cdu := { s.cdu with clock := s.cdu.clock + 1 } }

theorem cadenceStep_running {s : State} (h : s.running = true) :
    s.cadenceStep = s.clocked.stepGens.lineTimers.denialSteps.talkTimeouts :=
  if_pos h

theorem cadenceStep_held {s : State} (h : s.running = false) : s.cadenceStep = s.clocked := by
  have : s.clocked.running = false := h
  exact if_neg (by simp [State.clocked] at this; simp [this])

/-- R79: generators after a cadence step. -/
theorem cadenceStep_gen {s : State} (h : s.running = true) (n : CgNo) :
    s.cadenceStep.gen n = (s.gen n).advance.receive (s.spread 15 s.wrapping) := by
  rw [cadenceStep_running h, State.gen, (does_afterGens _).cdu]
  exact stepGens_gen s.clocked n

/-- Settles O21. -/
theorem cadenceStepAdvancesGenerators : Obligations.CadenceStepAdvancesGenerators := by
  intro s awake
  refine ⟨fun hp => ?_, fun hp => ⟨s.cadenceStep, exec_cadenceStep awake, ?_⟩⟩
  · rw [exec_cadenceStep awake, cadenceStep_held (running_eq_false.2 hp)]
    rfl
  have run : s.running = true := by simp [State.running, hp]
  have after := does_afterGens s.clocked.stepGens
  have gens : Does (K := fun k => k = .gens ∨ k = .bursts) s.clocked s.clocked.stepGens :=
    does_stepGens (.inl rfl) (.inr rfl) s.clocked
  have step := cadenceStep_running run
  refine ⟨?clock, ?lif, ?mix, fun n => ?_⟩
  case clock => rw [step, after.clock, gens.clock]; rfl
  case lif => rw [step, after.lif, gens.lif]; rfl
  case mix => rw [step, after.mix, gens.mix (by simp)]; rfl
  intro g ends advanced
  have hadv : g.advance = advanced := advance_eq g
  obtain ⟨mode, on, source⟩ := advance_kept g
  have stands : s.cadenceStep.gen n = g.advance.receive (s.spread 15 s.wrapping) := cadenceStep_gen run n
  have reached (m : CgNo) (he : g.enable = true) (hs : g.source = some m) (hm : s.EndsAt m) :
      (g.mode = .follow → s.cadenceStep.gen n = { g with active := g.pending, phase := 0 }) ∧
      (g.mode = .oneshot → s.cadenceStep.gen n =
        if advanced.running then advanced else { advanced with running := true, phase := 0 }) := by
    have takes : g.advance.receives (s.spread 15 s.wrapping) = true :=
      (receives_iff _ _).2 ⟨on.trans he, m, source.trans hs, (endsAt_iff s m).1 hm⟩
    refine ⟨fun hf => ?_, fun ho => ?_⟩
    · rw [stands, receive_follow takes (mode.trans hf), advance_load hf]
      rfl
    · rw [stands, receive_oneshot takes (mode.trans ho), hadv]
  refine ⟨fun hidle => ?_, fun m he hs h1 h2 h3 => reached m he hs (.wrap m h1 h2 h3), fun hn => ?_, reached, fun l hl => ?_⟩
  · rw [stands, receive_of_idle _ (by rwa [mode, on, source]), hadv]
  · rw [stands, receive_of_not, hadv]
    left
    rw [receives_iff, source]
    rintro ⟨-, m, hs, hm⟩
    exact hn m hs ((endsAt_iff s m).2 hm)
  · have line : s.clocked.stepGens.line l = (s.line l).endBurst (s.spread 15 s.wrapping) := stepGens_line s.clocked l
    refine ⟨fun he => ?_, fun hn hd => ?_⟩
    · rw [step]
      refine after.noBurst l (hn := ?_)
      rw [line, LineRec.endBurst_of_mem hl ((endsAt_iff s n).1 he)]
    · have kept : s.clocked.stepGens.line l = s.line l := by
        rw [line, LineRec.endBurst_of_not_mem hl fun h => hn ((endsAt_iff s n).2 h)]
      rw [step, afterGens_line (by rw [kept]; exact hd), kept]
      exact hl

end Sys2Proof.Machine

/-! ### Requests on the connections of one line -/

namespace Sys2Proof.Machine

/-! #### Reports (R7) -/

theorem totalsNow_sum (s : State) (l : LineNo) : (s.totalsNow l).sum = (s.lineConns l).length := by
  simp only [Totals.sum, State.totalsNow, State.monitors]
  induction s.lineConns l with
  | nil => rfl
  | cons c cs ih =>
    simp only [List.length_cons, ← ih, List.filter_cons]
    cases c.place <;> simp [Place.isUnheld, Place.isHold, Place.isHandset] <;> omega

theorem totalsNow_sum_eq_zero {s : State} {l : LineNo} : (s.totalsNow l).sum = 0 ↔ s.lineConns l = [] := by
  rw [totalsNow_sum, List.length_eq_zero_iff]

theorem totalsNow_sum_pos {s : State} {l : LineNo} : 0 < (s.totalsNow l).sum ↔ s.lineConns l ≠ [] := by
  rw [totalsNow_sum, List.length_pos_iff]

theorem report_eq (s : State) (l : LineNo) : s.report l =
    if s.running && (s.line l).cfg.kind.isWire then
      (s.setLine l { s.line l with totals := s.totalsNow l }).connectionEvent l (s.line l).totals (s.totalsNow l)
    else s.setLine l { s.line l with totals := s.totalsNow l } := by
  unfold State.report
  simp only [State.setLine_line_self, State.setLine_running]

/-- R7: a report of a line that takes no transition on it changes the totals alone. -/
theorem report_still {s : State} {l : LineNo} (h : (s.line l).cfg.kind.isWire = false) :
    s.report l = s.setLine l { s.line l with totals := s.totalsNow l } := by
  rw [report_eq, h, Bool.and_false]
  rfl

theorem report_wire {s : State} {l : LineNo} (run : s.running = true) (h : (s.line l).cfg.kind.isWire = true) :
    s.report l = (s.setLine l { s.line l with totals := s.totalsNow l }).connectionEvent l (s.line l).totals
      (s.totalsNow l) := by
  rw [report_eq, run, h]
  rfl

section
variable {s : State} {l : LineNo} {old new : Totals}

/-- R13: the last connection of a line in use goes. -/
theorem connectionEvent_last (hs : (s.line l).state = .callingOut ∨ (s.line l).state = .active ∨ (s.line l).state = .held)
    (ho : 0 < old.sum) (hn : new.sum = 0) : ∃ cause, s.connectionEvent l old new = s.clearLine l cause := by
  have last : (decide (0 < old.sum) && decide (new.sum = 0)) = true := by simp [ho, hn]
  unfold State.connectionEvent
  rcases hs with hs | hs | hs <;> simp only [hs, last, if_true] <;> exact ⟨_, rfl⟩

/-- R9, R10: the first connection of a line, a monitor's, brings it to ACTIVE. -/
theorem connectionEvent_first (hs : (s.line l).state = .idle ∨ (s.line l).state = .ringingIn)
    (ho : old.sum = 0) (hn : 0 < new.sum) (hm : new.unheld + new.held = 0) :
    ∃ cause, s.connectionEvent l old new = s.moveLine l .active cause := by
  have first : (decide (old.sum = 0) && decide (0 < new.sum)) = true := by simp [ho, hn]
  unfold State.connectionEvent
  rcases hs with hs | hs <;>
    simp only [hs, first, hm, Bool.not_true, Bool.false_eq_true, if_false, if_true] <;> exact ⟨_, rfl⟩

/-- R13: a connection of a line in ACTIVE goes, and others stay. -/
theorem connectionEvent_stays (hs : (s.line l).state = .active) (hn : new.sum ≠ 0) (ho : old.allHeld = false) :
    s.connectionEvent l old new = if new.allHeld then s.moveLine l .held .hold else s := by
  unfold State.connectionEvent
  simp [hs, hn, ho]

end

theorem moveLine_line (s : State) (l : LineNo) (new : LineState) (c : LineCause) :
    (s.moveLine l new c).line l = (s.line l).enter new := by
  simp [State.moveLine]

theorem clearLine_line (s : State) (l : LineNo) (c : LineCause) :
    (s.clearLine l c).line l = (s.line l).enter (if offHook (s.line l).far then .ringingIn else .idle) :=
  moveLine_line s l _ c

/-! #### Notices (R55, R137, R140) -/

/-- The footprint of notices. -/
def noticesOnly : Touch → Prop
  | .recording => True
  | .demand _ => True
  | _ => False

theorem does_noticeLines_only (s : State) (ls : List LineNo) : Does noticesOnly s (s.noticeLines ls) :=
  does_noticeLines trivial s ls fun _ _ => trivial

/-- The footprint of re-resolution. -/
def recordingOnly : Touch → Prop
  | .recording => True
  | _ => False

theorem does_reResolve_only (s : State) (ts : List Target) : Does recordingOnly s (s.reResolve ts) :=
  does_reResolve trivial s ts

theorem noticeLines_demand (s : State) (l : LineNo) :
    (s.noticeLines [l]).demand l = if (s.lineConns l).isEmpty then false else s.demand l := by
  unfold State.noticeLines
  rw [(does_reResolve_only _ _).demand l]
  simp only [List.foldl_cons, List.foldl_nil, State.clearDemand]
  split
  · exact State.setDemand_demand_self s l false
  · rfl

theorem rankChange_keptNeed (s : State) (x y : Target) (r : Rank) : (s.rankChange x r).keptNeed y = s.keptNeed y := by
  unfold State.rankChange
  split
  · rfl
  · dsimp only
    split
    · rw [State.raiseRunning_keptNeed]; rfl
    · rfl

theorem bindTo_keptNeed (s : State) (c : ChanNo) (x y : Target) (cause : RecordCause) :
    (s.bindTo c x cause).keptNeed y = s.keptNeed y := by
  unfold State.bindTo
  rw [State.raiseRunning_keptNeed]
  cases y <;> rfl

theorem needsRecording_keptNeed (s : State) (x y : Target) (r : Rank) :
    (s.needsRecording x r).keptNeed y = s.keptNeed y := by
  unfold State.needsRecording
  split
  · exact rankChange_keptNeed s x y r
  · split
    · exact bindTo_keptNeed s _ x y _
    · unfold State.joinWaitList
      rw [State.raiseRunning_keptNeed]
      rfl

theorem noLongerNeeds_keptNeed (s : State) (x y : Target) : (s.noLongerNeeds x).keptNeed y = s.keptNeed y := by
  unfold State.noLongerNeeds
  split
  · rw [State.raiseRunning_keptNeed]
    cases y <;> rfl
  · rfl

/-- R140, R141: a trigger for one target leaves it with the need found. -/
theorem reResolve_keptNeed (s : State) (x : Target) : (s.reResolve [x]).keptNeed x = s.needNow x := by
  have set (s : State) (n : Need) : (s.setKeptNeed x n).keptNeed x = n := by simp [State.setKeptNeed_keptNeed_eq]
  unfold State.reResolve
  simp only [List.map_cons, List.map_nil, List.foldl_cons, List.foldl_nil]
  cases hold : s.keptNeed x <;> cases hnew : s.needNow x <;>
    simp [State.passStop, State.passRank, State.passStart, hold, noLongerNeeds_keptNeed,
      rankChange_keptNeed, needsRecording_keptNeed, set]

/-- A line's side of its policy reads the policy tables alone (R134). -/
theorem lineSide_congr {s t : State} (tables : t.prs.tablesEnabled = s.prs.tablesEnabled)
    (fixedOn : t.prs.fixedEnabled = s.prs.fixedEnabled) (fixed : t.prs.fixed = s.prs.fixed)
    (ranges : t.prs.ranges = s.prs.ranges) (code : t.prs.defaultCode = s.prs.defaultCode) (l : LineNo) :
    t.lineSide l = s.lineSide l := by
  have better : betterRange t = betterRange s := by
    funext best r
    unfold betterRange
    rw [ranges]
  have range : t.lineRange l = s.lineRange l := by
    unfold State.lineRange
    rw [better, ranges]
  unfold State.lineSide
  rw [tables, fixedOn, fixed, ranges, code, range]

theorem setKeptNeed_lineSide (s : State) (x : Target) (n : Need) (l : LineNo) :
    (s.setKeptNeed x n).lineSide l = s.lineSide l := by
  cases x <;> exact lineSide_congr rfl rfl rfl rfl rfl l

theorem Does.lineSide {K : Touch → Prop} {s t : State} (h : Does K s t) (l : LineNo) : t.lineSide l = s.lineSide l :=
  h.reads (fun s => s.lineSide l)
    (fun s o => lineSide_congr (by simp) (by simp) (by simp) (by simp) (by simp) l)
    fun _ _ _ _ hu => by
      cases hu
      case need => exact setKeptNeed_lineSide _ _ _ l
      all_goals exact lineSide_congr rfl rfl rfl rfl rfl l

/-- R139: what the need of a line reads. -/
theorem needNow_congr {s t : State} {l : LineNo} (conns : t.lineConns l = s.lineConns l) (side : t.lineSide l = s.lineSide l)
    (psc : t.psc = s.psc) (demand : t.demand l = s.demand l) : t.needNow (.line l) = s.needNow (.line l) := by
  have modes : t.recordMode = s.recordMode := by
    funext p
    simp [State.recordMode, State.position, psc]
  simp only [State.needNow, State.linePolicy, State.parties, conns, side, modes, demand]

theorem Does.needNow {K : Touch → Prop} {s t : State} (h : Does K s t) (l : LineNo) (hp : ¬ K .psc := by exact id)
    (hc : ¬ K .conns := by exact id) (hd : ¬ K (.demand l) := by exact id) :
    t.needNow (.line l) = s.needNow (.line l) :=
  needNow_congr (lineConns_congr _ _ (h.conns hc)) (h.lineSide l) (h.psc hp) (h.demand l hd)

/-- R139, R140: a notice for one line leaves its need as the state now gives it. -/
theorem noticeLines_need (s : State) (l : LineNo) :
    (s.noticeLines [l]).keptNeed (.line l) = (s.noticeLines [l]).needNow (.line l) := by
  unfold State.noticeLines
  simp only [List.foldl_cons, List.foldl_nil, List.map_cons, List.map_nil]
  rw [reResolve_keptNeed, (does_reResolve_only _ _).needNow l]

/-! #### One request about one line -/

section
variable (s : State) (l : LineNo)

theorem notify_one : s.notify [l] [l] = (s.report l).noticeLines [l] := rfl

/-- The footprint of a report of one line. -/
def recordOf (l : LineNo) : Touch → Prop
  | .line x => x = l
  | _ => False

theorem does_report_only : Does (recordOf l) s (s.report l) := does_report s l rfl

theorem notify_line : (s.notify [l] [l]).line l = (s.report l).line l := by
  rw [notify_one, (does_noticeLines_only _ _).line l id]

theorem notify_conns : (s.notify [l] [l]).cxm.conns = s.cxm.conns := by
  rw [notify_one, (does_noticeLines_only _ _).conns, (does_report_only s l).conns]

theorem notify_lineConns (x : LineNo) : (s.notify [l] [l]).lineConns x = s.lineConns x :=
  lineConns_congr _ _ (notify_conns s l)

theorem notify_privacy (x : LineNo) : (s.notify [l] [l]).cxm.privacy[x] = s.cxm.privacy[x] := by
  rw [notify_one, (does_noticeLines_only _ _).privacy x, (does_report_only s l).privacy x]

theorem notify_demand :
    (s.notify [l] [l]).demand l = if (s.lineConns l).isEmpty then false else s.demand l := by
  rw [notify_one, noticeLines_demand, (does_report_only s l).demand l,
    lineConns_congr _ _ (does_report_only s l).conns]

theorem notify_need : (s.notify [l] [l]).keptNeed (.line l) = (s.notify [l] [l]).needNow (.line l) :=
  noticeLines_need _ l

theorem notify_totals : ((s.notify [l] [l]).line l).totals = (s.notify [l] [l]).totalsNow l :=
  notify_reported s [l] [l] l fun h => absurd (List.mem_singleton.2 rfl) h

end

/-- Records of one line are of that line alone. -/
theorem linesOf_one {l : LineNo} {cs : List Conn} (hl : ∀ c ∈ cs, c.line = l) (hne : cs ≠ []) : linesOf cs = [l] := by
  have stays (cs : List Conn) (hl : ∀ c ∈ cs, c.line = l) :
      cs.foldl (fun ls c => insertLine c.line ls) [l] = [l] := by
    induction cs with
    | nil => rfl
    | cons c cs ih =>
      rw [List.foldl_cons, hl c (by simp)]
      simpa [insertLine] using ih fun c hc => hl c (by simp [hc])
  cases cs with
  | nil => exact absurd rfl hne
  | cons c cs =>
    show cs.foldl _ (insertLine c.line []) = [l]
    rw [hl c (by simp)]
    exact stays cs fun c hc => hl c (by simp [hc])

/-- R67: a removal of records of one line. -/
theorem removeConns_one {s : State} {l : LineNo} {gone : Conn → Bool} (cause : ConnectCause)
    (hl : ∀ c ∈ s.cxm.conns, gone c = true → c.line = l) (hne : ∃ c ∈ s.cxm.conns, gone c = true) :
    s.removeConns gone cause = (s.dropConns gone cause).notify [l] [l] := by
  obtain ⟨c, hc, hg⟩ := hne
  have lines : linesOf (s.cxm.conns.filter gone) = [l] :=
    linesOf_one (fun c hc => hl c (List.mem_filter.1 hc).1 (List.mem_filter.1 hc).2)
      (List.ne_nil_of_mem (List.mem_filter.2 ⟨hc, hg⟩))
  unfold State.removeConns
  simp [lines]

/-! #### Privacy after a removal (R57) -/

theorem leavePrivacy_conns (s : State) (c : Conn) : (s.leavePrivacy c).cxm.conns = s.cxm.conns :=
  (does_leavePrivacy (K := flagsOnly) s c trivial).conns

theorem leavePrivacy_bridge (s : State) (c : Conn) (l : LineNo) : (s.leavePrivacy c).bridge l = s.bridge l := by
  unfold State.bridge
  rw [lineConns_congr _ _ (leavePrivacy_conns s c)]

theorem leavePrivacy_self {s : State} {c : Conn} (h : s.bridge c.line = []) :
    (s.leavePrivacy c).cxm.privacy[c.line] = false := by
  unfold State.leavePrivacy
  rw [h]
  by_cases hp : s.cxm.privacy[c.line] = true
  · simp [hp, State.connEvent, State.setPrivacy]
  · simp [hp]

theorem leavePrivacy_kept {s : State} {c : Conn} {l : LineNo} (h : c.line ≠ l ∨ s.bridge l ≠ []) :
    (s.leavePrivacy c).cxm.privacy[l] = s.cxm.privacy[l] := by
  unfold State.leavePrivacy
  split
  · next hp =>
    simp only [Bool.and_eq_true, List.isEmpty_iff] at hp
    have other : c.line ≠ l := by
      rintro rfl
      exact h.elim (· rfl) (· hp.2)
    simp [State.connEvent, State.setPrivacy, Fin.val_ne_of_ne other]
  · rfl

/-- R57: the flag of a line that keeps handset connections stays. -/
theorem foldl_leavePrivacy_kept (cs : List Conn) {s : State} {l : LineNo} (h : s.bridge l ≠ []) :
    (cs.foldl State.leavePrivacy s).cxm.privacy[l] = s.cxm.privacy[l] := by
  induction cs generalizing s with
  | nil => rfl
  | cons c cs ih =>
    rw [List.foldl_cons, ih (by rwa [leavePrivacy_bridge]), leavePrivacy_kept (.inr h)]

/-- R57: the flag of a line that loses its last handset connection is cleared. -/
theorem foldl_leavePrivacy_left {cs : List Conn} {s : State} {l : LineNo} (h : s.bridge l = [])
    (hc : (∃ c ∈ cs, c.line = l) ∨ s.cxm.privacy[l] = false) :
    (cs.foldl State.leavePrivacy s).cxm.privacy[l] = false := by
  induction cs generalizing s with
  | nil => simpa using hc
  | cons c cs ih =>
    refine ih (by rwa [leavePrivacy_bridge]) ?_
    by_cases e : c.line = l
    · subst e
      exact .inr (leavePrivacy_self h)
    · rw [leavePrivacy_kept (.inl e)]
      refine hc.imp_left fun ⟨x, hx, hl⟩ => ⟨x, (List.mem_cons.1 hx).resolve_left fun he => e (he ▸ hl), hl⟩

section
variable {s : State} {l : LineNo} {gone : Conn → Bool} (cause : ConnectCause)

/-- The footprint of the events of a removal. -/
theorem does_removedEvents (cs : List Conn) (s : State) :
    Does flagsOnly s (cs.foldl (fun s c => s.connEvent .removed c cause) s) := does_raises _ _ _

theorem removedEvents_privacy (cs : List Conn) (s : State) (l : LineNo) :
    (cs.foldl (fun s c => s.connEvent .removed c cause) s).cxm.privacy[l] = s.cxm.privacy[l] := by
  induction cs generalizing s with
  | nil => rfl
  | cons c cs ih => rw [List.foldl_cons, ih]; simp [State.connEvent]

theorem removedEvents_bridge (cs : List Conn) (s : State) (l : LineNo) :
    (cs.foldl (fun s c => s.connEvent .removed c cause) s).bridge l = s.bridge l := by
  unfold State.bridge
  rw [lineConns_congr _ _ (does_removedEvents cause cs s).conns]

theorem dropConns_privacy_kept (h : (s.dropConns gone cause).bridge l ≠ []) :
    (s.dropConns gone cause).cxm.privacy[l] = s.cxm.privacy[l] := by
  have kept : ((s.cxm.conns.filter (fun c => !gone c)).filter (fun c => c.line = l)).filter (fun c => c.place.isHandset) ≠ [] := by
    simpa [State.bridge, State.lineConns, dropConns_conns] using h
  unfold State.dropConns
  simp only
  rw [foldl_leavePrivacy_kept _ (by rw [removedEvents_bridge]; exact kept), removedEvents_privacy]

theorem dropConns_privacy_left (h : (s.dropConns gone cause).bridge l = [])
    (hg : ∃ c ∈ s.cxm.conns, gone c = true ∧ c.place.isHandset = true ∧ c.line = l) :
    (s.dropConns gone cause).cxm.privacy[l] = false := by
  have left : ((s.cxm.conns.filter (fun c => !gone c)).filter (fun c => c.line = l)).filter (fun c => c.place.isHandset) = [] := by
    simpa only [State.bridge, State.lineConns, dropConns_conns] using h
  obtain ⟨c, hc, hg, hh, hl⟩ := hg
  unfold State.dropConns
  exact foldl_leavePrivacy_left (by rw [removedEvents_bridge]; exact left)
    (.inl ⟨c, List.mem_filter.2 ⟨List.mem_filter.2 ⟨hc, hg⟩, hh⟩, hl⟩)

end

end Sys2Proof.Machine

namespace Sys2Proof.Machine

/-! ### Releases (O35) -/

theorem connAt_some {s : State} {p : PosNo} {x : Place} {c : Conn} (h : s.connAt p x = some c) :
    c ∈ s.cxm.conns ∧ c.place = x := by
  unfold State.connAt at h
  have := List.find?_some h
  simp only [Bool.and_eq_true, decide_eq_true_eq] at this
  exact ⟨List.mem_of_find?_eq_some h, this.2⟩

theorem handsetPlace_isUnheld (h : Handset) : (handsetPlace h).isUnheld = true := by cases h <;> rfl

theorem handsetPlace_isHandset (h : Handset) : (handsetPlace h).isHandset = true := by cases h <;> rfl

theorem mem_lineConns {s : State} {l : LineNo} {c : Conn} : c ∈ s.lineConns l ↔ c ∈ s.cxm.conns ∧ c.line = l := by
  simp [State.lineConns]

/-- R7: a line with an unheld connection is not held. -/
theorem totalsNow_allHeld_of_unheld {s : State} {c : Conn} (hc : c ∈ s.cxm.conns) (hu : c.place.isUnheld = true) :
    (s.totalsNow c.line).allHeld = false := by
  have pos : 0 < ((s.lineConns c.line).filter (fun x => x.place.isUnheld)).length :=
    List.length_pos_of_mem (List.mem_filter.2 ⟨mem_lineConns.2 ⟨hc, rfl⟩, hu⟩)
  simp [Totals.allHeld, State.totalsNow, Nat.pos_iff_ne_zero.1 pos]

/-- R13, R66: the release of one handset record. -/
structure Released (s : State) (c : Conn) (t : State) : Prop where
  conns : t.cxm.conns = s.cxm.conns.filter (fun x => x ≠ c)
  does : Does (callsOn (· = c.line)) s t
  totals : (t.line c.line).totals = t.totalsNow c.line
  left : t.bridge c.line = [] → t.cxm.privacy[c.line] = false
  kept : t.bridge c.line ≠ [] → t.cxm.privacy[c.line] = s.cxm.privacy[c.line]
  demand : t.demand c.line = if (t.lineConns c.line).isEmpty then false else s.demand c.line
  last : (s.line c.line).cfg.kind.isWire = true → t.lineConns c.line = [] →
    (s.line c.line).state = .callingOut ∨ (s.line c.line).state = .active ∨ (s.line c.line).state = .held →
    (t.line c.line).state = (if offHook (s.line c.line).far then .ringingIn else .idle) ∧
    (t.line c.line).ringPending = none
  stays : (s.line c.line).cfg.kind.isWire = true → t.lineConns c.line ≠ [] → (s.line c.line).state = .active →
    (t.line c.line).state = if (t.totalsNow c.line).allHeld then .held else .active

theorem removeConns_released {s : State} {c : Conn} (cause : ConnectCause) (run : s.running = true)
    (rep : s.totalsReported) (hc : c ∈ s.cxm.conns) (hu : c.place.isUnheld = true) (hh : c.place.isHandset = true) :
    Released s c (s.removeConns (fun x => x = c) cause) := by
  have gone : ∃ x ∈ s.cxm.conns, decide (x = c) = true := ⟨c, hc, by simp⟩
  have only : ∀ x ∈ s.cxm.conns, decide (x = c) = true → x.line = c.line := fun x _ hx => by
    rw [of_decide_eq_true hx]
  have eq := removeConns_one cause only gone
  let u := s.dropConns (fun x => x = c) cause
  have drop : Does tableOnly s u := does_dropConns_table s _ _
  have same : u.line c.line = s.line c.line := drop.line c.line id
  have old : (u.line c.line).totals = s.totalsNow c.line := by rw [same]; exact rep c.line
  have was : 0 < (u.line c.line).totals.sum := by
    rw [old]; exact totalsNow_sum_pos.2 (List.ne_nil_of_mem (mem_lineConns.2 ⟨hc, rfl⟩))
  have line : ((u.notify [c.line] [c.line]).line c.line) = (u.report c.line).line c.line := notify_line u c.line
  have wire (hw : (s.line c.line).cfg.kind.isWire = true) := report_wire (s := u) (l := c.line)
    (by rw [drop.running]; exact run) (by rw [same]; exact hw)
  have bridge : (u.notify [c.line] [c.line]).bridge c.line = u.bridge c.line := by
    unfold State.bridge; rw [notify_lineConns]
  have totals : (u.notify [c.line] [c.line]).totalsNow c.line = u.totalsNow c.line :=
    totalsNow_congr _ _ (notify_lineConns u c.line c.line)
  refine ⟨?_, does_removeConns (calls_callsOn _) s _ cause only, ?_, ?_, ?_, ?_, ?_, ?_⟩
  · rw [eq, notify_conns, dropConns_conns]
    simp
  · rw [eq]; exact notify_totals u c.line
  · rw [eq, bridge, notify_privacy]
    exact fun h => dropConns_privacy_left cause h ⟨c, hc, by simp, hh, rfl⟩
  · rw [eq, bridge, notify_privacy]
    exact fun h => dropConns_privacy_kept cause h
  · rw [eq, notify_demand, notify_lineConns, drop.demand c.line]
  · rw [eq, notify_lineConns, line]
    intro hw hn hs
    obtain ⟨w, hw⟩ := connectionEvent_last (s := u.setLine c.line { u.line c.line with totals := u.totalsNow c.line })
      (l := c.line) (by simpa [same] using hs) was (totalsNow_sum_eq_zero.2 hn)
    rw [wire ‹_›, hw, clearLine_line]
    simp only [State.setLine_line_self, same]
    refine ⟨rfl, ?_⟩
    cases offHook (s.line c.line).far <;> rfl
  · rw [eq, notify_lineConns, line, totals]
    intro hw hn hs
    rw [wire hw, connectionEvent_stays (by simpa [same] using hs)
      (fun h => hn (totalsNow_sum_eq_zero.1 h)) (by rw [old]; exact totalsNow_allHeld_of_unheld hc hu)]
    split
    · rw [moveLine_line]; rfl
    · simpa [same] using hs

/-- Settles O35: a release is one removal of one record; the report of the line takes the step that its totals give. -/
theorem releasesRemoveTheConnection : Obligations.ReleasesRemoveTheConnection := by
  intro p h k s sw rep
  have run := sw.running
  have aw := sw.1
  refine ⟨fun none => ⟨?_, ?_⟩, fun c i some hi => ?_⟩
  · rw [exec_hookRelease aw run]
    simp [State.hookRelease, none]
  · rw [exec_releaseRequest aw run]
    simp only [State.releaseKey, none, State.deny]
    rw [raiseRunning_of_running]
    split
    · exact run
    · exact run
  · obtain ⟨hc, hp⟩ := connAt_some some
    have res : ∃ cause, exec i s = .next (s.removeConns (fun x => x = c) cause) := by
      obtain rfl | rfl := hi
      · rw [exec_releaseRequest aw run]
        exact ⟨.release, by simp [State.releaseKey, some]⟩
      · rw [exec_hookRelease aw run]
        exact ⟨.hook, by simp [State.hookRelease, some]⟩
    obtain ⟨cause, ht⟩ := res
    have r := removeConns_released cause run rep hc (by rw [hp]; exact handsetPlace_isUnheld h)
      (by rw [hp]; exact handsetPlace_isHandset h)
    refine ⟨_, ht, r.conns, r.totals, r.does.cfg _, r.left, r.kept, ?_, ?_, r.last, r.stays, fun l hl => ⟨?_, ?_, ?_⟩,
      r.does.lif, r.does.psc, r.does.cdu, r.does.mix, r.does.gtu⟩
    · intro hn; rw [r.demand, hn]; rfl
    · intro hn; rw [r.demand]; simp [hn]
    · exact r.does.line l hl
    · exact r.does.privacy l hl
    · exact r.does.demand l hl

end Sys2Proof.Machine

namespace Sys2Proof.Machine

/-! ### Standing monitors of one line (R70) -/

section
variable {s : State} {l : LineNo}

theorem monitorDue_eq_some {p : PosNo} {c : SpkNo} : s.monitorDue p c = some l ↔
    s.assign p c = .line l ∧ s.running = true ∧ s.online p = true ∧ (s.line l).state ≠ .disabled ∧
      (s.line l).state ≠ .fault ∧ s.connAt p (.spk c) = none := by
  unfold State.monitorDue
  cases s.assign p c with
  | none => simp
  | group g => simp
  | line x =>
    simp only [Option.ite_none_right_eq_some, Bool.and_eq_true, decide_eq_true_eq, Option.isNone_iff_eq_none,
      Option.some.injEq, Assign.line.injEq]
    constructor
    · rintro ⟨⟨⟨⟨⟨run, on⟩, d⟩, f⟩, n⟩, rfl⟩
      exact ⟨rfl, run, on, d, f, n⟩
    · rintro ⟨rfl, run, on, d, f, n⟩
      exact ⟨⟨⟨⟨⟨run, on⟩, d⟩, f⟩, n⟩, rfl⟩

/-- The standing monitors of a line that are called for. -/
def State.dueRecords (s : State) (l : LineNo) : List Conn := (s.placesOf l).filterMap s.monitorRecord

theorem mem_dueRecords {x : Conn} : x ∈ s.dueRecords l ↔
    ∃ p c, s.monitorDue p c = some l ∧ x = { line := l, pos := p, place := .spk c, talk := false, joined := s.now } := by
  simp only [State.dueRecords, List.mem_filterMap, State.monitorRecord, Option.map_eq_some_iff, Prod.exists, mem_placesOf]
  constructor
  · rintro ⟨p, c, ha, y, hd, rfl⟩
    obtain rfl : y = l := Assign.line.inj ((monitorDue_eq_some.1 hd).1.symm.trans ha)
    exact ⟨p, c, hd, rfl⟩
  · rintro ⟨p, c, hd, rfl⟩
    exact ⟨p, c, (monitorDue_eq_some.1 hd).1, l, hd, rfl⟩

theorem dueRecords_line {x : Conn} (h : x ∈ s.dueRecords l) : x.line = l := by
  obtain ⟨p, c, -, rfl⟩ := mem_dueRecords.1 h
  rfl

theorem dueRecords_eq_nil (run : s.running = true) (hd : (s.line l).state ≠ .disabled) (hf : (s.line l).state ≠ .fault) :
    s.dueRecords l = [] ↔ s.noMonitorDue l := by
  simp only [List.eq_nil_iff_forall_not_mem, mem_dueRecords, monitorDue_eq_some]
  constructor
  · intro h p c ha
    by_contra hn
    simp only [not_or, Bool.not_eq_false, not_not] at hn
    exact h _ ⟨p, c, ⟨ha, run, hn.1, hd, hf, hn.2⟩, rfl⟩
  · rintro h x ⟨p, c, ⟨ha, -, on, -, -, none⟩, -⟩
    exact (h p c ha).elim (fun e => by simp [on] at e) fun e => e none

theorem makeLineMonitors_still (h : s.dueRecords l = []) : s.makeLineMonitors l = s := by
  unfold State.makeLineMonitors State.makeMonitors
  rw [show (s.placesOf l).filterMap s.monitorRecord = [] from h]
  rfl

/-- R70: the line's monitors that are called for join the table. -/
def State.joined (s : State) (l : LineNo) : State :=
  { s with cxm := { s.cxm with conns := s.cxm.conns ++ s.dueRecords l } }

theorem makeLineMonitors_eq (h : s.dueRecords l ≠ []) : s.makeLineMonitors l = (s.joined l).notify [l] [l] := by
  unfold State.makeLineMonitors State.makeMonitors
  have lines : linesOf ((s.placesOf l).filterMap s.monitorRecord) = [l] := linesOf_one (fun _ hx => dueRecords_line hx) h
  have some : ((s.placesOf l).filterMap s.monitorRecord).isEmpty = false := by
    simpa [State.dueRecords] using h
  simp only [lines, some, Bool.false_eq_true, if_false]
  rfl

theorem makeLineMonitors_conns : (s.makeLineMonitors l).cxm.conns = s.cxm.conns ++ s.dueRecords l := by
  by_cases h : s.dueRecords l = []
  · rw [makeLineMonitors_still h, h, List.append_nil]
  · rw [makeLineMonitors_eq h, notify_conns]
    rfl

theorem makeLineMonitors_lineConns : (s.makeLineMonitors l).lineConns l = s.lineConns l ++ s.dueRecords l := by
  unfold State.lineConns
  rw [makeLineMonitors_conns, List.filter_append]
  congr 1
  exact List.filter_eq_self.2 fun x hx => decide_eq_true (dueRecords_line hx)

theorem joined_lineConns : (s.joined l).lineConns l = s.lineConns l ++ s.dueRecords l := by
  rw [← makeLineMonitors_lineConns]
  unfold State.lineConns
  rw [makeLineMonitors_conns]
  rfl

theorem makeLineMonitors_privacy (x : LineNo) : (s.makeLineMonitors l).cxm.privacy[x] = s.cxm.privacy[x] := by
  by_cases h : s.dueRecords l = []
  · rw [makeLineMonitors_still h]
  · rw [makeLineMonitors_eq h, notify_privacy]
    rfl

theorem makeLineMonitors_need (h : s.keptNeed (.line l) = s.needNow (.line l)) :
    (s.makeLineMonitors l).keptNeed (.line l) = (s.makeLineMonitors l).needNow (.line l) := by
  by_cases hd : s.dueRecords l = []
  · rwa [makeLineMonitors_still hd]
  · rw [makeLineMonitors_eq hd, notify_need]

theorem does_makeLineMonitors_only : Does (callsOn (· = l)) s (s.makeLineMonitors l) :=
  does_makeLineMonitors (calls_callsOn _) s

theorem dueRecords_not_handset {x : Conn} (h : x ∈ s.dueRecords l) : x.place.isHandset = false := by
  obtain ⟨p, c, -, rfl⟩ := mem_dueRecords.1 h
  rfl

/-- R9, R10: the monitors of a line without connections bring a wire line to ACTIVE. -/
theorem makeLineMonitors_wire (run : s.running = true) (hw : (s.line l).cfg.kind.isWire = true) (rep : s.reported l)
    (hc : s.lineConns l = []) (hs : (s.line l).state = .idle ∨ (s.line l).state = .ringingIn) (hd : s.dueRecords l ≠ []) :
    (s.makeLineMonitors l).line l =
      { s.line l with totals := (s.makeLineMonitors l).totalsNow l }.enter .active := by
  have conns := joined_lineConns (s := s) (l := l)
  rw [hc, List.nil_append] at conns
  have totals : (s.makeLineMonitors l).totalsNow l = (s.joined l).totalsNow l :=
    totalsNow_congr _ _ (by rw [makeLineMonitors_lineConns, conns, hc, List.nil_append])
  have monitors : ((s.joined l).totalsNow l).unheld + ((s.joined l).totalsNow l).held = 0 := by
    simp only [State.totalsNow, conns, Nat.add_eq_zero_iff, List.length_eq_zero_iff, List.filter_eq_nil_iff]
    refine ⟨fun x hx => ?_, fun x hx => ?_⟩ <;>
      (obtain ⟨p, c, -, rfl⟩ := mem_dueRecords.1 hx; simp [Place.isUnheld, Place.isHold])
  obtain ⟨cause, first⟩ := connectionEvent_first
    (s := (s.joined l).setLine l { s.line l with totals := (s.joined l).totalsNow l })
    (old := (s.line l).totals) (new := (s.joined l).totalsNow l) (l := l) (by simpa using hs)
    (by rw [show (s.line l).totals = s.totalsNow l from rep]; exact totalsNow_sum_eq_zero.2 hc)
    (totalsNow_sum_pos.2 (by rw [conns]; exact hd)) monitors
  rw [totals, makeLineMonitors_eq hd, notify_line, report_wire (s := s.joined l) run hw]
  rw [show (s.joined l).line l = s.line l from rfl, first, moveLine_line, State.setLine_line_self]

/-- R14: a line of another kind keeps its state. -/
theorem makeLineMonitors_other (hw : (s.line l).cfg.kind.isWire = false) (rep : s.reported l) :
    (s.makeLineMonitors l).line l = { s.line l with totals := (s.makeLineMonitors l).totalsNow l } := by
  by_cases hd : s.dueRecords l = []
  · rw [makeLineMonitors_still hd, ← show (s.line l).totals = s.totalsNow l from rep]
  · have totals : (s.makeLineMonitors l).totalsNow l = (s.joined l).totalsNow l :=
      totalsNow_congr _ _ (by rw [makeLineMonitors_lineConns, joined_lineConns])
    rw [totals, makeLineMonitors_eq hd, notify_line, report_still (s := s.joined l) hw, State.setLine_line_self]
    rfl

/-- R70: the line after its monitors, where one is called for. -/
theorem makeLineMonitors_state (run : s.running = true) (rep : s.reported l) (hc : s.lineConns l = [])
    (hs : (s.line l).cfg.kind.isWire = true → (s.line l).state = .idle ∨ (s.line l).state = .ringingIn)
    (hd : s.dueRecords l ≠ []) :
    ((s.makeLineMonitors l).line l).state = if (s.line l).cfg.kind.isWire then .active else (s.line l).state := by
  split
  · next hw =>
    rw [makeLineMonitors_wire run hw rep hc (hs hw) hd]
    rfl
  · next hw => rw [makeLineMonitors_other (by simpa using hw) rep]

/-- The guard timer and the mark of a line that stopped and erased them stay so. -/
theorem makeLineMonitors_guard (run : s.running = true) (rep : s.reported l) (hc : s.lineConns l = [])
    (hs : (s.line l).cfg.kind.isWire = true → (s.line l).state = .idle ∨ (s.line l).state = .ringingIn)
    (hd : s.dueRecords l ≠ []) (hg : (s.line l).guard = .stopped) (hm : (s.line l).faultClear = false) :
    ((s.makeLineMonitors l).line l).guard = .stopped ∧ ((s.makeLineMonitors l).line l).faultClear = false := by
  by_cases hw : (s.line l).cfg.kind.isWire = true
  · rw [makeLineMonitors_wire run hw rep hc (hs hw) hd]
    exact ⟨rfl, rfl⟩
  · rw [makeLineMonitors_other (by simpa using hw) rep]
    exact ⟨hg, hm⟩

end

/-! ### The removal of a line's connections (R67) -/

section
variable {s : State} {l : LineNo} (cause : ConnectCause)

theorem does_removeLine_only : Does (callsOn (· = l)) s (s.removeLine l cause) := does_removeLine (calls_callsOn _) s cause

theorem removeLine_still (h : s.lineConns l = []) : s.removeLine l cause = s := by
  unfold State.removeLine State.removeConns
  rw [show s.cxm.conns.filter (fun c => decide (c.line = l)) = [] from h]
  rfl

theorem removeLine_eq (h : s.lineConns l ≠ []) :
    s.removeLine l cause = (s.dropConns (fun c => c.line = l) cause).notify [l] [l] := by
  obtain ⟨c, hc⟩ := List.exists_mem_of_ne_nil _ h
  obtain ⟨hc, hl⟩ := mem_lineConns.1 hc
  exact removeConns_one cause (fun _ _ hg => of_decide_eq_true hg) ⟨c, hc, decide_eq_true hl⟩

theorem removeLine_conns : (s.removeLine l cause).cxm.conns = s.cxm.conns.filter (fun c => c.line ≠ l) := by
  by_cases h : s.lineConns l = []
  · rw [removeLine_still cause h, List.filter_eq_self.2]
    intro c hc
    have := List.filter_eq_nil_iff.1 h c hc
    simpa using this
  · rw [removeLine_eq cause h, notify_conns, dropConns_conns]
    simp

theorem removeLine_lineConns : (s.removeLine l cause).lineConns l = [] := by
  unfold State.lineConns
  rw [removeLine_conns]
  exact filter_line_eq_nil l fun c hc => by simpa using (List.mem_filter.1 hc).2

theorem removeLine_need (h : s.lineConns l ≠ []) :
    (s.removeLine l cause).keptNeed (.line l) = (s.removeLine l cause).needNow (.line l) := by
  rw [removeLine_eq cause h, notify_need]

theorem removeLine_demand (h : s.lineConns l ≠ []) : (s.removeLine l cause).demand l = false := by
  rw [removeLine_eq cause h, notify_demand, ← notify_lineConns _ l, ← removeLine_eq cause h, removeLine_lineConns]
  rfl

theorem removeLine_privacy (h : s.bridge l ≠ []) : (s.removeLine l cause).cxm.privacy[l] = false := by
  obtain ⟨c, hc⟩ := List.exists_mem_of_ne_nil _ h
  obtain ⟨hc, hh⟩ := List.mem_filter.1 hc
  have some : s.lineConns l ≠ [] := List.ne_nil_of_mem hc
  obtain ⟨hc, hl⟩ := mem_lineConns.1 hc
  rw [removeLine_eq cause some, notify_privacy]
  refine dropConns_privacy_left cause ?_ ⟨c, hc, by simpa using hl, hh, hl⟩
  unfold State.bridge
  rw [← notify_lineConns _ l, ← removeLine_eq cause some, removeLine_lineConns]
  rfl

/-- R13: the line whose connections are removed while it is in use. -/
theorem removeLine_last (run : s.running = true) (rep : s.reported l) (h : s.lineConns l ≠ [])
    (hw : (s.line l).cfg.kind.isWire = true)
    (hs : (s.line l).state = .callingOut ∨ (s.line l).state = .active ∨ (s.line l).state = .held) :
    (s.removeLine l cause).line l = { s.line l with totals := (s.removeLine l cause).totalsNow l }.enter
      (if offHook (s.line l).far then .ringingIn else .idle) := by
  let u := s.dropConns (fun c => c.line = l) cause
  have drop : Does tableOnly s u := does_dropConns_table s _ _
  have same : u.line l = s.line l := drop.line l id
  have conns : (u.notify [l] [l]).lineConns l = u.lineConns l := notify_lineConns u l l
  have empty : u.lineConns l = [] := by rw [← conns, ← removeLine_eq cause h, removeLine_lineConns]
  obtain ⟨w, last⟩ := connectionEvent_last (s := u.setLine l { s.line l with totals := u.totalsNow l }) (l := l)
    (old := (s.line l).totals) (new := u.totalsNow l) (by simpa using hs)
    (by rw [show (s.line l).totals = s.totalsNow l from rep]; exact totalsNow_sum_pos.2 h)
    (totalsNow_sum_eq_zero.2 empty)
  rw [removeLine_eq cause h, notify_line, totalsNow_congr _ _ conns,
    report_wire (s := u) (by rw [drop.running]; exact run) (by rw [same]; exact hw), same, last, clearLine_line,
    State.setLine_line_self]

/-- R14: the connections of a line that takes no transition on its report are removed. -/
theorem removeLine_other (hw : (s.line l).cfg.kind.isWire = false) :
    ∃ totals, (s.removeLine l cause).line l = { s.line l with totals := totals } := by
  by_cases h : s.lineConns l = []
  · exact ⟨_, by rw [removeLine_still cause h]⟩
  · let u := s.dropConns (fun c => c.line = l) cause
    have same : u.line l = s.line l := (does_dropConns_table s _ _ : Does tableOnly s u).line l id
    refine ⟨u.totalsNow l, ?_⟩
    rw [removeLine_eq cause h, notify_line, report_still (s := u) (by rw [same]; exact hw), same, State.setLine_line_self]

end

end Sys2Proof.Machine

namespace Sys2Proof.Machine

/-! ### Answer and guard timers (O26, O27) -/

section
variable {s : State} {l : LineNo}

theorem answerExpiry_still (h : ¬ ((s.line l).state = .callingOut ∧ (s.line l).answer.isRunning = true)) :
    s.answerExpiry l = s := by
  unfold State.answerExpiry
  refine if_neg fun hn => h ?_
  simp only [Bool.and_eq_true, decide_eq_true_eq] at hn
  exact ⟨hn.1.2, hn.2⟩

/-- R12: the line whose answer timer has expired. -/
def State.unanswered (s : State) (l : LineNo) : State := s.setLine l { s.line l with answer := .expired }

/-- R12, R67: the connections of a line whose answer timer has expired are gone. -/
def State.callCleared (s : State) (l : LineNo) : State := (s.unanswered l).removeLine l .callTimeout

theorem answerExpiry_eq (run : s.running = true) (hs : (s.line l).state = .callingOut)
    (ha : (s.line l).answer.isRunning = true) (hc : s.lineConns l ≠ []) :
    s.answerExpiry l = (s.callCleared l).makeLineMonitors l := by
  unfold State.answerExpiry
  rw [if_pos (by simp [run, hs, ha])]
  exact if_neg fun h => hc (List.isEmpty_iff.1 h)

theorem unanswered_reported (h : s.reported l) : (s.unanswered l).reported l := by
  show ((s.setLine l _).line l).totals = s.totalsNow l
  rw [State.setLine_line_self]
  exact h

/-- The footprint of a call cleared on one line. -/
theorem does_callCleared : Does (callsOn (· = l)) s (s.callCleared l) :=
  Does.trans (t := s.unanswered l) ((Update.timers s l _ _ _ _ _).does rfl) (does_removeLine_only _)

theorem callCleared_reported (h : s.reported l) : (s.callCleared l).reported l :=
  squares_removeLine _ l _ l (unanswered_reported h)

theorem callCleared_conns : (s.callCleared l).cxm.conns = s.cxm.conns.filter (fun c => c.line ≠ l) := removeLine_conns _

theorem callCleared_lineConns : (s.callCleared l).lineConns l = [] := removeLine_lineConns _

/-- R13: the calling line whose call is cleared. -/
theorem callCleared_line (run : s.running = true) (rep : s.reported l) (hc : s.lineConns l ≠ [])
    (hw : (s.line l).cfg.kind.isWire = true) (hs : (s.line l).state = .callingOut) :
    (s.callCleared l).line l = { s.line l with answer := .expired, totals := (s.callCleared l).totalsNow l }.enter
      (if offHook (s.line l).far then .ringingIn else .idle) := by
  have same : (s.unanswered l).line l = { s.line l with answer := .expired } := State.setLine_line_self s l _
  have last := removeLine_last (s := s.unanswered l) (l := l) .callTimeout run (unanswered_reported rep) hc
    (by rw [same]; exact hw) (by rw [same]; exact .inl hs)
  rw [same] at last
  exact last

theorem callCleared_state (run : s.running = true) (rep : s.reported l) (hc : s.lineConns l ≠ [])
    (hw : (s.line l).cfg.kind.isWire = true) (hs : (s.line l).state = .callingOut) :
    ((s.callCleared l).line l).state = .idle ∨ ((s.callCleared l).line l).state = .ringingIn := by
  rw [callCleared_line run rep hc hw hs]
  cases offHook (s.line l).far
  · exact .inl rfl
  · exact .inr rfl

/-- A place assigned to a line carries no connection once the line has none, in a state that keeps the laws of the table. -/
theorem connAt_none_of_lawful {t : State} (law : s.connectionsLawful)
    (gone : t.cxm.conns = s.cxm.conns.filter (fun c => c.line ≠ l)) {p : PosNo} {c : SpkNo}
    (ha : s.assign p c = .line l) : t.connAt p (.spk c) = none := by
  obtain ⟨-, -, assigned, -⟩ := law
  unfold State.connAt
  rw [gone, List.find?_eq_none]
  intro x hx
  obtain ⟨hx, hl⟩ := List.mem_filter.1 hx
  simp only [Bool.and_eq_true, decide_eq_true_eq]
  rintro ⟨rfl, hp⟩
  have other := assigned x hx c hp
  rw [ha] at other
  exact of_decide_eq_true hl (Assign.line.inj other).symm

end

/-- Settles O26: the call is cleared by one removal, and the line's monitors are made by a second request. -/
theorem answerExpiryClearsTheCall : Obligations.AnswerExpiryClearsTheCall := by
  intro l s sw
  have run := sw.running
  refine ⟨fun k hs ha hk rep hc => ?_, fun hn => ?_⟩
  · have isRun : (s.line l).answer.isRunning = true := by rw [ha]; rfl
    have hw : (s.line l).cfg.kind.isWire = true := by rw [hk]; rfl
    rw [exec_answerTimerExpiry sw.1, answerExpiry_eq run hs isRun hc]
    have cleared : Does (callsOn (· = l)) s (s.callCleared l) := does_callCleared
    have whole := cleared.trans (does_makeLineMonitors_only (s := s.callCleared l) (l := l))
    have rep' := callCleared_reported (rep l)
    have state := callCleared_state run (rep l) hc hw hs
    have line := callCleared_line run (rep l) hc hw hs
    have running : (s.callCleared l).running = true := by rw [cleared.running]; exact run
    have wire : ((s.callCleared l).line l).cfg.kind.isWire = true := by rw [cleared.cfg]; exact hw
    have conns : ((s.callCleared l).makeLineMonitors l).lineConns l = (s.callCleared l).dueRecords l := by
      rw [makeLineMonitors_lineConns, callCleared_lineConns, List.nil_append]
    have monitors (x : Conn) (hx : x ∈ (s.callCleared l).dueRecords l) : x.talk = false ∧ s.online x.pos = true ∧
        x.joined = s.cdu.clock ∧ ∃ c : SpkNo, x.place = .spk c ∧ s.assign x.pos c = .line l := by
      obtain ⟨p, c, due, rfl⟩ := mem_dueRecords.1 hx
      obtain ⟨assigned, -, on, -⟩ := monitorDue_eq_some.1 due
      rw [cleared.assign] at assigned
      rw [cleared.online] at on
      exact ⟨rfl, on, cleared.now, c, rfl, assigned⟩
    have active (hd : (s.callCleared l).dueRecords l ≠ []) :=
      makeLineMonitors_wire running wire rep' callCleared_lineConns state hd
    refine ⟨_, rfl, ?_, ?_, ?_, ?_, ?_, ?_, ?_, ?_, ?_, ?_, ?_, whole.lif, whole.psc, whole.cdu, whole.mix, whole.gtu⟩
    · unfold State.bridge
      rw [conns, List.filter_eq_nil_iff]
      exact fun x hx => by simp [dueRecords_not_handset hx]
    · rw [makeLineMonitors_conns, callCleared_conns, List.filter_append, List.filter_filter]
      have none : ((s.callCleared l).dueRecords l).filter (fun c => c.line ≠ l) = [] := by
        rw [List.filter_eq_nil_iff]
        exact fun x hx => by simp [dueRecords_line hx]
      rw [none, List.append_nil]
      simp
    · intro x hx
      rw [conns] at hx
      obtain ⟨talk, on, joined, c, place, assigned⟩ := monitors x hx
      exact ⟨on, joined, c, place, assigned, talk⟩
    · intro law p c assigned on
      rw [makeLineMonitors_conns, List.mem_append]
      refine .inr (mem_dueRecords.2 ⟨p, c, monitorDue_eq_some.2 ⟨?_, running, ?_, ?_, ?_, ?_⟩, ?_⟩)
      · rwa [cleared.assign]
      · rwa [cleared.online]
      · rcases state with h | h <;> simp [h]
      · rcases state with h | h <;> simp [h]
      · exact connAt_none_of_lawful law callCleared_conns assigned
      · rw [cleared.now]; rfl
    · intro hb
      rw [makeLineMonitors_privacy]
      exact removeLine_privacy (s := s.unanswered l) _ hb
    · exact fun x hx => ⟨whole.line x hx, whole.privacy x hx⟩
    · by_cases hd : (s.callCleared l).dueRecords l = []
      · rw [makeLineMonitors_still hd, line]
        cases offHook (s.line l).far <;> rfl
      · rw [active hd]; rfl
    · exact squares_makeMonitors _ _ l rep'
    · exact makeLineMonitors_need (removeLine_need (s := s.unanswered l) _ hc)
    · intro hn
      rw [conns] at hn
      rw [makeLineMonitors_still hn]
      refine ⟨removeLine_demand (s := s.unanswered l) _ hc, ?_⟩
      rw [line]
      rfl
    · intro hn
      rw [conns] at hn
      rw [active hn]
      rfl
  · rw [exec_answerTimerExpiry sw.1, answerExpiry_still]
    rw [Timer.isRunning_iff]
    rintro ⟨hs, k, hk⟩
    exact hn.elim (fun h => h hs) fun h => h k hk

/-! #### The exit from FAULT -/

section
variable {s t : State} {l : LineNo}

/-- R6, R13, R20: an update of line `l` alone leaves what its standing monitors depend on. -/
theorem Does.noMonitorDue (h : Does (recordOf l) s t) : t.noMonitorDue l ↔ s.noMonitorDue l := by
  have conn (p : PosNo) (x : Place) : t.connAt p x = s.connAt p x := by unfold State.connAt; rw [h.conns]
  simp only [State.noMonitorDue, h.assign, h.online, conn]

theorem does_moveLine_only (s : State) (l : LineNo) (new : LineState) (c : LineCause) :
    Does (recordOf l) s (s.moveLine l new c) := does_moveLine s l new c rfl

/-- R70: the line `l`, which entered state `new` from a state that lets no monitor be made, with its monitors. -/
structure Monitored (s : State) (l : LineNo) (new : LineState) (t : State) : Prop where
  does : Does (callsOn (· = l)) s t
  state : (t.line l).state = if (s.line l).cfg.kind.isWire then .active else new
  guard : (t.line l).guard = .stopped
  mark : (t.line l).faultClear = false
  totals : (t.line l).totals = t.totalsNow l
  made : ∀ (p : PosNo) (c : SpkNo), s.assign p c = .line l → s.online p = true → s.connAt p (.spk c) = none →
    ({ line := l, pos := p, place := .spk c, talk := false, joined := s.cdu.clock } : Conn) ∈ t.cxm.conns

/-- R70: the monitors of a line that has entered a state that lets them be made. -/
theorem makeLineMonitors_monitored {v : State} {new : LineState} (h : Does (recordOf l) s v) (run : s.running = true)
    (rep : v.reported l) (hc : s.lineConns l = []) (hs : (v.line l).state = new) (hu : new ≠ .disabled) (hf : new ≠ .fault)
    (hw : (s.line l).cfg.kind.isWire = true → new = .idle ∨ new = .ringingIn) (hd : ¬ s.noMonitorDue l)
    (hg : (v.line l).guard = .stopped) (hm : (v.line l).faultClear = false) :
    Monitored s l new (v.makeLineMonitors l) := by
  subst hs
  have running : v.running = true := by rw [h.running]; exact run
  have none : v.lineConns l = [] := by rw [lineConns_congr _ _ h.conns]; exact hc
  have due : v.dueRecords l ≠ [] := fun e => hd (h.noMonitorDue.1 ((dueRecords_eq_nil running hu hf).1 e))
  have wire : (v.line l).cfg.kind.isWire = true → (v.line l).state = .idle ∨ (v.line l).state = .ringingIn := by
    rw [h.cfg]; exact hw
  have calls : Does (callsOn (· = l)) s v := h.mono fun k hk => by cases k <;> first | exact hk | exact hk.elim
  obtain ⟨guard, mark⟩ := makeLineMonitors_guard running rep none wire due hg hm
  refine ⟨calls.trans does_makeLineMonitors_only, ?_, guard, mark, squares_makeMonitors _ _ l rep, fun p c ha on hn => ?_⟩
  · rw [makeLineMonitors_state running rep none wire due, h.cfg]
  · rw [makeLineMonitors_conns, List.mem_append]
    refine .inr (mem_dueRecords.2 ⟨p, c, monitorDue_eq_some.2 ⟨?_, running, ?_, hu, hf, ?_⟩, ?_⟩)
    · rwa [h.assign]
    · rwa [h.online]
    · unfold State.connAt
      rw [h.conns]
      exact hn
    · rw [h.now]; rfl

theorem moveLine_reported {s : State} {l : LineNo} (h : s.reported l) (new : LineState) (c : LineCause) :
    (s.moveLine l new c).reported l :=
  (does_moveLine (K := offTable) s l new c trivial).squares l h

/-- R20: the exit from FAULT where no monitor is called for. -/
theorem exitFault_still (run : s.running = true) (c : LineCause) (h : s.noMonitorDue l) : s.exitFault l c =
    (s.setLine l ((s.line l).enter (s.faultExitState l))).raise (.line l (s.line l).state (s.faultExitState l) c) := by
  have moved : Does (recordOf l) s (s.moveLine l (s.faultExitState l) c) := does_moveLine_only _ _ _ _
  have state : ((s.moveLine l (s.faultExitState l) c).line l).state = s.faultExitState l := by rw [moveLine_line]; rfl
  have none : (s.moveLine l (s.faultExitState l) c).dueRecords l = [] :=
    (dueRecords_eq_nil (by rw [moved.running]; exact run)
      (by rw [state]; rcases faultExitState_cases s l with h | h | h <;> simp [h])
      (by rw [state]; rcases faultExitState_cases s l with h | h | h <;> simp [h])).2 (moved.noMonitorDue.2 h)
  rw [State.exitFault, makeLineMonitors_still none, moveLine_running run]

theorem faultExitState_wire (h : (s.line l).cfg.kind.isWire = true) :
    s.faultExitState l = .idle ∨ s.faultExitState l = .ringingIn := by
  have leg : (s.line l).cfg.kind ≠ .hootLeg := fun e => by rw [e] at h; exact absurd h (by decide)
  rw [faultExitState_eq]
  simp only [h, leg, Bool.true_and, decide_false, Bool.false_and, Bool.false_eq_true, if_false]
  split
  · exact .inr rfl
  · exact .inl rfl

/-- R20: the exit from FAULT of a line that is monitored. -/
theorem exitFault_monitored (run : s.running = true) (c : LineCause) (rep : s.reported l) (hc : s.lineConns l = [])
    (hd : ¬ s.noMonitorDue l) : Monitored s l (s.faultExitState l) (s.exitFault l c) :=
  makeLineMonitors_monitored (does_moveLine_only s l (s.faultExitState l) c) run (moveLine_reported rep _ _) hc
    (by rw [moveLine_line]; rfl) (by rcases faultExitState_cases s l with h | h | h <;> simp [h])
    (by rcases faultExitState_cases s l with h | h | h <;> simp [h]) faultExitState_wire hd
    (by rw [moveLine_line]; rfl) (by rw [moveLine_line]; rfl)

theorem guardExpiry_still (h : ¬ ((s.line l).state = .fault ∧ (s.line l).guard.isRunning = true)) : s.guardExpiry l = s := by
  unfold State.guardExpiry
  refine if_neg fun hn => h ?_
  simp only [Bool.and_eq_true, decide_eq_true_eq] at hn
  exact ⟨hn.1.2, hn.2⟩

/-- R19: the line whose guard timer has expired. -/
def State.guardExpired (s : State) (l : LineNo) : State := s.setLine l { s.line l with guard := .expired }

theorem does_guardExpired : Does (recordOf l) s (s.guardExpired l) := (Update.timers s l _ _ _ _ _).does rfl

theorem guardExpired_line : (s.guardExpired l).line l = { s.line l with guard := .expired } := State.setLine_line_self s l _

theorem guardExpired_faultExitState : (s.guardExpired l).faultExitState l = s.faultExitState l := by
  simp only [faultExitState_eq, guardExpired_line]
  rfl

theorem guardExpiry_eq (run : s.running = true) (hs : (s.line l).state = .fault) (hg : (s.line l).guard.isRunning = true) :
    s.guardExpiry l = (s.guardExpired l).testExit l .guard := by
  unfold State.guardExpiry
  rw [if_pos (by simp [run, hs, hg])]
  rfl

/-- R19: whether an expired guard timer lets the line leave. -/
theorem exitMet_iff {r : LineRec} (hg : r.guard = .expired) :
    r.exitMet = true ↔ r.cfg.faultMode = .follow ∨ r.faultClear = true := by
  unfold LineRec.exitMet
  cases r.cfg.faultMode <;> simp [hg]

theorem testExit_leaves {c : LineCause} (hs : (s.line l).state = .fault) (hg : (s.line l).guard = .expired)
    (hm : (s.line l).cfg.faultMode = .follow ∨ (s.line l).faultClear = true) : s.testExit l c = s.exitFault l c :=
  if_pos ⟨hs, (exitMet_iff hg).2 hm⟩

theorem testExit_stays {c : LineCause} (h : (s.line l).state ≠ .fault ∨ (s.line l).guard ≠ .expired ∨
    ((s.line l).cfg.faultMode = .latched ∧ (s.line l).faultClear = false)) : s.testExit l c = s := by
  refine if_neg ?_
  rintro ⟨hs, hm⟩
  have hg : (s.line l).guard = .expired := by
    unfold LineRec.exitMet at hm
    simp only [Bool.and_eq_true, decide_eq_true_eq] at hm
    exact hm.1
  rcases h with h | h | ⟨h, h'⟩
  · exact h hs
  · exact h hg
  · rcases (exitMet_iff hg).1 hm with e | e
    · simp [h] at e
    · simp [h'] at e

end

/-- Settles O27: the guard timer's test, and the exit with and without monitors. -/
theorem guardExpiryLeavesFault : Obligations.GuardExpiryLeavesFault := by
  intro l s sw
  have run := sw.running
  refine ⟨fun k hs hg => ?_, fun hn => ?_⟩
  · have expiry : exec (.guardTimerExpiry l) s = .next ((s.guardExpired l).testExit l .guard) := by
      rw [exec_guardTimerExpiry sw.1, guardExpiry_eq run hs (by rw [hg]; rfl)]
    have expired : Does (recordOf l) s (s.guardExpired l) := does_guardExpired
    have state : ((s.guardExpired l).line l).state = .fault := by rw [guardExpired_line]; exact hs
    have guard : ((s.guardExpired l).line l).guard = .expired := by rw [guardExpired_line]
    refine ⟨fun hm hc => ?_, fun hm => ⟨fun none => ?_, fun p c ha on none hc rep => ?_⟩⟩
    · rw [expiry, testExit_stays]
      · rfl
      · exact .inr (.inr ⟨by rw [guardExpired_line]; exact hm, by rw [guardExpired_line]; exact hc⟩)
    · rw [expiry, testExit_leaves state guard (by rw [guardExpired_line]; exact hm),
        exitFault_still (s := s.guardExpired l) run .guard (expired.noMonitorDue.2 none), guardExpired_faultExitState, state, guardExpired_line,
        enter_from_fault _ _ (faultExitState_cases s l), State.guardExpired, setLine_setLine]
      simp only [faultExitState_eq]
    · have due : ¬ s.noMonitorDue l := fun h => (h p c ha).elim (fun e => by simp [on] at e) fun e => e none
      have rep' : (s.guardExpired l).reported l := by
        show ((s.guardExpired l).line l).totals = s.totalsNow l
        rw [guardExpired_line]
        exact rep l
      have m := exitFault_monitored (s := s.guardExpired l) run .guard rep' hc (mt expired.noMonitorDue.1 due)
      rw [guardExpired_faultExitState] at m
      refine ⟨_, expiry, ?_⟩
      rw [testExit_leaves state guard (by rw [guardExpired_line]; exact hm)]
      refine ⟨?_, m.guard, m.mark, m.made p c ha on none, fun x hx => ?_⟩
      · rw [m.state, guardExpired_line, faultExitState_eq]
      · rw [m.does.line x hx, expired.line x hx]
  · rw [exec_guardTimerExpiry sw.1, guardExpiry_still]
    rw [Timer.isRunning_iff]
    rintro ⟨hs, k, hk⟩
    exact hn.elim (fun h => h hs) fun h => h k hk

end Sys2Proof.Machine

namespace Sys2Proof.Machine

/-! ### Writes of a line's configuration (O44) -/

/-! #### What a LINE_CFG entry stands for (R2, R21) -/

section
variable {b : Byte}

theorem lineKindOf_code {k : LineKind} (h : b.toNat = k.code) : lineKindOf b = some k := by
  cases k <;> simp [lineKindOf, h, LineKind.code]

theorem faultModeOf_code {m : FaultMode} (h : b.toNat = m.code) : faultModeOf b = some m := by
  cases m <;> simp [faultModeOf, h, FaultMode.code]

theorem flagOf_code {f : Bool} (h : b.toNat = if f then 1 else 0) : flagOf b = some f := by
  cases f <;> simp [flagOf, h]

theorem lineKindOf_eq_none (h : 3 < b.toNat) : lineKindOf b = none := by
  unfold lineKindOf
  split <;> first | rfl | omega

theorem faultModeOf_eq_none (h : 1 < b.toNat) : faultModeOf b = none := by
  unfold faultModeOf
  split <;> first | rfl | omega

theorem flagOf_eq_none (h : 1 < b.toNat) : flagOf b = none := by
  unfold flagOf
  split <;> first | rfl | omega

theorem exists_kind_code (h : ¬ 3 < b.toNat) : ∃ k, lineKindOf b = some k := by
  obtain h | h | h | h : b.toNat = 0 ∨ b.toNat = 1 ∨ b.toNat = 2 ∨ b.toNat = 3 := by omega
  · exact ⟨.unused, lineKindOf_code h⟩
  · exact ⟨.ard, lineKindOf_code h⟩
  · exact ⟨.mrd, lineKindOf_code h⟩
  · exact ⟨.hootLeg, lineKindOf_code h⟩

theorem exists_faultMode_code (h : ¬ 1 < b.toNat) : ∃ m, faultModeOf b = some m := by
  obtain h | h : b.toNat = 0 ∨ b.toNat = 1 := by omega
  · exact ⟨.follow, faultModeOf_code h⟩
  · exact ⟨.latched, faultModeOf_code h⟩

theorem exists_flag_code (h : ¬ 1 < b.toNat) : ∃ f, flagOf b = some f := by
  obtain h | h : b.toNat = 0 ∨ b.toNat = 1 := by omega
  · exact ⟨false, flagOf_code (by simpa using h)⟩
  · exact ⟨true, flagOf_code (by simpa using h)⟩

end

section
variable {s : State} {index : U16} {e : LineEntry}

theorem judgeLineCfg_index (h : 512 ≤ index.toNat) : s.judgeLineCfg index e = s.refuse .badIndex := by
  rw [State.judgeLineCfg, numOf_of_le h]

theorem judgeLineCfg_value (h : index.toNat < 512)
    (hr : 3 < e.kind.toNat ∨ 1 < e.privacyDefault.toNat ∨ 1 < e.faultMode.toNat) :
    s.judgeLineCfg index e = s.refuse .badValue := by
  unfold State.judgeLineCfg
  rw [show numOf 512 index.toNat = some ⟨_, h⟩ from numOf_val (n := 512) ⟨_, h⟩]
  rcases hr with h | h | h
  · rw [lineKindOf_eq_none h]
  · rw [flagOf_eq_none h]
    cases lineKindOf e.kind <;> rfl
  · rw [faultModeOf_eq_none h]
    cases lineKindOf e.kind <;> cases flagOf e.privacyDefault <;> rfl

theorem judgeLineCfg_reference (h : index.toNat < 512)
    (hr : ¬ (3 < e.kind.toNat ∨ 1 < e.privacyDefault.toNat ∨ 1 < e.faultMode.toNat))
    (hb : 15 < e.ringCg.toNat ∨ 15 < e.burstCg.toNat ∨ 63 < e.group.toNat) :
    s.judgeLineCfg index e = s.refuse .badIndex := by
  simp only [not_or] at hr
  obtain ⟨hk, hp, hf⟩ := hr
  obtain ⟨k, hk⟩ := exists_kind_code hk
  obtain ⟨p, hp⟩ := exists_flag_code hp
  obtain ⟨f, hf⟩ := exists_faultMode_code hf
  unfold State.judgeLineCfg
  rw [show numOf 512 index.toNat = some ⟨_, h⟩ from numOf_val (n := 512) ⟨_, h⟩]
  simp only [hk, hp, hf]
  rcases hb with h | h | h
  · rw [numOf_of_le (n := 16) h]
  · rw [numOf_of_le (n := 16) (k := e.burstCg.toNat) h]
    cases numOf 16 e.ringCg.toNat <;> rfl
  · rw [numOf_of_le (n := 64) h]
    cases numOf 16 e.ringCg.toNat <;> cases numOf 16 e.burstCg.toNat <;> rfl

/-- The configuration that an entry stands for. -/
structure EntryMeans (e : LineEntry) (cfg : LineCfg) : Prop where
  kind : e.kind.toNat = cfg.kind.code
  privacy : e.privacyDefault.toNat = if cfg.privacyDefault then 1 else 0
  fault : e.faultMode.toNat = cfg.faultMode.code
  ring : e.ringCg.toNat = cfg.ringCg.val
  burst : e.burstCg.toNat = cfg.burstCg.val
  group : e.group.toNat = cfg.group.val
  rx : cfg.rxGain = min e.rxGain.toNat 32767
  tx : cfg.txGain = min e.txGain.toNat 32767
  ringTimeout : cfg.ringTimeout = e.ringTimeout.toNat
  answerTimeout : cfg.answerTimeout = e.answerTimeout.toNat
  ringHang : cfg.ringHang = e.ringHang.toNat
  guard : cfg.faultGuard = e.faultGuard.toNat

/-- Whether a gain of an entry is clamped. -/
def entryClamps (e : LineEntry) : Bool := decide (32767 < e.rxGain.toNat ∨ 32767 < e.txGain.toNat)

theorem judgeLineCfg_means {l : LineNo} {cfg : LineCfg} (hi : index.toNat = l.val) (m : EntryMeans e cfg) :
    s.judgeLineCfg index e = s.storeLineCfg l cfg (entryClamps e) := by
  have gain (v : U16) : gainOf v = min v.toNat 32767 := by
    simp [gainOf, clampTo, Config.gainMax]
  have clamps : (gainClamps e.rxGain || gainClamps e.txGain) = entryClamps e := by
    simp [gainClamps, beyond, Config.gainMax, entryClamps]
  have config : lineConfig e cfg.kind cfg.privacyDefault cfg.faultMode cfg.ringCg cfg.burstCg cfg.group = cfg := by
    simp only [lineConfig, gain, ← m.rx, ← m.tx, ← m.ringTimeout, ← m.answerTimeout, ← m.ringHang, ← m.guard]
  unfold State.judgeLineCfg
  simp only [hi, numOf_val, lineKindOf_code m.kind, flagOf_code m.privacy, faultModeOf_code m.fault, m.ring, m.burst,
    m.group, config, clamps]

end

/-! #### The effects of a taken write (R8, R22) -/

section
variable {s : State} {l : LineNo}

/-- R22: the line `l` with its new configuration stored. -/
def State.configured (s : State) (l : LineNo) (cfg : LineCfg) : State := s.setLine l { s.line l with cfg := cfg }

theorem configured_line (cfg : LineCfg) : (s.configured l cfg).line l = { s.line l with cfg := cfg } :=
  State.setLine_line_self s l _

theorem raise_setLine (s : State) (o : Occurrence) (l : LineNo) (r : LineRec) :
    (s.raise o).setLine l r = (s.setLine l r).raise o := by
  rw [State.raise_eq, State.raise_eq]
  rfl

/-- R8: a line with a fault condition and no connections. -/
theorem evaluate_fault {c : LineCause} (hf : s.faultCondition l = true) (hc : s.lineConns l = []) :
    s.evaluate l c = s.moveLine l .fault c := by
  have none : (s.moveLine l .fault c).lineConns l = [] := by
    rw [lineConns_congr _ _ (does_moveLine_only s l _ c).conns]; exact hc
  unfold State.evaluate
  rw [if_pos hf, State.enterFault, removeLine_still _ none]

/-- R8: the state that a line without a fault condition is given. -/
def State.evaluated (s : State) (l : LineNo) : LineState :=
  if (s.line l).cfg.kind.isWire && !(s.lineConns l).isEmpty then .active else s.faultExitState l

theorem evaluate_eq {c : LineCause} (hf : s.faultCondition l = false) :
    s.evaluate l c = if s.evaluated l = .idle then s else s.moveLine l (s.evaluated l) c := by
  unfold State.evaluate State.evaluated
  rw [if_neg (by simp [hf]), faultExitState_eq]
  split
  · rfl
  · split
    · rfl
    · split
      · rfl
      · rfl

theorem evaluated_of_empty (hc : s.lineConns l = []) : s.evaluated l = s.faultExitState l := by
  simp [State.evaluated, hc]

theorem kindChanged_begin {old : LineCfg} (ho : old.kind = .unused) (hn : (s.line l).cfg.kind ≠ .unused) :
    s.kindChanged l old = if s.running then ((s.moveLine l .idle .config).evaluate l .config).makeLineMonitors l
      else s.moveLine l .idle .config := by
  unfold State.kindChanged
  simp only [ho, hn, ne_eq, not_false_eq_true, and_self, if_true, (does_moveLine_only s l .idle .config).running]

theorem kindChanged_end {old : LineCfg} (ho : old.kind ≠ .unused) (hn : (s.line l).cfg.kind = .unused) :
    s.kindChanged l old = (s.moveLine l .disabled .config).removeLine l .disabled := by
  unfold State.kindChanged
  simp only [ho, hn, ne_eq, not_true_eq_false, not_false_eq_true, and_self, if_true, if_false]

theorem kindChanged_stays {old : LineCfg} (ho : old.kind = .unused ↔ (s.line l).cfg.kind = .unused)
    (h : s.running = false ∨ (s.line l).state ≠ .idle ∨ reEvaluates old (s.line l).cfg = false) :
    s.kindChanged l old = s := by
  have stays : ¬ (s.running && decide ((s.line l).state = .idle) && reEvaluates old (s.line l).cfg) = true := by
    simp only [Bool.and_eq_true, decide_eq_true_eq]
    rintro ⟨⟨run, idle⟩, re⟩
    rcases h with h | h | h
    · simp [run] at h
    · exact h idle
    · simp [re] at h
  unfold State.kindChanged
  rw [if_neg (fun h => h.2 (ho.1 h.1)), if_neg (fun h => h.1 (ho.2 h.2)), if_neg stays]

theorem kindChanged_again {old : LineCfg} (ho : old.kind ≠ .unused) (hn : (s.line l).cfg.kind ≠ .unused)
    (run : s.running = true) (hs : (s.line l).state = .idle) (hr : reEvaluates old (s.line l).cfg = true) :
    s.kindChanged l old = s.evaluate l .config := by
  unfold State.kindChanged
  rw [if_neg (fun h => ho h.1), if_neg (fun h => hn h.2), if_pos (by simp [run, hs, hr])]

end

/-! #### The line after a taken write -/

section
variable {s : State} {l : LineNo} {cfg : LineCfg}

/-- R6, R22: line `l`, its new configuration stored, enters a state in which neither a call nor a hang timer stands. -/
def State.entered (s : State) (l : LineNo) (cfg : LineCfg) (new : LineState) (burst : Option CgNo) : State :=
  s.setLine l { s.line l with
    cfg := cfg, state := new
    ring := if new = .ringingIn ∧ cfg.ringTimeout ≠ 0 then .running (cfg.ringTimeout * 100) else .stopped
    answer := .stopped, hang := .stopped, guard := .stopped, faultClear := false, ringPending := burst }

/-- The states that a write, an evaluation or an exit from FAULT gives a line. -/
def plain (new : LineState) : Prop := new ≠ .callingOut ∧ new ≠ .unanswered ∧ new ≠ .held

theorem plain_faultExitState (s : State) (l : LineNo) : plain (s.faultExitState l) := by
  rcases faultExitState_cases s l with h | h | h <;> simp [h, plain]

theorem plain_evaluated (s : State) (l : LineNo) : plain (s.evaluated l) := by
  unfold State.evaluated
  split
  · simp [plain]
  · exact plain_faultExitState s l

theorem enter_plain {r : LineRec} {new : LineState} (h : plain new) : r.enter new = { r with
    state := new
    ring := if new = .ringingIn ∧ r.cfg.ringTimeout ≠ 0 then .running (r.cfg.ringTimeout * 100) else .stopped
    answer := .stopped, hang := .stopped, guard := .stopped, faultClear := false
    ringPending := if new = .active then r.ringPending else none } := by
  obtain ⟨hc, hu, hh⟩ := h
  cases new <;> simp_all [LineRec.enter, LineState.isUp, Timer.start]

/-- The state with the configured line moved on to `new`. -/
theorem configured_enter {new : LineState} (h : plain new) :
    (s.configured l cfg).setLine l (((s.configured l cfg).line l).enter new) =
      s.entered l cfg new (if new = .active then (s.line l).ringPending else none) := by
  rw [configured_line, enter_plain h, State.configured, setLine_setLine]
  rfl

theorem entered_enter {new : LineState} (h : plain new) :
    (s.entered l cfg .idle none).setLine l (((s.entered l cfg .idle none).line l).enter new) = s.entered l cfg new none := by
  have line : (s.entered l cfg .idle none).line l = { s.line l with
      cfg := cfg, state := .idle, ring := .stopped
      answer := .stopped, hang := .stopped, guard := .stopped, faultClear := false, ringPending := none } := by
    simp [State.entered]
  rw [line, enter_plain h, ite_self, State.entered, setLine_setLine]
  rfl

theorem configured_move {new : LineState} (run : s.running = true) (h : plain new) (c : LineCause) :
    (s.configured l cfg).moveLine l new c =
      (s.entered l cfg new (if new = .active then (s.line l).ringPending else none)).raise (.line l (s.line l).state new c) := by
  rw [moveLine_running (s := s.configured l cfg) run, configured_enter h, configured_line]

/-- R23: a change of state while the switching blocks are held raises nothing. -/
theorem moveLine_held {s : State} (h : s.running = false) (l : LineNo) (new : LineState) (c : LineCause) :
    s.moveLine l new c = s.setLine l ((s.line l).enter new) :=
  if_neg fun run => Bool.false_ne_true (h.symm.trans run)

theorem configured_move_held {new : LineState} (hold : s.running = false) (h : plain new) (c : LineCause) :
    (s.configured l cfg).moveLine l new c = s.entered l cfg new (if new = .active then (s.line l).ringPending else none) := by
  rw [moveLine_held (s := s.configured l cfg) hold, configured_enter h]

/-- R8: the line that has left UNUSED moves on. -/
theorem begun_move {new : LineState} (run : s.running = true) (h : plain new) (c : LineCause) :
    ((s.configured l cfg).moveLine l .idle .config).moveLine l new c =
      ((s.entered l cfg new none).raise (.line l (s.line l).state .idle .config)).raise (.line l .idle new c) := by
  have idle : plain .idle := by simp [plain]
  have begun := configured_move (l := l) (cfg := cfg) run idle .config
  simp only [reduceCtorEq, if_false] at begun
  have running (o : Occurrence) : ((s.entered l cfg .idle none).raise o).running = true :=
    ((Does.refl (K := recordOf l)).note o).running.trans run
  rw [begun, moveLine_running (running _), State.raise_line, raise_setLine, entered_enter h]
  simp [State.entered]

/-- R22: a write of a line in no state of FAULT after its effects. -/
theorem lineCfgWritten_eq : s.lineCfgWritten l cfg = ((s.configured l cfg).kindChanged l (s.line l).cfg).testExit l .clear :=
  rfl

theorem configured_reported (h : s.reported l) : (s.configured l cfg).reported l := by
  show ((s.configured l cfg).line l).totals = s.totalsNow l
  rw [configured_line]
  exact h

theorem configured_faultCondition : (s.configured l cfg).faultCondition l = s.faultCondition l := by
  unfold State.faultCondition
  rw [configured_line]
  rfl

theorem configured_faultExitState : (s.configured l cfg).faultExitState l =
    if cfg.kind.isWire && offHook (s.line l).far then .ringingIn
    else if decide (cfg.kind = .hootLeg) && (s.group cfg.group).cfg.enabled then .active
    else .idle := by
  rw [faultExitState_eq, configured_line]
  rfl

/-- R22: a write that leaves the line as it stands, configured anew. -/
theorem lineCfgWritten_stays (hk : (s.line l).cfg.kind = .unused ↔ cfg.kind = .unused)
    (h : s.running = false ∨ (s.line l).state ≠ .idle ∨ reEvaluates (s.line l).cfg cfg = false)
    (hx : (s.line l).state ≠ .fault ∨ (s.line l).guard ≠ .expired ∨
      (cfg.faultMode = .latched ∧ (s.line l).faultClear = false)) :
    s.lineCfgWritten l cfg = s.configured l cfg := by
  rw [lineCfgWritten_eq, kindChanged_stays (by rw [configured_line]; exact hk) (by rw [configured_line]; exact h),
    testExit_stays (by rw [configured_line]; exact hx)]

/-- R22: a line goes to UNUSED. -/
theorem lineCfgWritten_end (ho : (s.line l).cfg.kind ≠ .unused) (hn : cfg.kind = .unused) :
    s.lineCfgWritten l cfg = ((s.configured l cfg).moveLine l .disabled .config).removeLine l .disabled := by
  have moved : ((s.configured l cfg).moveLine l .disabled .config).line l = { s.line l with cfg := cfg }.enter .disabled := by
    rw [moveLine_line, configured_line]
  rw [lineCfgWritten_eq, kindChanged_end ho (by rw [configured_line]; exact hn), testExit_stays]
  obtain ⟨totals, removed⟩ := removeLine_other (s := (s.configured l cfg).moveLine l .disabled .config) (l := l) .disabled
    (by rw [moved]; simp [LineRec.enter, hn, LineKind.isWire])
  rw [removed, moved]
  exact .inl nofun

/-- R8: a line leaves UNUSED while the switching blocks are held. -/
theorem lineCfgWritten_begin_held (ho : (s.line l).cfg.kind = .unused) (hn : cfg.kind ≠ .unused) (hold : s.running = false) :
    s.lineCfgWritten l cfg = s.entered l cfg .idle none := by
  have idle : plain .idle := by simp [plain]
  rw [lineCfgWritten_eq, kindChanged_begin ho (by rw [configured_line]; exact hn),
    show (s.configured l cfg).running = false from hold, configured_move_held hold idle]
  simp only [Bool.false_eq_true, reduceCtorEq, if_false]
  exact testExit_stays (.inl (by simp [State.entered]))

/-- R8: a line leaves UNUSED while the switching blocks are running. -/
theorem lineCfgWritten_begin (ho : (s.line l).cfg.kind = .unused) (hn : cfg.kind ≠ .unused) (run : s.running = true) :
    s.lineCfgWritten l cfg =
      ((((s.configured l cfg).moveLine l .idle .config).evaluate l .config).makeLineMonitors l).testExit l .clear := by
  rw [lineCfgWritten_eq, kindChanged_begin ho (by rw [configured_line]; exact hn),
    show (s.configured l cfg).running = true from run]
  rfl

end

section
variable {s : State} {l : LineNo} {cfg : LineCfg}

/-- R22: a line without connections goes to UNUSED. -/
theorem lineCfgWritten_end_empty (ho : (s.line l).cfg.kind ≠ .unused) (hn : cfg.kind = .unused) (hc : s.lineConns l = []) :
    s.lineCfgWritten l cfg = (s.configured l cfg).moveLine l .disabled .config := by
  rw [lineCfgWritten_end ho hn, removeLine_still]
  rw [lineConns_congr _ _ (does_moveLine_only _ l _ _).conns]
  exact hc

theorem plain_disabled : plain .disabled := by simp [plain]

theorem plain_fault : plain .fault := by simp [plain]

/-- R22: what is left of a line that goes to UNUSED. -/
theorem lineCfgWritten_end_line (ho : (s.line l).cfg.kind ≠ .unused) (hn : cfg.kind = .unused) :
    ((s.lineCfgWritten l cfg).line l).state = .disabled ∧ ((s.lineCfgWritten l cfg).line l).cfg = cfg := by
  have moved : ((s.configured l cfg).moveLine l .disabled .config).line l = { s.line l with cfg := cfg }.enter .disabled := by
    rw [moveLine_line, configured_line]
  obtain ⟨totals, removed⟩ := removeLine_other (s := (s.configured l cfg).moveLine l .disabled .config) (l := l) .disabled
    (by rw [moved]; simp [LineRec.enter, hn, LineKind.isWire])
  rw [lineCfgWritten_end ho hn, removed, moved]
  exact ⟨rfl, rfl⟩

theorem lineCfgWritten_end_conns (ho : (s.line l).cfg.kind ≠ .unused) (hn : cfg.kind = .unused) :
    (s.lineCfgWritten l cfg).cxm.conns = s.cxm.conns.filter (fun c => c.line ≠ l) := by
  rw [lineCfgWritten_end ho hn, removeLine_conns, (does_moveLine_only _ l _ _).conns]
  rfl

theorem lineCfgWritten_end_others (ho : (s.line l).cfg.kind ≠ .unused) (hn : cfg.kind = .unused) {x : LineNo} (hx : x ≠ l) :
    (s.lineCfgWritten l cfg).line x = s.line x := by
  rw [lineCfgWritten_end ho hn, (does_removeLine_only _).line x hx, (does_moveLine_only _ l _ _).line x hx]
  exact State.setLine_line_ne _ _ (Ne.symm hx)

/-! A line that leaves UNUSED, evaluated while the switching blocks are running. -/

/-- R8: line `l`, configured anew, has left UNUSED. -/
def State.begun (s : State) (l : LineNo) (cfg : LineCfg) : State := (s.configured l cfg).moveLine l .idle .config

theorem does_begun : Does (recordOf l) (s.configured l cfg) (s.begun l cfg) := does_moveLine_only _ _ _ _

theorem begun_line : (s.begun l cfg).line l = { s.line l with cfg := cfg }.enter .idle := by
  rw [State.begun, moveLine_line, configured_line]

theorem begun_faultCondition : (s.begun l cfg).faultCondition l = s.faultCondition l := by
  unfold State.faultCondition State.portUp State.port
  rw [begun_line, does_begun.lif]
  rfl

theorem begun_lineConns : (s.begun l cfg).lineConns l = s.lineConns l := lineConns_congr _ _ does_begun.conns

theorem begun_faultExitState : (s.begun l cfg).faultExitState l = (s.configured l cfg).faultExitState l := by
  simp only [faultExitState_eq, begun_line, configured_line, State.group, does_begun.gtu]
  rfl

/-- R8: the fault condition takes a line that leaves UNUSED to FAULT. -/
theorem lineCfgWritten_begin_fault (ho : (s.line l).cfg.kind = .unused) (hn : cfg.kind ≠ .unused) (run : s.running = true)
    (hf : s.faultCondition l = true) (hc : s.lineConns l = []) : s.lineCfgWritten l cfg =
      ((s.entered l cfg .fault none).raise (.line l (s.line l).state .idle .config)).raise (.line l .idle .fault .config) := by
  have fault : (s.begun l cfg).evaluate l .config = (s.begun l cfg).moveLine l .fault .config :=
    evaluate_fault (by rw [begun_faultCondition]; exact hf) (by rw [begun_lineConns]; exact hc)
  have state : (((s.begun l cfg).moveLine l .fault .config).line l).state = .fault := by rw [moveLine_line]; rfl
  have guard : (((s.begun l cfg).moveLine l .fault .config).line l).guard = .stopped := by rw [moveLine_line]; rfl
  have none : ((s.begun l cfg).moveLine l .fault .config).dueRecords l = [] := by
    rw [List.eq_nil_iff_forall_not_mem]
    intro x hx
    obtain ⟨p, c, due, -⟩ := mem_dueRecords.1 hx
    obtain ⟨-, -, -, -, up, -⟩ := monitorDue_eq_some.1 due
    exact up state
  rw [lineCfgWritten_begin ho hn run, ← State.begun, fault, makeLineMonitors_still none,
    testExit_stays (.inr (.inl (by simp [guard]))), State.begun, begun_move run plain_fault]

/-- R8: the line that leaves UNUSED, evaluated, before its monitors are made. -/
def State.taken (s : State) (l : LineNo) (cfg : LineCfg) : State := (s.begun l cfg).evaluate l .config

theorem taken_eq (hf : s.faultCondition l = false) (hc : s.lineConns l = []) : s.taken l cfg =
    if (s.configured l cfg).faultExitState l = .idle then s.begun l cfg
    else (s.begun l cfg).moveLine l ((s.configured l cfg).faultExitState l) .config := by
  rw [State.taken, evaluate_eq (by rw [begun_faultCondition]; exact hf),
    evaluated_of_empty (by rw [begun_lineConns]; exact hc), begun_faultExitState]

theorem does_taken (hf : s.faultCondition l = false) (hc : s.lineConns l = []) :
    Does (recordOf l) (s.configured l cfg) (s.taken l cfg) := by
  rw [taken_eq hf hc]
  exact Does.ite _ does_begun (does_begun.trans (does_moveLine_only _ _ _ _))

theorem taken_line (hf : s.faultCondition l = false) (hc : s.lineConns l = []) :
    ((s.taken l cfg).line l).state = (s.configured l cfg).faultExitState l ∧ ((s.taken l cfg).line l).guard = .stopped ∧
      ((s.taken l cfg).line l).faultClear = false := by
  rw [taken_eq hf hc]
  split
  · next h => rw [begun_line, h]; exact ⟨rfl, rfl, rfl⟩
  · rw [moveLine_line]; exact ⟨rfl, rfl, rfl⟩

theorem faultExitState_up (s : State) (l : LineNo) : s.faultExitState l ≠ .fault ∧ s.faultExitState l ≠ .disabled := by
  rcases faultExitState_cases s l with h | h | h <;> simp [h]

theorem lineCfgWritten_begin_still (ho : (s.line l).cfg.kind = .unused) (hn : cfg.kind ≠ .unused) (run : s.running = true)
    (hf : s.faultCondition l = false) (hc : s.lineConns l = []) (hd : s.noMonitorDue l) : s.lineCfgWritten l cfg =
      if (s.configured l cfg).faultExitState l = .idle
        then (s.entered l cfg ((s.configured l cfg).faultExitState l) none).raise (.line l (s.line l).state .idle .config)
        else ((s.entered l cfg ((s.configured l cfg).faultExitState l) none).raise
          (.line l (s.line l).state .idle .config)).raise (.line l .idle ((s.configured l cfg).faultExitState l) .config) := by
  obtain ⟨state, guard, -⟩ := taken_line (cfg := cfg) hf hc
  obtain ⟨notFault, notDisabled⟩ := faultExitState_up (s.configured l cfg) l
  have none : (s.taken l cfg).dueRecords l = [] := (dueRecords_eq_nil ((does_taken hf hc).running.trans run)
    (by rw [state]; exact notDisabled) (by rw [state]; exact notFault)).2 ((does_taken hf hc).noMonitorDue.2 hd)
  rw [lineCfgWritten_begin ho hn run, ← State.begun, ← State.taken, makeLineMonitors_still none,
    testExit_stays (.inl (by rw [state]; exact notFault)), taken_eq hf hc]
  split
  · next h =>
    have idle : plain .idle := by simp [plain]
    have begun := configured_move (l := l) (cfg := cfg) run idle .config
    simp only [reduceCtorEq, if_false] at begun
    rw [State.begun, begun, h]
  · rw [State.begun, begun_move run (plain_faultExitState _ _)]

theorem lineCfgWritten_begin_monitored (ho : (s.line l).cfg.kind = .unused) (hn : cfg.kind ≠ .unused)
    (run : s.running = true) (hf : s.faultCondition l = false) (hc : s.lineConns l = []) (hd : ¬ s.noMonitorDue l)
    (rep : s.reported l) :
    Monitored (s.configured l cfg) l ((s.configured l cfg).faultExitState l) (s.lineCfgWritten l cfg) := by
  obtain ⟨state, guard, mark⟩ := taken_line (cfg := cfg) hf hc
  obtain ⟨notFault, notDisabled⟩ := faultExitState_up (s.configured l cfg) l
  have rep' : (s.taken l cfg).reported l :=
    ((does_taken hf hc).mono fun k hk => by cases k <;> trivial : Does offTable _ _).squares l
      (configured_reported rep)
  have m := makeLineMonitors_monitored (does_taken hf hc) run rep' hc state notDisabled notFault faultExitState_wire hd
    guard mark
  rw [lineCfgWritten_begin ho hn run, ← State.begun, ← State.taken,
    testExit_stays (.inr (.inl (by simp [m.guard])))]
  exact m

/-! A line in IDLE, evaluated again, and a line in FAULT. -/

theorem lineCfgWritten_again (ho : (s.line l).cfg.kind ≠ .unused) (hn : cfg.kind ≠ .unused) (run : s.running = true)
    (hs : (s.line l).state = .idle) (hr : reEvaluates (s.line l).cfg cfg = true) :
    s.lineCfgWritten l cfg = ((s.configured l cfg).evaluate l .config).testExit l .clear := by
  rw [lineCfgWritten_eq, kindChanged_again ho (by rw [configured_line]; exact hn) (s := s.configured l cfg) run
    (by rw [configured_line]; exact hs) (by rw [configured_line]; exact hr)]

theorem lineCfgWritten_again_fault (ho : (s.line l).cfg.kind ≠ .unused) (hn : cfg.kind ≠ .unused) (run : s.running = true)
    (hs : (s.line l).state = .idle) (hr : reEvaluates (s.line l).cfg cfg = true) (hf : s.faultCondition l = true)
    (hc : s.lineConns l = []) :
    s.lineCfgWritten l cfg = (s.entered l cfg .fault none).raise (.line l .idle .fault .config) := by
  have guard : (((s.configured l cfg).moveLine l .fault .config).line l).guard = .stopped := by rw [moveLine_line]; rfl
  rw [lineCfgWritten_again ho hn run hs hr, evaluate_fault (s := s.configured l cfg) (by rw [configured_faultCondition]; exact hf) hc,
    testExit_stays (.inr (.inl (by simp [guard]))), configured_move run plain_fault, hs]
  simp

theorem lineCfgWritten_again_still (ho : (s.line l).cfg.kind ≠ .unused) (hn : cfg.kind ≠ .unused) (run : s.running = true)
    (hs : (s.line l).state = .idle) (hr : reEvaluates (s.line l).cfg cfg = true) (hf : s.faultCondition l = false) :
    s.lineCfgWritten l cfg = if (s.configured l cfg).evaluated l = .idle then s.configured l cfg
      else (s.entered l cfg ((s.configured l cfg).evaluated l)
        (if (s.configured l cfg).evaluated l = .active then (s.line l).ringPending else none)).raise
        (.line l .idle ((s.configured l cfg).evaluated l) .config) := by
  rw [lineCfgWritten_again ho hn run hs hr, evaluate_eq (by rw [configured_faultCondition]; exact hf)]
  split
  · exact testExit_stays (.inl (by rw [configured_line, hs]; nofun))
  · rw [testExit_stays, configured_move run (plain_evaluated _ _), hs]
    refine .inr (.inl ?_)
    rw [moveLine_line]
    nofun

/-- R19, R22: a line in FAULT whose guard timer has expired leaves by the fault_mode written. -/
theorem lineCfgWritten_exit (ho : (s.line l).cfg.kind ≠ .unused) (hn : cfg.kind ≠ .unused)
    (hs : (s.line l).state = .fault) (hg : (s.line l).guard = .expired)
    (hm : cfg.faultMode = .follow ∨ (s.line l).faultClear = true) :
    s.lineCfgWritten l cfg = (s.configured l cfg).exitFault l .clear := by
  rw [lineCfgWritten_eq, kindChanged_stays, testExit_leaves]
  · rw [configured_line]; exact hs
  · rw [configured_line]; exact hg
  · rw [configured_line]; exact hm
  · rw [configured_line]; exact ⟨fun h => absurd h ho, fun h => absurd h hn⟩
  · rw [configured_line, hs]; exact .inr (.inl nofun)

theorem lineCfgWritten_exit_still (ho : (s.line l).cfg.kind ≠ .unused) (hn : cfg.kind ≠ .unused) (run : s.running = true)
    (hs : (s.line l).state = .fault) (hg : (s.line l).guard = .expired)
    (hm : cfg.faultMode = .follow ∨ (s.line l).faultClear = true) (hd : s.noMonitorDue l) : s.lineCfgWritten l cfg =
      (s.entered l cfg ((s.configured l cfg).faultExitState l)
        (if (s.configured l cfg).faultExitState l = .active then (s.line l).ringPending else none)).raise
        (.line l .fault ((s.configured l cfg).faultExitState l) .clear) := by
  rw [lineCfgWritten_exit ho hn hs hg hm, exitFault_still (s := s.configured l cfg) run .clear hd,
    configured_enter (plain_faultExitState _ _), configured_line, hs]

theorem lineCfgWritten_exit_monitored (ho : (s.line l).cfg.kind ≠ .unused) (hn : cfg.kind ≠ .unused) (run : s.running = true)
    (hs : (s.line l).state = .fault) (hg : (s.line l).guard = .expired)
    (hm : cfg.faultMode = .follow ∨ (s.line l).faultClear = true) (hd : ¬ s.noMonitorDue l) (hc : s.lineConns l = [])
    (rep : s.reported l) :
    Monitored (s.configured l cfg) l ((s.configured l cfg).faultExitState l) (s.lineCfgWritten l cfg) := by
  rw [lineCfgWritten_exit ho hn hs hg hm]
  exact exitFault_monitored (s := s.configured l cfg) run .clear (configured_reported rep) hc hd

end

/-! #### The obligation -/

section
variable {s : State} {l : LineNo} {cfg : LineCfg}

/-- R21 check 5: the write would make a fifth HOOT_LEG of its group. -/
theorem fifthLeg_iff : s.fifthLeg l cfg.kind cfg.group = true ↔
    cfg.kind = .hootLeg ∧ ((s.line l).cfg.kind ≠ .hootLeg ∨ (s.line l).cfg.group ≠ cfg.group) ∧
      4 ≤ s.otherLegs l cfg.group := by
  simp only [State.fifthLeg, Bool.and_eq_true, decide_eq_true_eq, Bool.not_eq_true', Bool.and_eq_false_iff,
    decide_eq_false_iff_not, and_assoc]

theorem inUse_iff (st : LineState) : st.inUse = true ↔ st ≠ .disabled ∧ st ≠ .idle ∧ st ≠ .fault := by
  cases st <;> simp [LineState.inUse]

theorem storeLineCfg_busy (b : Bool) (hc : cfg.kind ≠ (s.line l).cfg.kind ∨ cfg.group ≠ (s.line l).cfg.group)
    (hu : (s.line l).state.inUse = true) : s.storeLineCfg l cfg b = s.refuse .busy := by
  unfold State.storeLineCfg
  refine if_pos ?_
  simp only [hu, Bool.and_true, Bool.or_eq_true, decide_eq_true_eq]
  exact hc.imp Ne.symm Ne.symm

theorem storeLineCfg_full (b : Bool) (hu : ¬ (s.line l).state.inUse = true) (hf : s.fifthLeg l cfg.kind cfg.group = true) :
    s.storeLineCfg l cfg b = s.refuse .busy := by
  unfold State.storeLineCfg
  rw [if_neg (by simp [hu]), if_pos hf]

theorem storeLineCfg_taken (b : Bool)
    (hu : ¬ (s.line l).state.inUse = true ∨ (cfg.kind = (s.line l).cfg.kind ∧ cfg.group = (s.line l).cfg.group))
    (hf : ¬ s.fifthLeg l cfg.kind cfg.group = true) : s.storeLineCfg l cfg b = (s.lineCfgWritten l cfg).accept b := by
  unfold State.storeLineCfg
  refine (if_neg ?_).trans (if_neg hf)
  rcases hu with hu | ⟨hk, hg⟩
  · simp [hu]
  · simp [hk, hg]

end

/-- Settles O44: the checks of R21 in order, then the effects of R22 by the line's state. -/
theorem writeLineCfgChecksAndStores : Obligations.WriteLineCfgChecksAndStores := by
  intro tag index e s sv
  have judged : exec (.writeLineCfg tag index e) s = .next ((s.judgeLineCfg index e).state.respond 2 tag
      (s.judgeLineCfg index e).code (s.judgeLineCfg index e).data) := by
    rw [exec_takes sv.awake (.writeLineCfg tag index e) trivial]
    exact congrArg _ (request_serving sv 2 tag fun s => s.judgeLineCfg index e)
  intro i refused reserved beyond answer
  refine ⟨fun h => ?_, fun h hr => ?_, fun h hr hb => ?_,
    fun l cfg hi hk hp hf hr hb hg hrx htx hrt hat hrh hfg => ?_⟩
  · exact judged.trans (by rw [judgeLineCfg_index h]; rfl)
  · exact judged.trans (by rw [judgeLineCfg_value h hr]; rfl)
  · exact judged.trans (by rw [judgeLineCfg_reference h hr hb]; rfl)
  rw [judgeLineCfg_means hi ⟨hk, hp, hf, hr, hb, hg, hrx, htx, hrt, hat, hrh, hfg⟩] at judged
  intro r changes inUse full
  have busy (h : s.storeLineCfg l cfg (entryClamps e) = s.refuse .busy) : refused .busy := judged.trans (by rw [h]; rfl)
  have code : (if entryClamps e = true then ResultCode.okClamped else .ok) = answer := by
    simp only [entryClamps, decide_eq_true_eq]
    rfl
  have taken (hu : ¬ inUse ∨ (cfg.kind = r.cfg.kind ∧ cfg.group = r.cfg.group)) (hf : ¬ full) :
      exec i s = .next ((s.lineCfgWritten l cfg).respond 2 tag answer []) := by
    refine judged.trans ?_
    rw [storeLineCfg_taken _ (hu.imp_left fun h h' => h ((inUse_iff _).1 h')) (fun h => hf (fifthLeg_iff.1 h))]
    simp only [State.accept, code]
  have inIdle (h : r.state = .idle) : ¬ inUse := fun h' => h'.2.1 h
  have inFault (h : r.state = .fault) : ¬ inUse := fun h' => h'.2.2 h
  have inDisabled (h : r.state = .disabled) : ¬ inUse := fun h' => h'.1 h
  have idleOrFault (h : r.state = .idle ∨ r.state = .fault) : ¬ inUse := h.elim inIdle inFault
  have changed (h : cfg.kind ≠ r.cfg.kind ∨ (cfg.kind = .hootLeg ∧ cfg.group ≠ r.cfg.group)) :
      reEvaluates (s.line l).cfg cfg = true := by
    simp only [reEvaluates, Bool.or_eq_true, Bool.and_eq_true, decide_eq_true_eq]
    exact h.imp Ne.symm fun ⟨hk, hg⟩ => ⟨hk, Ne.symm hg⟩
  have notFull (h : cfg.kind = .unused) : ¬ full := fun h' => absurd (h.symm.trans h'.1) (by decide)
  have running (h : s.mga.phase = .running) : s.running = true := by simp [State.running, h]
  have held (h : s.mga.phase = .held) : s.running = false := by simp [State.running, h]
  refine ⟨fun hc hu => ?_, fun hu hf => ?_, fun hk hg hs => ?_, fun ph ho hn hs hf => ?_, fun ph ho hn hs hc => ?_,
    fun ph ho hn hs hf hx hc => ?_, ?_⟩
  · exact busy (storeLineCfg_busy _ hc ((inUse_iff _).2 hu))
  · exact busy (storeLineCfg_full _ (fun h => hu ((inUse_iff _).1 h)) (fifthLeg_iff.2 hf))
  · rw [taken (.inr ⟨hk, hg⟩) fun h => h.2.1.elim (fun h' => h' (hk ▸ h.1)) (fun h' => h' hg.symm), lineCfgWritten_stays]
    · rfl
    · rw [hk]
    · exact .inr (.inr (by simp [reEvaluates, hk, hg, r]))
    · exact .inl hs
  · rw [taken (.inl (inDisabled hs)) hf, lineCfgWritten_begin_held ho hn (held ph)]
    simp [State.entered, r]
  · rw [taken (.inl (inIdle hs)) (notFull hn), lineCfgWritten_end_empty ho hn hc, configured_move (running ph) plain_disabled,
      show (s.line l).state = .idle from hs]
    simp [State.entered, r]
  · rw [taken (.inl (inDisabled hs)) hf, lineCfgWritten_begin_fault ho hn (running ph) hx hc,
      show (s.line l).state = .disabled from hs]
    simp [State.entered, r]
  intro stored entered upOrIdle monitored
  have exit : (s.configured l cfg).faultExitState l = upOrIdle := configured_faultExitState
  have again : (s.configured l cfg).evaluated l =
      if cfg.kind.isWire && !(s.lineConns l).isEmpty then .active else upOrIdle := by
    rw [State.evaluated, configured_line, exit]
    rfl
  have made (h : exec i s = .next ((s.lineCfgWritten l cfg).respond 2 tag answer []))
      (m : Monitored (s.configured l cfg) l ((s.configured l cfg).faultExitState l) (s.lineCfgWritten l cfg)) : monitored := by
    have same := m.does.mga.same
    refine ⟨_, h, ?_, ?_, ?_, ?_, ?_, ?_, m.made, fun x hx => ?_⟩
    · show (s.lineCfgWritten l cfg).mga.responses ++ _ = _
      rw [same.responses, same.overrun]
      rfl
    · rw [State.respond_line, m.does.cfg l, configured_line]
    · rw [State.respond_line, m.state, configured_line, exit]
    · rw [State.respond_line]; exact m.guard
    · rw [State.respond_line]; exact m.mark
    · rw [State.respond_line]; exact m.totals
    · rw [State.respond_line, m.does.line x hx]
      exact State.setLine_line_ne _ _ (Ne.symm hx)
  refine ⟨fun ph ho hn hs hf hx hc => ⟨fun hd => ?_, fun hd rep => ?_⟩, fun ho hn hs hf => ⟨fun h => ?_, fun ph h => ⟨fun hx hc => ?_,
    fun hx => ?_⟩⟩, fun ph ho hn hs hf => ⟨fun h => ?_, fun hg hm => ⟨fun hd => ?_, fun hd hc rep => ?_⟩⟩,
    fun ho hn hs => ⟨fun ph hc => ?_, fun ph hc => ?_, ?_⟩⟩
  · rw [taken (.inl (inDisabled hs)) hf, lineCfgWritten_begin_still ho hn (running ph) hx hc hd, exit,
      show (s.line l).state = .disabled from hs]
    rfl
  · exact made (taken (.inl (inDisabled hs)) hf) (lineCfgWritten_begin_monitored ho hn (running ph) hx hc hd (rep l))
  · rw [taken (.inl (inIdle hs)) hf, lineCfgWritten_stays]
    · rfl
    · exact ⟨fun h => absurd h ho, fun h => absurd h hn⟩
    · refine h.imp held fun ⟨hk, hg⟩ => .inr ?_
      simp only [reEvaluates, hk, Bool.or_eq_false_iff]
      rcases hg with hg | hg
      · simp [← hk, hg, r]
      · simp [hg, r]
    · exact .inl (by rw [show (s.line l).state = .idle from hs]; nofun)
  · rw [taken (.inl (inIdle hs)) hf, lineCfgWritten_again_fault ho hn (running ph) hs (changed h) hx hc]
    rfl
  · rw [taken (.inl (inIdle hs)) hf, lineCfgWritten_again_still ho hn (running ph) hs (changed h) hx, again]
    rfl
  · rw [taken (.inl (inFault hs)) hf, lineCfgWritten_stays]
    · rfl
    · exact ⟨fun h => absurd h ho, fun h => absurd h hn⟩
    · exact .inr (.inl (by rw [show (s.line l).state = .fault from hs]; nofun))
    · exact .inr h
  · rw [taken (.inl (inFault hs)) hf, lineCfgWritten_exit_still ho hn (running ph) hs hg hm hd, exit]
    rfl
  · exact made (taken (.inl (inFault hs)) hf) (lineCfgWritten_exit_monitored ho hn (running ph) hs hg hm hd hc (rep l))
  · rw [taken (.inl (idleOrFault hs)) (notFull hn), lineCfgWritten_end_empty ho hn hc,
      configured_move_held (held ph) plain_disabled]
    rfl
  · rw [taken (.inl (idleOrFault hs)) (notFull hn), lineCfgWritten_end_empty ho hn hc,
      configured_move (running ph) plain_disabled]
    rfl
  · obtain ⟨state, config⟩ := lineCfgWritten_end_line ho hn
    have conns := lineCfgWritten_end_conns ho hn
    have none : (s.lineCfgWritten l cfg).lineConns l = [] := by
      unfold State.lineConns
      rw [conns]
      exact filter_line_eq_nil l fun c hc => by simpa using (List.mem_filter.1 hc).2
    refine ⟨_, taken (.inl (idleOrFault hs)) (notFull hn), none, ?_, ?_, conns, fun x hx => ?_⟩
    · rw [State.respond_line]; exact state
    · rw [State.respond_line]; exact config
    · rw [State.respond_line]; exact lineCfgWritten_end_others ho hn hx

end Sys2Proof.Machine

namespace Sys2Proof.Machine

/-! ### What happens elsewhere -/

/-- R33, R70: every speaker connection is on the line that its place is assigned. -/
def State.spkAssigned (s : State) : Prop := ∀ c ∈ s.cxm.conns, ∀ k : SpkNo, c.place = .spk k → s.assign c.pos k = .line c.line

/-- Calls on lines other than `l`: they leave the line's record and its connections, and make only assigned monitors. -/
structure Elsewhere (l : LineNo) (s t : State) : Prop where
  does : Does (callsOn (· ≠ l)) s t
  conns : t.lineConns l = s.lineConns l
  assigned : s.spkAssigned → t.spkAssigned

section
variable {s t u : State} {l x : LineNo}

theorem Elsewhere.refl (l : LineNo) (s : State) : Elsewhere l s s := ⟨.refl, rfl, id⟩

theorem Elsewhere.trans (h : Elsewhere l s t) (k : Elsewhere l t u) : Elsewhere l s u :=
  ⟨h.does.trans k.does, k.conns.trans h.conns, fun a => k.assigned (h.assigned a)⟩

theorem Elsewhere.ite {a b : State} (p : Prop) [Decidable p] (h : Elsewhere l s a) (k : Elsewhere l s b) :
    Elsewhere l s (if p then a else b) := by
  split
  · exact h
  · exact k

theorem Elsewhere.line (h : Elsewhere l s t) : t.line l = s.line l := h.does.line l fun hn => hn rfl

theorem Elsewhere.foldl {α : Type} (f : State → α → State) (ls : List α) (h : ∀ s, ∀ a ∈ ls, Elsewhere l s (f s a)) (s : State) :
    Elsewhere l s (ls.foldl f s) := by
  induction ls generalizing s with
  | nil => exact .refl l s
  | cons a ls ih => exact (h s a (by simp)).trans (ih (fun s b hb => h s b (by simp [hb])) _)

theorem spkAssigned_congr (hc : t.cxm.conns = s.cxm.conns) (hp : t.psc = s.psc) (h : s.spkAssigned) : t.spkAssigned := by
  simpa only [State.spkAssigned, hc, State.assign, hp] using h

/-- An update of another line alone. -/
theorem Does.elsewhere (h : Does (recordOf x) s t) (hx : x ≠ l) : Elsewhere l s t :=
  ⟨h.mono fun k hk => by cases k <;> first | exact hk.elim | exact fun e => hx (hk.symm.trans e),
    lineConns_congr _ _ h.conns, spkAssigned_congr h.conns h.psc⟩

/-- The one place among several where an item is handled: what the handling of others keeps is kept before and after it. -/
theorem foldl_split {α : Type} (R : State → State → Prop) (refl : ∀ s, R s s) (trans : ∀ {a b c}, R a b → R b c → R a c)
    {f : State → α → State} {ls : List α} {a : α} (hn : ls.Nodup) (ha : a ∈ ls) (h : ∀ s x, x ≠ a → R s (f s x)) (s : State) :
    ∃ u, R s u ∧ R (f u a) (ls.foldl f s) := by
  have others (xs : List α) (hx : a ∉ xs) (s : State) : R s (xs.foldl f s) := by
    induction xs generalizing s with
    | nil => exact refl s
    | cons x xs ih =>
      rw [List.mem_cons, not_or] at hx
      exact trans (h s x (Ne.symm hx.1)) (ih hx.2 _)
  obtain ⟨xs, ys, rfl⟩ := List.append_of_mem ha
  rw [List.nodup_append] at hn
  obtain ⟨-, hy, disjoint⟩ := hn
  refine ⟨xs.foldl f s, others xs (fun e => disjoint a e a (by simp) rfl) s, ?_⟩
  rw [List.foldl_append, List.foldl_cons]
  exact others ys (List.nodup_cons.1 hy).1 _

theorem Elsewhere.split {f : State → LineNo → State} {ls : List LineNo} (hn : ls.Nodup) (hl : l ∈ ls)
    (h : ∀ s x, x ≠ l → Elsewhere l s (f s x)) (s : State) :
    ∃ u, Elsewhere l s u ∧ Elsewhere l (f u l) (ls.foldl f s) :=
  foldl_split (Elsewhere l) (.refl l) (fun h k => h.trans k) hn hl h s

theorem elsewhere_moveLine (hx : x ≠ l) (s : State) (new : LineState) (c : LineCause) :
    Elsewhere l s (s.moveLine x new c) := (does_moveLine_only s x new c).elsewhere hx

theorem removeLine_spkAssigned (cause : ConnectCause) (h : s.spkAssigned) : (s.removeLine l cause).spkAssigned := by
  intro c hc k hk
  rw [removeLine_conns] at hc
  rw [(does_removeLine_only (l := l) cause).assign]
  exact h c (List.mem_filter.1 hc).1 k hk

theorem makeLineMonitors_spkAssigned (h : s.spkAssigned) : (s.makeLineMonitors l).spkAssigned := by
  intro c hc k hk
  rw [makeLineMonitors_conns, List.mem_append] at hc
  rw [(does_makeLineMonitors_only (l := l)).assign]
  obtain hc | hc := hc
  · exact h c hc k hk
  · obtain ⟨p, c, due, rfl⟩ := mem_dueRecords.1 hc
    obtain rfl := Place.spk.inj hk
    exact (monitorDue_eq_some.1 due).1

theorem elsewhere_removeLine (hx : x ≠ l) (s : State) (cause : ConnectCause) : Elsewhere l s (s.removeLine x cause) := by
  refine ⟨(does_removeLine_only cause).mono fun k hk => ?_, ?_, removeLine_spkAssigned cause⟩
  · cases k <;> first | exact hk | exact fun e => hx (hk.symm.trans e)
  · unfold State.lineConns
    rw [removeLine_conns, List.filter_filter]
    refine List.filter_congr fun c _ => ?_
    by_cases e : c.line = l
    · simp [e, Ne.symm hx]
    · simp [e]

theorem elsewhere_makeLineMonitors (hx : x ≠ l) (s : State) : Elsewhere l s (s.makeLineMonitors x) := by
  refine ⟨does_makeLineMonitors_only.mono fun k hk => ?_, ?_, makeLineMonitors_spkAssigned⟩
  · cases k <;> first | exact hk | exact fun e => hx (hk.symm.trans e)
  · unfold State.lineConns
    have none : (s.dueRecords x).filter (fun c => c.line = l) = [] :=
      filter_line_eq_nil l fun c hc => by rw [dueRecords_line hc]; exact hx
    rw [makeLineMonitors_conns, List.filter_append, none, List.append_nil]

theorem elsewhere_evaluate (hx : x ≠ l) (s : State) (c : LineCause) : Elsewhere l s (s.evaluate x c) := by
  have move (new : LineState) := elsewhere_moveLine hx s new c
  unfold State.evaluate
  exact .ite _ ((move .fault).trans (elsewhere_removeLine hx _ _))
    (.ite _ (move _) (.ite _ (move _) (.ite _ (move _) (.refl l s))))

/-- A place assigned to a line without connections is free. -/
theorem connAt_none_of_assigned (h : s.spkAssigned) (hc : s.lineConns l = []) {p : PosNo} {c : SpkNo}
    (ha : s.assign p c = .line l) : s.connAt p (.spk c) = none := by
  unfold State.connAt
  rw [List.find?_eq_none]
  intro x hx
  simp only [Bool.and_eq_true, decide_eq_true_eq]
  rintro ⟨rfl, hp⟩
  have on := h x hx c hp
  rw [ha] at on
  have : x ∈ s.lineConns l := mem_lineConns.2 ⟨hx, (Assign.line.inj on).symm⟩
  rw [hc] at this
  cases this

end

theorem sorted_insertLine {ls : List LineNo} (h : ls.Pairwise (· < ·)) (l : LineNo) : (insertLine l ls).Pairwise (· < ·) := by
  induction ls with
  | nil => simp [insertLine]
  | cons x xs ih =>
    obtain ⟨head, tail⟩ := List.pairwise_cons.1 h
    unfold insertLine
    split
    · next lt => exact List.pairwise_cons.2 ⟨fun y hy => (List.mem_cons.1 hy).elim (· ▸ lt) fun hy => lt.trans (head y hy), h⟩
    · split
      · exact h
      · next le ne =>
        refine List.pairwise_cons.2 ⟨fun y hy => ?_, ih tail⟩
        obtain rfl | hy := mem_insertLine.1 hy
        · exact lt_of_le_of_ne (not_lt.1 le) (Ne.symm ne)
        · exact head y hy

theorem nodup_foldl_insertLine (ls : List LineNo) : (ls.foldl (fun acc l => insertLine l acc) []).Nodup := by
  have sorted (acc : List LineNo) (h : acc.Pairwise (· < ·)) :
      (ls.foldl (fun acc l => insertLine l acc) acc).Pairwise (· < ·) := by
    induction ls generalizing acc with
    | nil => exact h
    | cons l ls ih => exact ih _ (sorted_insertLine h l)
  exact (sorted [] .nil).imp ne_of_lt

/-! ### Hold release (O18) -/

/-- R89, R193: the shelf released, its generators started, before its lines are evaluated. -/
def State.started (s : State) : State :=
  let r := ({ s with mga := { s.mga with phase := .running } } : State).raise .switchingReleased
  { r with cdu := r.cdu.release }

theorem releaseShelf_eq {s : State} (h : s.mga.phase = .held) : s.releaseShelf = s.started.evaluateAll.makeAllMonitors :=
  if_pos h

section
variable {s : State} {l : LineNo}

theorem started_line : s.started.line l = s.line l := by simp [State.started, State.line]

theorem started_conns : s.started.cxm = s.cxm := by simp [State.started]

theorem started_running : s.started.running = true := by
  have phase : s.started.mga.phase = .running :=
    (calm_raise ({ s with mga := { s.mga with phase := .running } } : State) .switchingReleased).mga.same.phase
  simp [State.running, phase]

theorem faultCondition_congr {t : State} (hl : t.line l = s.line l) (hp : t.lif = s.lif) :
    t.faultCondition l = s.faultCondition l := by
  unfold State.faultCondition State.portUp State.port
  rw [hl, hp]

theorem faultExitState_congr {t : State} (hl : t.line l = s.line l) (hg : t.gtu = s.gtu) :
    t.faultExitState l = s.faultExitState l := by
  unfold State.faultExitState State.group
  rw [hl, hg]

theorem started_lif : s.started.lif = s.lif := by simp [State.started]

theorem started_gtu : s.started.gtu = s.gtu := by simp [State.started]

/-- R8: the record of a line without connections after its evaluation. -/
def State.rested (s : State) (l : LineNo) : LineRec :=
  if s.faultCondition l then (s.line l).enter .fault
  else if s.faultExitState l = .idle then s.line l else (s.line l).enter (s.faultExitState l)

theorem evaluate_rested (c : LineCause) (hc : s.lineConns l = []) : (s.evaluate l c).line l = s.rested l := by
  unfold State.rested
  split
  · next hf => rw [evaluate_fault hf hc, moveLine_line]
  · next hf =>
    rw [evaluate_eq (by simpa using hf), evaluated_of_empty hc]
    split
    · rfl
    · rw [moveLine_line]

theorem does_evaluate_only (c : LineCause) (hc : s.lineConns l = []) : Does (recordOf l) s (s.evaluate l c) := by
  by_cases hf : s.faultCondition l = true
  · rw [evaluate_fault hf hc]; exact does_moveLine_only _ _ _ _
  · rw [evaluate_eq (by simpa using hf), evaluated_of_empty hc]
    exact Does.ite _ .refl (does_moveLine_only _ _ _ _)

theorem Elsewhere.rested {t : State} (h : Elsewhere l s t) : t.rested l = s.rested l := by
  simp only [State.rested, h.line, faultCondition_congr h.line h.does.lif, faultExitState_congr h.line h.does.gtu]

/-- R26: the evaluation at hold release, where no line has a connection. -/
theorem evaluateAll_line (hc : s.cxm.conns = []) :
    s.evaluateAll.line l = (if (s.line l).state = .disabled then s.line l else s.rested l) ∧ s.evaluateAll.lineConns l = [] := by
  have none : s.lineConns l = [] := by simp [State.lineConns, hc]
  have other (t : State) (x : LineNo) (hx : x ≠ l) : Elsewhere l t (t.evaluate x .release) := elsewhere_evaluate hx t _
  unfold State.evaluateAll
  split
  · next h =>
    have e : Elsewhere l s (((List.finRange 512).filter fun l => (s.line l).state ≠ .disabled).foldl
        (fun t x => t.evaluate x .release) s) :=
      .foldl _ _ (fun t x hx => other t x fun e => by simp [e, h] at hx) s
    exact ⟨e.line, e.conns.trans none⟩
  · next h =>
    obtain ⟨u, before, after⟩ := Elsewhere.split (l := l) (f := fun t x => t.evaluate x .release)
      (ls := (List.finRange 512).filter fun l => (s.line l).state ≠ .disabled)
      ((List.nodup_finRange 512).filter _) (by simp [h]) other s
    have free := before.conns.trans none
    refine ⟨?_, ?_⟩
    · rw [after.line, evaluate_rested _ free, before.rested]
    · rw [after.conns, lineConns_congr _ _ (does_evaluate_only _ free).conns, free]

theorem does_evaluateAll {K : Touch → Prop} (h : Calls K fun _ => True) (s : State) : Does K s s.evaluateAll :=
  Does.foldl _ _ (fun s _ _ => does_evaluate (h.one trivial) s _) s

/-- Every line that a monitor is called for. -/
def State.dueLines (s : State) : List LineNo :=
  (speakerPlaces.filterMap (fun pc => s.monitorDue pc.1 pc.2)).foldl (fun acc l => insertLine l acc) []

theorem mem_speakerPlaces (p : PosNo) (c : SpkNo) : (p, c) ∈ speakerPlaces := by
  simp only [speakerPlaces, List.mem_map, List.mem_finRange, true_and]
  refine ⟨⟨8 * p.val + c.val, by omega⟩, Prod.ext (Fin.ext ?_) (Fin.ext ?_)⟩
  · show (8 * p.val + c.val) / 8 = p.val
    omega
  · show (8 * p.val + c.val) % 8 = c.val
    omega

theorem mem_dueLines : l ∈ s.dueLines ↔ ∃ p c, s.monitorDue p c = some l := by
  simp only [State.dueLines, mem_foldl_insertLine, List.not_mem_nil, or_false, List.mem_filterMap, Prod.exists]
  exact ⟨fun ⟨p, c, _, h⟩ => ⟨p, c, h⟩, fun ⟨p, c, h⟩ => ⟨p, c, mem_speakerPlaces p c, h⟩⟩

theorem makeAllMonitors_eq : s.makeAllMonitors = s.dueLines.foldl State.makeLineMonitors s := rfl

/-- R70: a line without connections, when the monitors of every line are made. -/
structure Restored (s : State) (l : LineNo) (t : State) : Prop where
  conns : ∀ x, x ∈ t.lineConns l ↔ x.line = l ∧ x.talk = false ∧ x.joined = s.now ∧
    ∃ c, x.place = .spk c ∧ s.monitorDue x.pos c = some l
  still : t.lineConns l = [] → t.line l = s.line l
  state : t.lineConns l ≠ [] → (t.line l).state = if (s.line l).cfg.kind.isWire then .active else (s.line l).state

theorem mem_dueRecords_iff {x : Conn} : x ∈ s.dueRecords l ↔ x.line = l ∧ x.talk = false ∧ x.joined = s.now ∧
    ∃ c, x.place = .spk c ∧ s.monitorDue x.pos c = some l := by
  rw [mem_dueRecords]
  constructor
  · rintro ⟨p, c, h, rfl⟩
    exact ⟨rfl, rfl, rfl, c, rfl, h⟩
  · rintro ⟨rfl, ht, hj, c, hp, h⟩
    refine ⟨x.pos, c, h, ?_⟩
    cases x
    simp_all

theorem Elsewhere.reported {t : State} (h : Elsewhere l s t) (rep : s.reported l) : t.reported l := by
  unfold State.reported
  rw [h.line, totalsNow_congr _ _ h.conns]
  exact rep

/-- Calls elsewhere leave the monitors that are called for on a line without connections. -/
theorem Elsewhere.monitorDue {t : State} (h : Elsewhere l s t) (ha : s.spkAssigned) (hc : s.lineConns l = [])
    (p : PosNo) (c : SpkNo) : t.monitorDue p c = some l ↔ s.monitorDue p c = some l := by
  have free : s.assign p c = .line l → (t.connAt p (.spk c) = none ↔ s.connAt p (.spk c) = none) := fun e =>
    iff_of_true (connAt_none_of_assigned (h.assigned ha) (h.conns.trans hc) (by rw [h.does.assign]; exact e))
      (connAt_none_of_assigned ha hc e)
  simp only [monitorDue_eq_some, h.does.assign, h.does.running, h.does.online, h.line]
  exact ⟨fun ⟨e, a, b, c, d, f⟩ => ⟨e, a, b, c, d, (free e).1 f⟩, fun ⟨e, a, b, c, d, f⟩ => ⟨e, a, b, c, d, (free e).2 f⟩⟩

theorem makeAllMonitors_restored (run : s.running = true) (ha : s.spkAssigned) (rep : s.reported l) (hc : s.lineConns l = [])
    (hs : (s.line l).cfg.kind.isWire = true → (s.line l).state = .disabled ∨ (s.line l).state = .fault ∨
      (s.line l).state = .idle ∨ (s.line l).state = .ringingIn) : Restored s l s.makeAllMonitors := by
  rw [makeAllMonitors_eq]
  by_cases hl : l ∈ s.dueLines
  · obtain ⟨u, before, after⟩ := Elsewhere.split (f := State.makeLineMonitors) (ls := s.dueLines)
      (nodup_foldl_insertLine _) hl
      (fun t x hx => elsewhere_makeLineMonitors hx t) s
    have free : u.lineConns l = [] := before.conns.trans hc
    have conns : (s.dueLines.foldl State.makeLineMonitors s).lineConns l = u.dueRecords l := by
      rw [after.conns, makeLineMonitors_lineConns, free, List.nil_append]
    have due : ∃ p c, u.monitorDue p c = some l := by
      obtain ⟨p, c, h⟩ := mem_dueLines.1 hl
      exact ⟨p, c, (before.monitorDue ha hc p c).2 h⟩
    obtain ⟨p, c, due⟩ := due
    have some : u.dueRecords l ≠ [] := List.ne_nil_of_mem (mem_dueRecords.2 ⟨p, c, due, rfl⟩)
    obtain ⟨-, -, -, notDisabled, notFault, -⟩ := monitorDue_eq_some.1 due
    refine ⟨fun x => ?_, fun h => absurd (conns.symm.trans h) some, fun _ => ?_⟩
    · rw [conns, mem_dueRecords_iff, before.does.now]
      simp only [before.monitorDue ha hc]
    · rw [after.line, makeLineMonitors_state (by rw [before.does.running]; exact run) (before.reported rep) free ?_ some,
        before.line]
      rw [before.line] at notDisabled notFault ⊢
      intro hw
      exact ((hs hw).resolve_left notDisabled).resolve_left notFault
  · have e : Elsewhere l s (s.dueLines.foldl State.makeLineMonitors s) :=
      .foldl _ _ (fun t x hx => elsewhere_makeLineMonitors (fun h : x = l => hl (h ▸ hx)) t) s
    have empty : (s.dueLines.foldl State.makeLineMonitors s).lineConns l = [] := e.conns.trans hc
    refine ⟨fun x => ?_, fun _ => e.line, fun h => absurd empty h⟩
    rw [empty]
    simp only [List.not_mem_nil, false_iff]
    rintro ⟨-, -, -, c, -, h⟩
    exact hl (mem_dueLines.2 ⟨x.pos, c, h⟩)

end

/-! #### The obligation -/

section
variable {s : State} {l : LineNo} (rest : AtRest s)
include rest

theorem AtRest.started_conns : s.started.cxm.conns = [] := by rw [Machine.started_conns]; exact rest.conns

theorem AtRest.evaluated_conns : s.started.evaluateAll.cxm.conns = [] := by
  rw [List.eq_nil_iff_forall_not_mem]
  intro c hc
  have : c ∈ s.started.evaluateAll.lineConns c.line := mem_lineConns.2 ⟨hc, rfl⟩
  rw [(evaluateAll_line rest.started_conns).2] at this
  cases this

omit rest in
theorem started_rested : s.started.rested l = s.rested l := by
  simp only [State.rested, started_line, faultCondition_congr started_line started_lif,
    faultExitState_congr started_line started_gtu]

theorem AtRest.evaluated_line : s.started.evaluateAll.line l =
    if (s.line l).state = .disabled then s.line l else s.rested l := by
  rw [(evaluateAll_line rest.started_conns).1, started_line, started_rested]

theorem AtRest.evaluated_state (hw : (s.line l).cfg.kind.isWire = true) :
    (s.started.evaluateAll.line l).state = .disabled ∨ (s.started.evaluateAll.line l).state = .fault ∨
      (s.started.evaluateAll.line l).state = .idle ∨ (s.started.evaluateAll.line l).state = .ringingIn := by
  rw [rest.evaluated_line]
  split
  · next h => exact .inl h
  · next h =>
    have idle := (rest.line l).1.1.resolve_left h
    unfold State.rested
    split
    · exact .inr (.inl rfl)
    · split
      · exact .inr (.inr (.inl idle))
      · next ne => exact .inr (.inr (.inr ((faultExitState_wire hw).resolve_left ne)))

/-- R26, R70: every line at the end of a hold release. -/
theorem AtRest.restored (rep : s.reported l) :
    Restored s.started.evaluateAll l s.started.evaluateAll.makeAllMonitors := by
  have calls : Does (callsOn fun _ => True) s.started s.started.evaluateAll := does_evaluateAll (calls_callsOn _) _
  refine makeAllMonitors_restored (calls.running.trans started_running) ?_ ?_ (evaluateAll_line rest.started_conns).2 ?_
  · intro c hc
    rw [rest.evaluated_conns] at hc
    cases hc
  · refine Squares.foldl _ (fun s l => squares_evaluate s l _) _ _ l ?_
    exact Squares.of_eq (by simp [State.started]) (by simp [State.started]) l rep
  · intro hw
    rw [calls.cfg, started_line] at hw
    exact rest.evaluated_state hw

end

/-- Settles O18: the generators start, each line is evaluated alone, and each line's monitors are made once. -/
theorem holdReleaseStartsTheBlocks : Obligations.HoldReleaseStartsTheBlocks := by
  intro tag s sv
  have taken : exec (.holdRelease tag) s = .next (s.releaseShelf.respond 12 tag .ok []) := by
    rw [exec_takes sv.awake (.holdRelease tag) trivial]
    exact congrArg _ (request_serving sv 12 tag State.judgeHoldRelease)
  refine ⟨fun ph quiet rep => ?_, fun ph => ?_⟩
  · have rest := (quietUnlessRunning_iff s).1 quiet (by rw [ph]; nofun)
    have toEval : Does (callsOn fun _ => True) s.started s.started.evaluateAll := does_evaluateAll (calls_callsOn _) _
    have toEnd : Does (callsOn fun _ => True) s.started s.started.evaluateAll.makeAllMonitors :=
      toEval.trans (does_makeAllMonitors (calls_callsOn _) _)
    have raised := (calm_raise ({ s with mga := { s.mga with phase := .running } } : State) .switchingReleased).mga.same
    have restored (l : LineNo) := rest.restored (rep l)
    have evaluated (l : LineNo) (hs : (s.line l).state = .idle) : s.started.evaluateAll.line l = s.rested l := by
      rw [rest.evaluated_line, if_neg (by rw [hs]; nofun)]
    have disabled (l : LineNo) (hs : (s.line l).state = .disabled) : s.started.evaluateAll.line l = s.line l := by
      rw [rest.evaluated_line, if_pos hs]
    rw [releaseShelf_eq ph] at taken
    have startedRaised : Mga.Same { s.mga with phase := .running } s.started.mga := raised
    have startedPsc : s.started.psc = s.psc := by simp [State.started]
    have startedMix : s.started.mix = s.mix := by simp [State.started]
    have startedCdu : s.started.cdu = s.cdu.release := by simp [State.started]
    have empty := rest.evaluated_conns
    have startedLine (l : LineNo) : s.started.line l = s.line l := started_line
    generalize s.started.evaluateAll.makeAllMonitors = w at *
    generalize s.started.evaluateAll = v at *
    have same := startedRaised.trans toEnd.mga.same
    have assign (p : PosNo) (c : SpkNo) : v.assign p c = s.assign p c := by
      unfold State.assign
      rw [toEval.psc, startedPsc]
    have online (p : PosNo) : v.online p = s.online p := by
      unfold State.online State.portUp State.port
      rw [toEval.lif, started_lif]
    have running : v.running = true := toEval.running.trans started_running
    have now : v.now = s.cdu.clock := by
      unfold State.now
      rw [toEval.cdu, startedCdu]
      rfl
    have rested (l : LineNo) (hf : s.faultCondition l = false) : s.rested l =
        if s.faultExitState l = .idle then s.line l else (s.line l).enter (s.faultExitState l) := by
      rw [State.rested, hf]
      rfl
    have member (l : LineNo) (x : Conn) (hx : x ∈ w.lineConns l) : ∃ c, x.place = .spk c ∧ v.monitorDue x.pos c = some l := by
      obtain ⟨-, -, -, c, place, due⟩ := ((restored l).conns x).1 hx
      exact ⟨c, place, due⟩
    refine ⟨_, taken, same.phase, ?_, toEnd.lif.trans started_lif, ?_, ?_, toEnd.gtu.trans started_gtu, ?_, fun n => ?_,
      fun l hs => ?_, fun l hs => ⟨?_, ?_, fun hf => ?_, fun hf hk => ?_, fun hf hw hc => ?_, fun hf hw hc => ?_⟩,
      fun l p c hs hf on ha => ?_, fun x hx => ?_⟩
    · show w.mga.responses ++ _ = _
      rw [same.responses, same.overrun]
    · exact toEnd.psc.trans startedPsc
    · exact toEnd.mix.trans startedMix
    · exact (congrArg Cdu.clock (toEnd.cdu.trans startedCdu)).trans rfl
    · rw [State.respond_gen, State.gen, toEnd.cdu, startedCdu]
      simp only [Cdu.release, Fin.getElem_fin, Vector.getElem_map]
      rfl
    · have none : w.lineConns l = [] := by
        rw [List.eq_nil_iff_forall_not_mem]
        intro x hx
        obtain ⟨c, -, due⟩ := member l x hx
        exact (monitorDue_eq_some.1 due).2.2.2.1 (by rw [disabled l hs]; exact hs)
      rw [State.respond_line, (restored l).still none, disabled l hs]
    · rw [State.respond_line, toEnd.cfg, startedLine]
    · rw [State.respond_line, toEnd.lineFar, startedLine]
    · have entered : v.line l = (s.line l).enter .fault := by rw [evaluated l hs, State.rested, hf]; rfl
      have none : w.lineConns l = [] := by
        rw [List.eq_nil_iff_forall_not_mem]
        intro x hx
        obtain ⟨c, -, due⟩ := member l x hx
        exact (monitorDue_eq_some.1 due).2.2.2.2.1 (by rw [entered]; rfl)
      rw [State.respond_line, (restored l).still none, entered]
      exact ⟨rfl, rfl, none⟩
    · have wire : (v.line l).cfg.kind.isWire = false := by rw [toEval.cfg, startedLine, hk]; rfl
      have exit : s.faultExitState l = if (s.group (s.line l).cfg.group).cfg.enabled then .active else .idle := by
        unfold State.faultExitState
        simp only [hk]
      have state : (v.line l).state = s.faultExitState l := by
        rw [evaluated l hs, rested l hf]
        split
        · next e => rw [hs, e]
        · rfl
      rw [State.respond_line, ← exit, ← state]
      by_cases none : w.lineConns l = []
      · rw [(restored l).still none]
      · rw [(restored l).state none, wire]
        rfl
    · have wire : (v.line l).cfg.kind.isWire = true := by rw [toEval.cfg, startedLine, hw]
      rw [State.respond_line, (restored l).state hc, wire]
      rfl
    · rw [State.respond_line, (restored l).still hc, evaluated l hs, rested l hf]
      have leg : (s.line l).cfg.kind ≠ .hootLeg := fun e => by rw [e] at hw; exact absurd hw (by decide)
      have exit : s.faultExitState l = if offHook (s.line l).far then .ringingIn else .idle := by
        rw [faultExitState_eq]
        simp [hw, leg]
      refine ⟨fun far => ?_, fun far => ?_⟩
      · simp [exit, far, offHook, hs]
      · have off : offHook (s.line l).far = true := by rcases far with h | h <;> simp [h, offHook]
        simp [exit, off, LineRec.enter, Timer.start]
    · have line : v.line l = s.rested l := evaluated l hs
      have up : (v.line l).state ≠ .disabled ∧ (v.line l).state ≠ .fault := by
        rw [line, rested l hf]
        split
        · rw [hs]; exact ⟨nofun, nofun⟩
        · exact (faultExitState_up s l).symm
      have due : v.monitorDue p c = some l :=
        monitorDue_eq_some.2 ⟨(assign p c).trans ha, running, (online p).trans on, up.1, up.2, by
          rw [State.connAt, empty, List.find?_nil]⟩
      have made : _ ∈ w.lineConns l := ((restored l).conns
        { line := l, pos := p, place := .spk c, talk := false, joined := s.cdu.clock }).2 ⟨rfl, rfl, now.symm, c, rfl, due⟩
      exact (mem_lineConns.1 made).1
    · obtain ⟨c, place, due⟩ := member x.line x (mem_lineConns.2 ⟨hx, rfl⟩)
      exact ⟨c, place, (assign x.pos c).symm.trans (monitorDue_eq_some.1 due).1⟩
  · rw [taken]
    simp [State.releaseShelf, ph]

end Sys2Proof.Machine

namespace Sys2Proof.Machine

/-! ### The expiries of one line among those of a step (O22) -/

section
variable {s t u : State} {l x : LineNo}

theorem elsewhere_setTimers (hx : x ≠ l) (s : State) (a b c d : Timer) (m : Bool) :
    Elsewhere l s (s.setLine x { s.line x with ring := a, answer := b, hang := c, guard := d, faultClear := m }) :=
  Does.elsewhere ((Update.timers s x a b c d m).does rfl) hx

theorem elsewhere_clearLineConns (hx : x ≠ l) (s : State) (c : ConnectCause) : Elsewhere l s (s.clearLineConns x c) := by
  unfold State.clearLineConns
  exact .ite _ (.refl l s) ((elsewhere_removeLine hx s c).trans (elsewhere_makeLineMonitors hx _))

theorem elsewhere_testExit (hx : x ≠ l) (s : State) (c : LineCause) : Elsewhere l s (s.testExit x c) := by
  unfold State.testExit State.exitFault
  exact .ite _ ((elsewhere_moveLine hx s _ c).trans (elsewhere_makeLineMonitors hx _)) (.refl l s)

theorem elsewhere_lineExpiries (hx : x ≠ l) (r : LineRec) (s : State) : Elsewhere l s (State.lineExpiries r s x) := by
  have ring (s : State) : Elsewhere l s (s.ringExpiry x) := by
    unfold State.ringExpiry
    exact .ite _ (elsewhere_moveLine hx s _ _) (.refl l s)
  have answer (s : State) : Elsewhere l s (s.answerExpiry x) := by
    unfold State.answerExpiry
    exact .ite _ ((elsewhere_setTimers hx s _ _ _ _ _).trans (elsewhere_clearLineConns hx _ _)) (.refl l s)
  have hang (s : State) : Elsewhere l s (s.hangExpiry x) := by
    unfold State.hangExpiry
    exact .ite _ (elsewhere_moveLine hx s _ _) (.refl l s)
  have guard (s : State) : Elsewhere l s (s.guardExpiry x) := by
    unfold State.guardExpiry
    exact .ite _ ((elsewhere_setTimers hx s _ _ _ _ _).trans (elsewhere_testExit hx _ _)) (.refl l s)
  have whole (p q v w : Bool) : Elsewhere l s
      (let s := if p then s.ringExpiry x else s
       let s := if q then s.answerExpiry x else s
       let s := if v then s.hangExpiry x else s
       if w then s.guardExpiry x else s) :=
    (((Elsewhere.ite _ (ring s) (.refl l s)).trans (.ite _ (answer _) (.refl l _))).trans
      (.ite _ (hang _) (.refl l _))).trans (.ite _ (guard _) (.refl l _))
  exact whole _ _ _ _

/-! #### What the calls of one line depend on -/

/-- Two states that agree on what the calls of line `l` depend on, but for the line's own record. -/
structure Around (l : LineNo) (s t : State) : Prop where
  psc : t.psc = s.psc
  lif : t.lif = s.lif
  gtu : t.gtu = s.gtu
  now : t.now = s.now
  running : t.running = s.running
  conns : t.lineConns l = s.lineConns l
  privacy : t.cxm.privacy[l] = s.cxm.privacy[l]

theorem Around.trans (h : Around l s t) (k : Around l t u) : Around l s u :=
  ⟨k.psc.trans h.psc, k.lif.trans h.lif, k.gtu.trans h.gtu, k.now.trans h.now, k.running.trans h.running,
    k.conns.trans h.conns, k.privacy.trans h.privacy⟩

theorem Elsewhere.around (h : Elsewhere l s t) : Around l s t :=
  ⟨h.does.psc, h.does.lif, h.does.gtu, h.does.now, h.does.running, h.conns, h.does.privacy l fun hn => hn rfl⟩

theorem Does.around {K : Touch → Prop} (h : Does K s t) (hp : ¬ K .psc := by exact id) (hg : ¬ K .gtu := by exact id)
    (hc : ¬ K .conns := by exact id) (hv : ¬ K (.privacy l) := by exact id) : Around l s t :=
  ⟨h.psc hp, h.lif, h.gtu hg, h.now, h.running, lineConns_congr _ _ (h.conns hc), h.privacy l hv⟩

theorem Around.assign (h : Around l s t) (p : PosNo) (c : SpkNo) : t.assign p c = s.assign p c := by
  unfold State.assign
  rw [h.psc]

theorem Around.online (h : Around l s t) (p : PosNo) : t.online p = s.online p := by
  unfold State.online State.portUp State.port
  rw [h.lif]

/-- R70: the monitors that are called for on a line without connections. -/
theorem Around.dueRecords (h : Around l s t) (hl : (t.line l).state = (s.line l).state) (ha : s.spkAssigned)
    (ha' : t.spkAssigned) (hc : s.lineConns l = []) : t.dueRecords l = s.dueRecords l := by
  have due (p : PosNo) (c : SpkNo) (e : s.assign p c = .line l) : t.monitorDue p c = s.monitorDue p c := by
    have e' : t.assign p c = .line l := (h.assign p c).trans e
    unfold State.monitorDue
    rw [e, e']
    dsimp only
    rw [h.running, h.online, hl, connAt_none_of_assigned ha hc e,
      connAt_none_of_assigned ha' (h.conns.trans hc) e']
  have places : t.placesOf l = s.placesOf l := by
    unfold State.placesOf
    simp only [h.assign]
  unfold State.dueRecords
  rw [places]
  refine List.filterMap_congr fun pc hpc => ?_
  unfold State.monitorRecord
  rw [due _ _ (mem_placesOf.1 hpc), h.now]

/-- R9 to R13: what a report makes of a line depends on the line alone. -/
theorem connectionEvent_line_congr (hl : t.line l = s.line l) (old new : Totals) :
    (t.connectionEvent l old new).line l = (s.connectionEvent l old new).line l := by
  unfold State.connectionEvent
  rw [hl]
  cases (s.line l).state
  case disabled => exact hl
  case fault => exact hl
  all_goals
    dsimp only
    split_ifs <;> simp only [moveLine_line, clearLine_line, hl]

theorem report_line_congr (hl : t.line l = s.line l) (hc : t.lineConns l = s.lineConns l) (hr : t.running = s.running) :
    (t.report l).line l = (s.report l).line l := by
  have totals : t.totalsNow l = s.totalsNow l := totalsNow_congr _ _ hc
  rw [report_eq, report_eq, hl, totals, hr]
  split
  · exact connectionEvent_line_congr (by simp only [State.setLine_line_self]) _ _
  · simp only [State.setLine_line_self]

/-- R70: the monitors of a line without connections, made in two states that agree around the line. -/
theorem makeLineMonitors_congr (h : Around l s t) (hl : t.line l = s.line l) (ha : s.spkAssigned) (ha' : t.spkAssigned)
    (hc : s.lineConns l = []) : (t.makeLineMonitors l).line l = (s.makeLineMonitors l).line l ∧
      (t.makeLineMonitors l).lineConns l = (s.makeLineMonitors l).lineConns l := by
  have due := h.dueRecords (by rw [hl]) ha ha' hc
  refine ⟨?_, by rw [makeLineMonitors_lineConns, makeLineMonitors_lineConns, due, h.conns]⟩
  by_cases hd : s.dueRecords l = []
  · rw [makeLineMonitors_still hd, makeLineMonitors_still (due.trans hd), hl]
  · rw [makeLineMonitors_eq hd, makeLineMonitors_eq (by rwa [due]), notify_line, notify_line]
    refine report_line_congr (t := t.joined l) (s := s.joined l) hl ?_ h.running
    rw [joined_lineConns, joined_lineConns, due, h.conns]

/-! #### The expiries in two states that agree around the line -/

theorem removeLine_privacy_eq (cause : ConnectCause) :
    (s.removeLine l cause).cxm.privacy[l] = if s.bridge l = [] then s.cxm.privacy[l] else false := by
  split
  · next hb =>
    by_cases hc : s.lineConns l = []
    · rw [removeLine_still cause hc]
    · have none : (s.cxm.conns.filter (fun c => c.line = l)).filter (fun c => c.place.isHandset) = [] := hb
      rw [removeLine_eq cause hc, notify_privacy]
      unfold State.dropConns
      rw [none]
      rfl
  · next hb => exact removeLine_privacy cause hb

theorem makeLineMonitors_demand (h : s.demand l = false) : (s.makeLineMonitors l).demand l = false := by
  by_cases hd : s.dueRecords l = []
  · rwa [makeLineMonitors_still hd]
  · rw [makeLineMonitors_eq hd, notify_demand]
    split
    · rfl
    · exact h

/-- What a line keeps of its record when it enters a state of rest or of ringing. -/
theorem enter_congr {r q : LineRec} (cfg : q.cfg = r.cfg) (far : q.far = r.far) (totals : q.totals = r.totals)
    {new : LineState} (hn : new = .idle ∨ new = .ringingIn) : q.enter new = r.enter new := by
  rcases hn with rfl | rfl <;> simp [LineRec.enter, LineState.isUp, cfg, far, totals]

theorem callCleared_spkAssigned (h : s.spkAssigned) : (s.callCleared l).spkAssigned :=
  removeLine_spkAssigned (s := s.unanswered l) _ h

theorem callCleared_demand (hc : s.lineConns l ≠ []) : (s.callCleared l).demand l = false :=
  removeLine_demand (s := s.unanswered l) _ hc

theorem Around.callCleared (h : Around l s t) : Around l (s.callCleared l) (t.callCleared l) := by
  have a : Does (callsOn (· = l)) s (s.callCleared l) := does_callCleared
  have b : Does (callsOn (· = l)) t (t.callCleared l) := does_callCleared
  have bridge : t.bridge l = s.bridge l := by
    unfold State.bridge
    rw [h.conns]
  refine ⟨?_, ?_, ?_, ?_, ?_, ?_, ?_⟩
  · rw [b.psc, a.psc, h.psc]
  · rw [b.lif, a.lif, h.lif]
  · rw [b.gtu, a.gtu, h.gtu]
  · rw [b.now, a.now, h.now]
  · rw [b.running, a.running, h.running]
  · rw [callCleared_lineConns, callCleared_lineConns]
  · have left (u : State) : (u.callCleared l).cxm.privacy[l] = if u.bridge l = [] then u.cxm.privacy[l] else false :=
      removeLine_privacy_eq (s := u.unanswered l) .callTimeout
    rw [left, left, bridge, h.privacy]

/-- R12: the expiry of the answer timer of a call, in two states that agree around the line. -/
theorem answerExpiry_congr (h : Around l s t) (run : s.running = true) (ha : s.spkAssigned) (ha' : t.spkAssigned) (rep : s.reported l)
    (rep' : t.reported l) (hc : s.lineConns l ≠ []) (hs : (s.line l).state = .callingOut)
    (hs' : (t.line l).state = .callingOut) (hw : (s.line l).cfg.kind.isWire = true)
    (hr : (s.line l).answer.isRunning = true) (hr' : (t.line l).answer.isRunning = true)
    (cfg : (t.line l).cfg = (s.line l).cfg) (far : (t.line l).far = (s.line l).far) :
    (t.answerExpiry l).line l = (s.answerExpiry l).line l ∧
      (t.answerExpiry l).lineConns l = (s.answerExpiry l).lineConns l ∧
      (t.answerExpiry l).cxm.privacy[l] = (s.answerExpiry l).cxm.privacy[l] ∧
      (t.answerExpiry l).demand l = (s.answerExpiry l).demand l := by
  have hc' : t.lineConns l ≠ [] := by rwa [h.conns]
  have hw' : (t.line l).cfg.kind.isWire = true := by rwa [cfg]
  have run' : t.running = true := h.running.trans run
  have around := h.callCleared
  have totals : (t.callCleared l).totalsNow l = (s.callCleared l).totalsNow l := totalsNow_congr _ _ around.conns
  have line : (t.callCleared l).line l = (s.callCleared l).line l := by
    rw [callCleared_line run rep hc hw hs, callCleared_line run' rep' hc' hw' hs', far]
    refine enter_congr (r := { s.line l with answer := .expired, totals := (s.callCleared l).totalsNow l })
      (q := { t.line l with answer := .expired, totals := (t.callCleared l).totalsNow l }) cfg far totals ?_
    cases offHook (s.line l).far
    · exact .inl rfl
    · exact .inr rfl
  obtain ⟨after, conns⟩ := makeLineMonitors_congr around line (callCleared_spkAssigned ha) (callCleared_spkAssigned ha')
    callCleared_lineConns
  rw [answerExpiry_eq run hs hr hc, answerExpiry_eq run' hs' hr' hc']
  refine ⟨after, conns, ?_, ?_⟩
  · rw [makeLineMonitors_privacy, makeLineMonitors_privacy, around.privacy]
  · rw [makeLineMonitors_demand (callCleared_demand hc'), makeLineMonitors_demand (callCleared_demand hc)]

/-- R20: the exit from FAULT, in two states that agree around the line. -/
theorem exitFault_congr (h : Around l s t) (hl : t.line l = s.line l) (ha : s.spkAssigned) (ha' : t.spkAssigned)
    (hc : s.lineConns l = []) (c : LineCause) :
    (t.exitFault l c).line l = (s.exitFault l c).line l ∧ (t.exitFault l c).lineConns l = (s.exitFault l c).lineConns l := by
  have exit : t.faultExitState l = s.faultExitState l := faultExitState_congr hl h.gtu
  have moved (u : State) (new : LineState) : Does (recordOf l) u (u.moveLine l new c) := does_moveLine_only u l new c
  have around : Around l (s.moveLine l (s.faultExitState l) c) (t.moveLine l (s.faultExitState l) c) := by
    refine ⟨?_, ?_, ?_, ?_, ?_, ?_, ?_⟩
    · rw [(moved _ _).psc, (moved _ _).psc, h.psc]
    · rw [(moved _ _).lif, (moved _ _).lif, h.lif]
    · rw [(moved _ _).gtu, (moved _ _).gtu, h.gtu]
    · rw [(moved _ _).now, (moved _ _).now, h.now]
    · rw [(moved _ _).running, (moved _ _).running, h.running]
    · rw [lineConns_congr _ _ (moved _ _).conns, lineConns_congr _ _ (moved _ _).conns, h.conns]
    · rw [(moved _ _).privacy l, (moved _ _).privacy l, h.privacy]
  have line : (t.moveLine l (s.faultExitState l) c).line l = (s.moveLine l (s.faultExitState l) c).line l := by
    rw [moveLine_line, moveLine_line, hl]
  unfold State.exitFault
  rw [exit]
  exact makeLineMonitors_congr around line (spkAssigned_congr (moved _ _).conns (moved _ _).psc ha)
    (spkAssigned_congr (moved _ _).conns (moved _ _).psc ha') (by rw [lineConns_congr _ _ (moved _ _).conns]; exact hc)

/-- R19: the expiry of the guard timer of a line in FAULT, in two states that agree around the line. -/
theorem guardExpiry_congr (h : Around l s t) (hl : t.line l = s.line l) (ha : s.spkAssigned) (ha' : t.spkAssigned)
    (hc : s.lineConns l = []) (run : s.running = true) (hs : (s.line l).state = .fault)
    (hr : (s.line l).guard.isRunning = true) :
    (t.guardExpiry l).line l = (s.guardExpiry l).line l ∧ (t.guardExpiry l).lineConns l = (s.guardExpiry l).lineConns l := by
  have run' : t.running = true := h.running.trans run
  have around : Around l (s.guardExpired l) (t.guardExpired l) :=
    ⟨h.psc, h.lif, h.gtu, h.now, h.running, h.conns, h.privacy⟩
  have line : (t.guardExpired l).line l = (s.guardExpired l).line l := by rw [guardExpired_line, guardExpired_line, hl]
  have state : ((s.guardExpired l).line l).state = .fault := by rw [guardExpired_line]; exact hs
  have guard : ((s.guardExpired l).line l).guard = .expired := by rw [guardExpired_line]
  rw [guardExpiry_eq run hs hr, guardExpiry_eq run' (by rw [hl]; exact hs) (by rw [hl]; exact hr)]
  by_cases hm : ((s.guardExpired l).line l).cfg.faultMode = .follow ∨ ((s.guardExpired l).line l).faultClear = true
  · rw [testExit_leaves state guard hm, testExit_leaves (by rw [line]; exact state) (by rw [line]; exact guard)
      (by rw [line]; exact hm)]
    exact exitFault_congr around line ha ha' hc .guard
  · have stays : ((s.guardExpired l).line l).cfg.faultMode = .latched ∧ ((s.guardExpired l).line l).faultClear = false := by
      rw [not_or, Bool.not_eq_true] at hm
      refine ⟨?_, hm.2⟩
      cases hf : ((s.guardExpired l).line l).cfg.faultMode
      · exact absurd hf hm.1
      · rfl
    rw [testExit_stays (.inr (.inr stays)), testExit_stays (.inr (.inr (by rw [line]; exact stays)))]
    exact ⟨line, h.conns⟩

/-- R20: a line that has left FAULT does not come back to it by its monitors. -/
theorem connectionEvent_fault (old new : Totals) (h : (s.line l).state ≠ .fault) :
    ((s.connectionEvent l old new).line l).state ≠ .fault := by
  have clear (c : LineCause) : ((s.clearLine l c).line l).state ≠ .fault := by
    rw [clearLine_line]
    cases offHook (s.line l).far <;> nofun
  have move (new : LineState) (c : LineCause) (hn : new ≠ .fault) : ((s.moveLine l new c).line l).state ≠ .fault := by
    rw [moveLine_line]
    exact hn
  unfold State.connectionEvent
  cases hs : (s.line l).state
  case disabled => rw [hs]; nofun
  case fault => exact absurd hs h
  case idle =>
    dsimp only
    split_ifs
    exacts [h, move _ _ nofun, move _ _ nofun, move _ _ nofun]
  case ringingIn =>
    dsimp only
    split_ifs
    exacts [move _ _ nofun, h]
  case unanswered =>
    dsimp only
    split_ifs
    exacts [move _ _ nofun, h]
  case callingOut =>
    dsimp only
    split_ifs
    exacts [clear _, clear _, h]
  case active =>
    dsimp only
    split_ifs
    exacts [clear _, move _ _ nofun, h]
  case held =>
    dsimp only
    split_ifs
    exacts [clear _, move _ _ nofun, h]

theorem makeLineMonitors_fault (h : (s.line l).state ≠ .fault) : ((s.makeLineMonitors l).line l).state ≠ .fault := by
  by_cases hd : s.dueRecords l = []
  · rwa [makeLineMonitors_still hd]
  · rw [makeLineMonitors_eq hd, notify_line, report_eq]
    split
    · exact connectionEvent_fault _ _ (by rw [State.setLine_line_self]; exact h)
    · rw [State.setLine_line_self]; exact h

theorem exitFault_fault (c : LineCause) : ((s.exitFault l c).line l).state ≠ .fault :=
  makeLineMonitors_fault (by rw [moveLine_line]; exact (faultExitState_up s l).1)

end

/-! #### One line at a cadence step -/

section
variable {s : State} {l : LineNo}

/-- R6: every running timer of every line counts. -/
def State.ticked (s : State) : State := { s with lnc := { s.lnc with lines := s.lnc.lines.map LineRec.tick } }

theorem does_ticked (s : State) : Does (· = .ticks) s s.ticked := (Update.ticks s).does rfl

theorem ticked_line : s.ticked.line l = (s.line l).tick := by simp [State.ticked, State.line]

theorem lineTimers_eq : s.lineTimers =
    ((List.finRange 512).filter fun x => (s.line x).anyDue).foldl (fun t x => State.lineExpiries (s.line x) t x) s.ticked :=
  rfl

/-- R6: a line with a due timer when its turn comes at a step. -/
structure Reached (l : LineNo) (s : State) (es : List CgNo) (u t : State) : Prop where
  around : Around l s.clocked u
  assigned : s.spkAssigned → u.spkAssigned
  line : u.line l = ((s.line l).endBurst es).tick
  after : t.line l = (State.lineExpiries ((s.line l).endBurst es) u l).line l
  conns : t.lineConns l = (State.lineExpiries ((s.line l).endBurst es) u l).lineConns l
  privacy : t.cxm.privacy[l] = (State.lineExpiries ((s.line l).endBurst es) u l).cxm.privacy[l]
  demand : t.demand l = (State.lineExpiries ((s.line l).endBurst es) u l).demand l

/-- The footprint of the generators at a step. -/
def gensOnly : Touch → Prop
  | .gens => True
  | .bursts => True
  | _ => False

theorem does_stepGens_only (s : State) : Does gensOnly s s.stepGens := does_stepGens trivial trivial s

/-- The footprint of what follows LNC's timers at a step. -/
def consoleAndTalk : Touch → Prop
  | .psc => True
  | .gtu => True
  | .recording => True
  | _ => False

theorem does_afterTimers (s : State) : Does consoleAndTalk s s.denialSteps.talkTimeouts :=
  Does.trans (t := s.denialSteps) ((Update.psc _ _).does trivial) (does_timeoutStep trivial trivial _ _)

theorem cadenceStep_reaches (run : s.running = true) (hd : (s.line l).anyDue = true) :
    ∃ es u, Reached l s es u s.cadenceStep := by
  have line : s.clocked.stepGens.line l = (s.line l).endBurst (s.spread 15 s.wrapping) := stepGens_line s.clocked l
  have gens : Does gensOnly s.clocked s.clocked.stepGens := does_stepGens_only _
  have ticks : Does (· = .ticks) s.clocked.stepGens s.clocked.stepGens.ticked := does_ticked _
  have after : Does consoleAndTalk s.clocked.stepGens.lineTimers s.clocked.stepGens.lineTimers.denialSteps.talkTimeouts :=
    does_afterTimers _
  obtain ⟨u, before, behind⟩ := Elsewhere.split (l := l)
    (f := fun t x => State.lineExpiries (s.clocked.stepGens.line x) t x)
    (ls := (List.finRange 512).filter fun x => (s.clocked.stepGens.line x).anyDue)
    ((List.nodup_finRange 512).filter _)
    (by rw [List.mem_filter, line, endBurst_anyDue]; exact ⟨List.mem_finRange l, hd⟩)
    (fun t x hx => elsewhere_lineExpiries hx _ t) s.clocked.stepGens.ticked
  rw [← lineTimers_eq, line] at behind
  rw [cadenceStep_running run]
  refine ⟨s.spread 15 s.wrapping, u, ?_, ?_, ?_, ?_, ?_, ?_, ?_⟩
  · exact (gens.around.trans (ticks.around (by simp) (by simp) (by simp) (by simp))).trans before.around
  · intro h
    exact before.assigned (spkAssigned_congr (s := s.clocked) ((ticks.conns (by simp)).trans gens.conns)
      ((ticks.psc (by simp)).trans gens.psc) h)
  · rw [before.line, ticked_line, line]
  · rw [after.line l id, behind.line]
  · rw [lineConns_congr _ _ after.conns, behind.conns]
  · rw [after.privacy l, behind.does.privacy l fun h => h rfl]
  · rw [after.demand l, behind.does.demand l fun h => h rfl]

/-- The end of a burst leaves the timers and the mark. -/
theorem endBurst_timers (es : List CgNo) (r : LineRec) : (r.endBurst es).ring = r.ring ∧ (r.endBurst es).answer = r.answer ∧
    (r.endBurst es).hang = r.hang ∧ (r.endBurst es).guard = r.guard ∧ (r.endBurst es).faultClear = r.faultClear := by
  unfold LineRec.endBurst
  split
  · split <;> exact ⟨rfl, rfl, rfl, rfl, rfl⟩
  · exact ⟨rfl, rfl, rfl, rfl, rfl⟩

theorem tick_of_due {t : Timer} (h : t.due = true) : t.tick = t ∧ t.isRunning = true := by
  cases t with
  | running n =>
    have le : n ≤ 1 := of_decide_eq_true h
    exact ⟨if_pos le, rfl⟩
  | stopped => cases h
  | expired => cases h

section
variable {es : List CgNo} {u t : State} (r : Reached l s es u t)
include r

theorem Reached.state : (u.line l).state = (s.line l).state := by
  rw [r.line]
  exact endBurst_state es _

theorem Reached.cfg : (u.line l).cfg = (s.line l).cfg := by
  rw [r.line]
  exact endBurst_cfg es _

theorem Reached.far : (u.line l).far = (s.line l).far := by
  rw [r.line]
  exact endBurst_far es _

theorem Reached.totals : (u.line l).totals = (s.line l).totals := by
  rw [r.line]
  exact endBurst_totals es _

theorem Reached.timers : (u.line l).ring = (s.line l).ring.tick ∧ (u.line l).answer = (s.line l).answer.tick ∧
    (u.line l).hang = (s.line l).hang.tick ∧ (u.line l).guard = (s.line l).guard.tick := by
  obtain ⟨ring, answer, hang, guard, -⟩ := endBurst_timers es (s.line l)
  rw [r.line]
  simp only [LineRec.tick, ring, answer, hang, guard, and_self]

theorem Reached.running (run : s.running = true) : u.running = true := r.around.running.trans run

end

/-- The expiries of a line at its turn, by the timers that are due. -/
theorem lineExpiries_of_due {u : State} {es : List CgNo} {ring answer hang guard : Bool} (hr : (s.line l).ring.due = ring)
    (ha : (s.line l).answer.due = answer) (hh : (s.line l).hang.due = hang) (hg : (s.line l).guard.due = guard) :
    State.lineExpiries ((s.line l).endBurst es) u l =
      (let u := if ring then u.ringExpiry l else u
       let u := if answer then u.answerExpiry l else u
       let u := if hang then u.hangExpiry l else u
       if guard then u.guardExpiry l else u) := by
  obtain ⟨er, ea, eh, eg, -⟩ := endBurst_timers es (s.line l)
  simp only [State.lineExpiries, er, ea, eh, eg, hr, ha, hh, hg]

theorem anyDue_of {r : LineRec} (h : r.ring.due = true ∨ r.answer.due = true ∨ r.hang.due = true ∨ r.guard.due = true) :
    r.anyDue = true := by
  rcases h with h | h | h | h <;> simp [LineRec.anyDue, h]

theorem due_of_stopped {t : Timer} (h : t = .stopped) : t.due = false := by
  rw [h]
  rfl

theorem tick_of_stopped {t : Timer} (h : t = .stopped) : t.tick = t := by
  rw [h]
  rfl

/-- R10: a ring timer at its last step. -/
theorem cadenceStep_ring (run : s.running = true) (hs : (s.line l).state = .ringingIn) (hr : (s.line l).ring = .running 1)
    (ha : (s.line l).answer = .stopped) (hh : (s.line l).hang.due = false) (hg : (s.line l).guard = .stopped) :
    (s.cadenceStep.line l).state = .unanswered ∧ (s.cadenceStep.line l).ring = .stopped ∧
      (s.cadenceStep.line l).hang = (s.line l).hang.tick := by
  have due : (s.line l).ring.due = true := by rw [hr]; rfl
  obtain ⟨es, u, r⟩ := cadenceStep_reaches run (anyDue_of (.inl due))
  obtain ⟨ring, -, hang, -⟩ := r.timers
  have running : (u.line l).ring.isRunning = true := by rw [ring, (tick_of_due due).1, hr]; rfl
  rw [r.after, lineExpiries_of_due due (due_of_stopped ha) hh (due_of_stopped hg)]
  simp only [if_true, Bool.false_eq_true, if_false]
  rw [ringExpiry_eq (r.running run) (r.state.trans hs) running, moveLine_line]
  exact ⟨rfl, rfl, hang⟩

/-- R11: a hang timer at its last step. -/
theorem cadenceStep_hang (run : s.running = true) (hs : (s.line l).state = .ringingIn ∨ (s.line l).state = .unanswered)
    (hh : (s.line l).hang.due = true) (hr : (s.line l).ring.due = false) (ha : (s.line l).answer.due = false)
    (hg : (s.line l).guard.due = false) :
    s.cadenceStep.line l = (s.clocked.hangExpiry l).line l ∧ ((s.clocked.hangExpiry l).line l).state = .idle := by
  obtain ⟨es, u, r⟩ := cadenceStep_reaches run (anyDue_of (.inr (.inr (.inl hh))))
  obtain ⟨-, -, hang, -⟩ := r.timers
  obtain ⟨still, running⟩ := tick_of_due hh
  have here : (s.clocked.hangExpiry l).line l = (s.line l).enter .idle := by
    rw [hangExpiry_eq (s := s.clocked) run ((LineState.isRinging_iff _).2 hs) running, moveLine_line]
    rfl
  rw [here, r.after, lineExpiries_of_due hr ha hh hg]
  simp only [if_true, Bool.false_eq_true, if_false]
  rw [hangExpiry_eq (r.running run) ((LineState.isRinging_iff _).2 (by rw [r.state]; exact hs))
    (by rw [hang, still]; exact running), moveLine_line]
  exact ⟨enter_congr r.cfg r.far r.totals (.inl rfl), rfl⟩

theorem spkAssigned_of_lawful (law : s.connectionsLawful) : s.spkAssigned := law.2.2.1

/-- R12: an answer timer at its last step. -/
theorem cadenceStep_answer (run : s.running = true) (law : s.connectionsLawful) (rep : s.reported l)
    (hs : (s.line l).state = .callingOut) (hw : (s.line l).cfg.kind.isWire = true) (hc : s.lineConns l ≠ [])
    (ha : (s.line l).answer.due = true) (hr : (s.line l).ring.due = false) (hh : (s.line l).hang.due = false)
    (hg : (s.line l).guard.due = false) :
    s.cadenceStep.line l = (s.clocked.answerExpiry l).line l ∧
      s.cadenceStep.lineConns l = (s.clocked.answerExpiry l).lineConns l ∧
      s.cadenceStep.cxm.privacy[l] = (s.clocked.answerExpiry l).cxm.privacy[l] ∧
      s.cadenceStep.demand l = (s.clocked.answerExpiry l).demand l := by
  obtain ⟨es, u, r⟩ := cadenceStep_reaches run (anyDue_of (.inr (.inl ha)))
  obtain ⟨-, answer, -, -⟩ := r.timers
  obtain ⟨still, running⟩ := tick_of_due ha
  have assigned := spkAssigned_of_lawful law
  have rep' : u.reported l := by
    unfold State.reported
    rw [r.totals, totalsNow_congr _ _ r.around.conns]
    exact rep
  rw [r.after, r.conns, r.privacy, r.demand, lineExpiries_of_due hr ha hh hg]
  simp only [if_true, Bool.false_eq_true, if_false]
  exact answerExpiry_congr (s := s.clocked) r.around run assigned (r.assigned assigned) rep rep' hc hs
    (r.state.trans hs) hw running (by rw [answer, still]; exact running) r.cfg r.far

/-- R19: a guard timer at its last step. -/
theorem cadenceStep_guard (run : s.running = true) (law : s.connectionsLawful) (hs : (s.line l).state = .fault)
    (hg : (s.line l).guard.due = true) (hr : (s.line l).ring = .stopped) (ha : (s.line l).answer = .stopped)
    (hh : (s.line l).hang = .stopped) (hb : (s.line l).ringPending = none) :
    s.cadenceStep.line l = (s.clocked.guardExpiry l).line l ∧
      s.cadenceStep.lineConns l = (s.clocked.guardExpiry l).lineConns l := by
  obtain ⟨es, u, r⟩ := cadenceStep_reaches run (anyDue_of (.inr (.inr (.inr hg))))
  obtain ⟨still, running⟩ := tick_of_due hg
  have assigned := spkAssigned_of_lawful law
  obtain ⟨-, -, -, -, faultFree, -⟩ := law
  have line : u.line l = s.line l := by
    rw [r.line, LineRec.endBurst_of_none es hb, LineRec.tick, tick_of_stopped hr, tick_of_stopped ha,
      tick_of_stopped hh, still]
  rw [r.after, r.conns, lineExpiries_of_due (due_of_stopped hr) (due_of_stopped ha) (due_of_stopped hh) hg]
  simp only [if_true, Bool.false_eq_true, if_false]
  exact guardExpiry_congr (s := s.clocked) r.around line assigned (r.assigned assigned) (faultFree l (.inl hs)) run hs running

end

end Sys2Proof.Machine

namespace Sys2Proof.Machine

/-! ### Talk groups at a cadence step (O22) -/

/-! #### Channels that stay bound -/

theorem Does.rcu {K : Touch → Prop} {s t : State} (h : Does K s t) (hK : ¬ K .recording := by exact id) : t.rcu = s.rcu :=
  h.reads State.rcu State.raise_rcu fun _ _ _ hk hu => by cases hu <;> first | exact absurd hk hK | rfl

/-- R147: channel `c` is bound to target `x`. -/
def State.binds (s : State) (c : ChanNo) (x : Target) : Prop :=
  (s.chan c).state.isBound = true ∧ (s.chan c).target = some x

/-- The channels bound to a target stay bound to it. -/
structure KeepsBound (x : Target) (s t : State) : Prop where
  mode : t.rcu.mode = s.rcu.mode
  binds : ∀ c, s.binds c x → t.binds c x

section
variable {s t u : State} {x y : Target}

theorem KeepsBound.trans (h : KeepsBound x s t) (k : KeepsBound x t u) : KeepsBound x s u :=
  ⟨k.mode.trans h.mode, fun c hc => k.binds c (h.binds c hc)⟩

theorem KeepsBound.of_eq (mode : t.rcu.mode = s.rcu.mode) (chans : t.rcu.chans = s.rcu.chans) : KeepsBound x s t :=
  ⟨mode, fun c hc => by simpa only [State.binds, State.chan, chans] using hc⟩

theorem KeepsBound.refl (x : Target) (s : State) : KeepsBound x s s := .of_eq rfl rfl

theorem KeepsBound.of_rcu (h : t.rcu = s.rcu) : KeepsBound x s t := .of_eq (by rw [h]) (by rw [h])

theorem KeepsBound.ite {a b : State} (p : Prop) [Decidable p] (h : KeepsBound x s a) (k : KeepsBound x s b) :
    KeepsBound x s (if p then a else b) := by
  split
  · exact h
  · exact k

theorem KeepsBound.foldl {α : Type} (f : State → α → State) (ls : List α) (h : ∀ s, ∀ a ∈ ls, KeepsBound x s (f s a))
    (s : State) : KeepsBound x s (ls.foldl f s) := by
  induction ls generalizing s with
  | nil => exact .refl x s
  | cons a ls ih => exact (h s a (by simp)).trans (ih (fun s b hb => h s b (by simp [hb])) _)

/-- R147: a target that some channel is bound to. -/
theorem boundChan_isSome : (s.boundChan x).isSome = true ↔ ∃ c ∈ s.channels, s.binds c x := by
  simp only [State.boundChan, List.find?_isSome, State.binds, Bool.and_eq_true, decide_eq_true_eq]

theorem KeepsBound.boundChan (h : KeepsBound x s t) (hs : (s.boundChan x).isSome = true) : (t.boundChan x).isSome = true := by
  rw [boundChan_isSome] at hs ⊢
  obtain ⟨c, hc, hb⟩ := hs
  refine ⟨c, ?_, h.binds c hb⟩
  simpa only [State.channels, h.mode] using hc

/-- A change of a channel that is not bound to `x`. -/
theorem keepsBound_setChan (c : ChanNo) (r : Chan) (h : ¬ s.binds c x) : KeepsBound x s (s.setChan c r) := by
  refine ⟨rfl, fun d hd => ?_⟩
  have ne : c ≠ d := fun e => h (e ▸ hd)
  unfold State.binds
  rw [State.setChan_chan_ne _ _ ne]
  exact hd

theorem keepsBound_raiseRunning (s : State) (o : Occurrence) : KeepsBound x s (s.raiseRunning o) :=
  .of_rcu (State.raiseRunning_rcu s o)

theorem KeepsBound.raised (h : KeepsBound x s t) (o : Occurrence) : KeepsBound x s (t.raiseRunning o) :=
  h.trans (keepsBound_raiseRunning t o)

theorem allocatable_stopped {c : ChanNo} (h : s.allocatable = some c) : (s.chan c).state = .stopped := by
  unfold State.allocatable at h
  split at h
  · unfold State.lowestStopped at h
    have found := List.find?_some (p := fun c => decide ((s.chan c).state = .stopped)) h
    exact of_decide_eq_true found
  · cases h

theorem not_binds_of_stopped {c : ChanNo} (h : (s.chan c).state = .stopped) : ¬ s.binds c x := fun ⟨hb, _⟩ => by
  rw [h] at hb
  cases hb

theorem keepsBound_bindTo {c : ChanNo} (h : s.allocatable = some c) (y : Target) (cause : RecordCause) :
    KeepsBound x s (s.bindTo c y cause) := by
  unfold State.bindTo
  refine KeepsBound.raised ?_ _
  exact (keepsBound_setChan c _ (not_binds_of_stopped (allocatable_stopped h))).trans (.of_eq (by rfl) (by rfl))

theorem keepsBound_rankChange (s : State) (y : Target) (r : Rank) : KeepsBound x s (s.rankChange y r) := by
  unfold State.rankChange
  refine .ite _ (.refl x s) (.trans (t := { s with rcu := { s.rcu with
    waiting := s.rcu.waiting.map (fun e => if e.target = y then { e with rank := r } else e) } }) (.of_eq rfl rfl) ?_)
  exact .ite _ (keepsBound_raiseRunning _ _) (.refl x _)

theorem keepsBound_needsRecording (s : State) (y : Target) (r : Rank) : KeepsBound x s (s.needsRecording y r) := by
  unfold State.needsRecording
  refine .ite _ (keepsBound_rankChange s y r) ?_
  split
  · next c hc => exact keepsBound_bindTo hc y .need
  · unfold State.joinWaitList
    exact .trans (t := { s with rcu := { s.rcu with
      waiting := s.rcu.waiting ++ [{ target := y, rank := r, number := s.rcu.entryCount + 1 }]
      entryCount := s.rcu.entryCount + 1 } }) (.of_eq rfl rfl) (keepsBound_raiseRunning _ _)

theorem keepsBound_noLongerNeeds (s : State) (hy : y ≠ x) : KeepsBound x s (s.noLongerNeeds y) := by
  unfold State.noLongerNeeds
  split
  · next c hc =>
    have target : (s.chan c).target = some y := by
      have := List.find?_some hc
      simp only [Bool.and_eq_true, decide_eq_true_eq] at this
      exact this.2
    exact (keepsBound_setChan c _ fun ⟨_, hx⟩ => hy (Option.some.inj (target.symm.trans hx))).trans
      (keepsBound_raiseRunning _ _)
  · exact .of_eq rfl rfl

theorem keepsBound_setKeptNeed (s : State) (y : Target) (n : Need) : KeepsBound x s (s.setKeptNeed y n) :=
  .of_rcu (State.setKeptNeed_rcu s y n)

theorem keepsBound_ask {t : State} (h : s.ask y = some t) : KeepsBound x s t := by
  unfold State.ask at h
  split at h
  · next c hc =>
    obtain rfl := Option.some.inj h
    exact (keepsBound_bindTo hc y .admission).trans (keepsBound_setKeptNeed _ y .mandatory)
  · cases h

/-- R141: a trigger of PRS leaves the channels of the targets that it does not name. -/
theorem keepsBound_reResolve (s : State) (ts : List Target) (hx : x ∉ ts) : KeepsBound x s (s.reResolve ts) := by
  have named (cs : List NeedChange) (f : State → NeedChange → State) (hcs : ∀ c ∈ cs, c.target ≠ x)
      (hf : ∀ s c, c.target ≠ x → KeepsBound x s (f s c)) (s : State) : KeepsBound x s (cs.foldl f s) :=
    .foldl f cs (fun s c hc => hf s c (hcs c hc)) s
  have targets (f : Target → NeedChange) (hf : ∀ t, (f t).target = t) : ∀ c ∈ ts.map f, c.target ≠ x := by
    intro c hc
    obtain ⟨t, ht, rfl⟩ := List.mem_map.1 hc
    rw [hf t]
    exact fun e => hx (e ▸ ht)
  have stops (s : State) (c : NeedChange) (hc : c.target ≠ x) : KeepsBound x s (s.passStop c) := by
    unfold State.passStop
    exact .ite _ ((keepsBound_setKeptNeed s _ _).trans (keepsBound_noLongerNeeds _ hc)) (.refl x s)
  have ranks (s : State) (c : NeedChange) (_ : c.target ≠ x) : KeepsBound x s (s.passRank c) := by
    unfold State.passRank
    split
    · exact (keepsBound_setKeptNeed s _ _).trans (keepsBound_rankChange _ _ _)
    · exact (keepsBound_setKeptNeed s _ _).trans (keepsBound_rankChange _ _ _)
    · exact .refl x s
  have starts (s : State) (c : NeedChange) (_ : c.target ≠ x) : KeepsBound x s (s.passStart c) := by
    unfold State.passStart
    split
    · exact (keepsBound_setKeptNeed s _ _).trans (keepsBound_needsRecording _ _ _)
    · exact (keepsBound_setKeptNeed s _ _).trans (keepsBound_needsRecording _ _ _)
    · exact .refl x s
  have all := targets (fun t => { target := t, old := s.keptNeed t, new := s.needNow t }) fun _ => rfl
  exact ((named _ _ all stops s).trans (named _ _ all ranks _)).trans (named _ _ all starts _)

end

/-! #### The calls of lines leave the channels of groups -/

section
variable {s : State} {l : LineNo} {g : GroupNo}

theorem keepsBound_noticeLines (s : State) (ls : List LineNo) : KeepsBound (.group g) s (s.noticeLines ls) := by
  have demands : Does (fun k => ∃ l, k = .demand l) s (ls.foldl State.clearDemand s) :=
    Does.foldl _ _ (fun s l _ => Does.ite _ ((Update.demand s l false).does ⟨l, rfl⟩) .refl) s
  unfold State.noticeLines
  exact .trans (.of_rcu (demands.rcu (by simp))) (keepsBound_reResolve _ _ (by simp))

theorem keepsBound_notify (s : State) (rs ns : List LineNo) : KeepsBound (.group g) s (s.notify rs ns) := by
  have reports : Does (fun k => ∃ l, k = .line l) s (rs.foldl State.report s) :=
    Does.foldl _ _ (fun s l _ => does_report s l ⟨l, rfl⟩) s
  unfold State.notify
  exact .trans (.of_rcu (reports.rcu (by simp))) (keepsBound_noticeLines _ _)

theorem keepsBound_removeLine (s : State) (l : LineNo) (c : ConnectCause) :
    KeepsBound (.group g) s (s.removeLine l c) := by
  unfold State.removeLine State.removeConns
  exact .ite _ (.refl _ s) (.trans (.of_rcu (does_dropConns_table s _ _).rcu) (keepsBound_notify _ _ _))

theorem keepsBound_makeLineMonitors (s : State) (l : LineNo) : KeepsBound (.group g) s (s.makeLineMonitors l) := by
  by_cases h : s.dueRecords l = []
  · rw [makeLineMonitors_still h]
    exact .refl _ s
  · rw [makeLineMonitors_eq h]
    exact .trans (t := s.joined l) (.of_rcu rfl) (keepsBound_notify _ _ _)

theorem keepsBound_recordOf {t : State} (h : Does (recordOf l) s t) : KeepsBound (.group g) s t := .of_rcu h.rcu

theorem keepsBound_lineExpiries (r : LineRec) (s : State) (l : LineNo) :
    KeepsBound (.group g) s (State.lineExpiries r s l) := by
  have move (s : State) (new : LineState) (c : LineCause) : KeepsBound (.group g) s (s.moveLine l new c) :=
    keepsBound_recordOf (does_moveLine_only s l new c)
  have ring (s : State) : KeepsBound (.group g) s (s.ringExpiry l) := by
    unfold State.ringExpiry
    exact .ite _ (move _ _ _) (.refl _ s)
  have answer (s : State) : KeepsBound (.group g) s (s.answerExpiry l) := by
    unfold State.answerExpiry State.clearLineConns
    exact .ite _ (.trans (t := s.unanswered l) (.of_rcu rfl) (.ite _ (.refl _ _)
      ((keepsBound_removeLine _ l _).trans (keepsBound_makeLineMonitors _ l)))) (.refl _ s)
  have hang (s : State) : KeepsBound (.group g) s (s.hangExpiry l) := by
    unfold State.hangExpiry
    exact .ite _ (move _ _ _) (.refl _ s)
  have guard (s : State) : KeepsBound (.group g) s (s.guardExpiry l) := by
    unfold State.guardExpiry State.testExit State.exitFault
    exact .ite _ (.trans (t := s.guardExpired l) (.of_rcu rfl) (.ite _
      ((move _ _ _).trans (keepsBound_makeLineMonitors _ l)) (.refl _ _))) (.refl _ s)
  have whole (p q v w : Bool) : KeepsBound (.group g) s
      (let s := if p then s.ringExpiry l else s
       let s := if q then s.answerExpiry l else s
       let s := if v then s.hangExpiry l else s
       if w then s.guardExpiry l else s) :=
    (((KeepsBound.ite _ (ring s) (.refl _ s)).trans (.ite _ (answer _) (.refl _ _))).trans
      (.ite _ (hang _) (.refl _ _))).trans (.ite _ (guard _) (.refl _ _))
  exact whole _ _ _ _

theorem keepsBound_lineTimers (s : State) : KeepsBound (.group g) s s.lineTimers := by
  rw [lineTimers_eq]
  exact .trans (t := s.ticked) (.of_rcu rfl) (.foldl _ _ (fun t x _ => keepsBound_lineExpiries _ t x) _)

end

/-! #### One group among those of a step -/

/-- What the timeout of a group depends on, left as it was. -/
structure OtherGroup (g : GroupNo) (s t : State) : Prop where
  group : t.group g = s.group g
  modes : t.recordMode = s.recordMode
  now : t.now = s.now
  bound : KeepsBound (.group g) s t

section
variable {s t u : State} {g x : GroupNo}

theorem OtherGroup.refl (g : GroupNo) (s : State) : OtherGroup g s s := ⟨rfl, rfl, rfl, .refl _ s⟩

theorem OtherGroup.trans (h : OtherGroup g s t) (k : OtherGroup g t u) : OtherGroup g s u :=
  ⟨k.group.trans h.group, k.modes.trans h.modes, k.now.trans h.now, h.bound.trans k.bound⟩

theorem OtherGroup.foldl {α : Type} (f : State → α → State) (ls : List α) (h : ∀ s, ∀ a ∈ ls, OtherGroup g s (f s a))
    (s : State) : OtherGroup g s (ls.foldl f s) := by
  induction ls generalizing s with
  | nil => exact .refl g s
  | cons a ls ih => exact (h s a (by simp)).trans (ih (fun s b hb => h s b (by simp [hb])) _)

theorem recordMode_of_psc (h : t.psc = s.psc) : t.recordMode = s.recordMode := by
  funext p
  simp only [State.recordMode, State.position, h]

theorem otherGroup_raiseRunning (s : State) (o : Occurrence) : OtherGroup g s (s.raiseRunning o) :=
  ⟨State.raiseRunning_group s o g, recordMode_of_psc (State.raiseRunning_psc s o), State.raiseRunning_now s o,
    keepsBound_raiseRunning s o⟩

theorem otherGroup_setGroup (hx : x ≠ g) (s : State) (r : GroupRec) : OtherGroup g s (s.setGroup x r) :=
  ⟨State.setGroup_group_ne _ _ hx, rfl, rfl, .of_rcu rfl⟩

theorem otherGroup_talkCheck {p : PosNo} (h : s.talkCheck x p = some t) : OtherGroup g s t := by
  have does : Does recordingOnly s t := does_recordingCheck trivial _ _ h
  refine ⟨?_, recordMode_of_psc does.psc, does.now, ?_⟩
  · unfold State.group
    rw [does.gtu]
  · unfold State.talkCheck State.recordingCheck at h
    split_ifs at h
    · exact Option.some.inj h ▸ .refl _ s
    · exact Option.some.inj h ▸ .refl _ s
    · exact keepsBound_ask h

theorem otherGroup_promote (hx : x ≠ g) (s : State) : OtherGroup g s (s.promote x) := by
  refine .foldl _ _ (fun s e _ => ?_) s
  unfold State.promoteEntry
  split
  · split
    · next u hu =>
      exact ((otherGroup_talkCheck hu).trans (otherGroup_setGroup hx u _)).trans (otherGroup_raiseRunning _ _)
    · exact .refl g s
  · exact .refl g s

theorem otherGroup_timeOutGroup (hx : x ≠ g) (s : State) : OtherGroup g s (s.timeOutGroup x) :=
  ((otherGroup_setGroup hx s _).trans (.foldl _ _ (fun s _ _ => otherGroup_raiseRunning s _) _)).trans
    (otherGroup_promote hx _)

/-! #### A group whose recording checks pass without an ask (R117, R121, R122) -/

/-- No recording check of the group fails or asks for a channel. -/
def State.checkFree (s : State) (g : GroupNo) : Prop :=
  (s.boundChan (.group g)).isSome = true ∨ ∀ p : PosNo, s.mandatoryWith g [p] = false

theorem mandatoryWith_one (p : PosNo) : s.mandatoryWith g [p] = false ↔
    (s.group g).cfg.recordCode.combine (s.recordMode p) ≠ .mandatory := by
  simp [State.mandatoryWith, State.recordMode]

theorem checkFree_of {t : State} (cfg : (t.group g).cfg = (s.group g).cfg) (modes : t.recordMode = s.recordMode)
    (bound : KeepsBound (.group g) s t) (h : s.checkFree g) : t.checkFree g := by
  refine h.imp bound.boundChan fun h p => ?_
  rw [mandatoryWith_one, cfg, modes, ← mandatoryWith_one]
  exact h p

/-- R138: the highest of values none of which is MANDATORY. -/
theorem resolveParties_ne_mandatory {code : PolicyCode} {ms : List RecordMode} (hm : ms ≠ [])
    (h : ∀ m ∈ ms, code.combine m ≠ .mandatory) : resolveParties code ms ≠ .mandatory := by
  have higher (ms : List RecordMode) (h : ∀ m ∈ ms, code.combine m ≠ .mandatory) (a : PolicyCode) (ha : a ≠ .mandatory) :
      ms.foldl (fun acc x => acc.higher (code.combine x)) a ≠ .mandatory := by
    induction ms generalizing a with
    | nil => exact ha
    | cons m ms ih =>
      refine ih (fun x hx => h x (by simp [hx])) _ ?_
      show a.higher (code.combine m) ≠ .mandatory
      unfold PolicyCode.higher
      split
      · exact h m (by simp)
      · exact ha
  cases ms with
  | nil => exact absurd rfl hm
  | cons m ms => exact higher ms (fun x hx => h x (by simp [hx])) _ (h m (by simp))

theorem talkCheck_free (h : s.checkFree g) (p : PosNo) : s.talkCheck g p = some s := by
  unfold State.talkCheck State.recordingCheck
  split
  · rfl
  · next hp =>
    rw [not_not] at hp
    refine if_pos (h.resolve_right fun hm => ?_)
    unfold State.groupPolicyOf at hp
    split at hp
    · cases hp
    · refine resolveParties_ne_mandatory (by simp) (fun m hm' => ?_) hp
      obtain ⟨q, -, rfl⟩ := List.mem_map.1 hm'
      exact (mandatoryWith_one q).1 (hm q)

/-- R121: one entry of the walk, where its check passes. -/
def GroupRec.promoteOne (now : Clock) (r : GroupRec) (e : TalkEntry) : GroupRec :=
  if r.talkers.length < r.cfg.talkerLimit then
    { r with waits := r.waits.erase e, talkers := r.talkers ++ [{ e with stamp := now }] }
  else r

/-- R121: the walk of a queue, where every check passes. -/
def GroupRec.promoteAll (now : Clock) (r : GroupRec) : GroupRec := r.waits.foldl (GroupRec.promoteOne now) r

theorem promoteEntry_free (h : s.checkFree g) (e : TalkEntry) :
    (State.promoteEntry g s e).group g = (s.group g).promoteOne s.now e ∧ (State.promoteEntry g s e).now = s.now ∧
      (State.promoteEntry g s e).checkFree g := by
  unfold State.promoteEntry GroupRec.promoteOne
  split
  · rw [talkCheck_free h]
    have own (r : GroupRec) (hr : r.cfg = (s.group g).cfg) (o : Occurrence) : ((s.setGroup g r).raiseRunning o).checkFree g := by
      refine checkFree_of (s := s) ?_ (recordMode_of_psc (by simp)) (.of_rcu (by simp)) h
      rw [State.raiseRunning_group, State.setGroup_group_self, hr]
    refine ⟨?_, ?_, own _ (by rfl) _⟩
    · simp [State.talkEvent]
    · simp [State.talkEvent]
  · exact ⟨rfl, rfl, h⟩

theorem promote_free (h : (s.group g).waits = [] ∨ s.checkFree g) :
    (s.promote g).group g = (s.group g).promoteAll s.now := by
  have walk (es : List TalkEntry) (s : State) (h : s.checkFree g) :
      (es.foldl (State.promoteEntry g) s).group g = es.foldl (GroupRec.promoteOne s.now) (s.group g) := by
    induction es generalizing s with
    | nil => rfl
    | cons e es ih =>
      obtain ⟨group, now, free⟩ := promoteEntry_free h e
      rw [List.foldl_cons, ih _ free, group, now, List.foldl_cons]
  rcases h with h | h
  · simp only [State.promote, GroupRec.promoteAll, h, List.foldl_nil]
  · exact walk _ s h

/-- R122: the talkers of a group past its max_talk. -/
def GroupRec.past (now : Clock) (r : GroupRec) : List TalkEntry :=
  if r.cfg.maxTalk = 0 then [] else r.talkers.filter (fun e => r.cfg.maxTalk * 100 ≤ (now - e.stamp).toNat)

theorem timedOut_eq : s.timedOut g = (s.group g).past s.now := rfl

/-- R122: a group whose talkers past max_talk have left, with their marks. -/
def GroupRec.dismissed (now : Clock) (r : GroupRec) : GroupRec :=
  { r with
    talkers := r.talkers.filter (fun e => !(r.past now).contains e)
    marks := (r.past now).foldl (fun ms e => insertMark e.pos ms) r.marks }

/-- R122: the removals of one group at a step, before its promotion. -/
def State.dismissed (s : State) (g : GroupNo) : State :=
  (s.timedOut g).foldl (fun s e => s.talkEvent .removed g e (some .talkTimeout) false)
    (s.setGroup g ((s.group g).dismissed s.now))

theorem timeOutGroup_eq (s : State) (g : GroupNo) : s.timeOutGroup g = (s.dismissed g).promote g := rfl

theorem dismissed_events : OtherGroup g (s.setGroup g ((s.group g).dismissed s.now)) (s.dismissed g) :=
  .foldl _ _ (fun s _ _ => otherGroup_raiseRunning s _) _

theorem dismissed_group : (s.dismissed g).group g = (s.group g).dismissed s.now := by
  rw [dismissed_events.group, State.setGroup_group_self]

theorem timeOutGroup_free (h : (s.group g).waits = [] ∨ s.checkFree g) :
    (s.timeOutGroup g).group g = ((s.group g).dismissed s.now).promoteAll s.now := by
  have left : OtherGroup g (s.setGroup g ((s.group g).dismissed s.now)) (s.dismissed g) := dismissed_events
  have now : (s.dismissed g).now = s.now := left.now
  rw [timeOutGroup_eq, promote_free, dismissed_group, now]
  rw [dismissed_group]
  refine h.imp id fun h => checkFree_of (s := s) ?_ (left.modes.trans rfl) (.trans (t := s.setGroup g ((s.group g).dismissed s.now))
    (.of_rcu rfl) left.bound) h
  rw [dismissed_group]
  rfl

/-- R122, R126: one group at a timeout step over several. -/
theorem timeoutStep_group {gs : List GroupNo} (hn : gs.Nodup) (hg : g ∈ gs)
    (h : (s.group g).past s.now = [] ∨ (s.group g).waits = [] ∨ s.checkFree g) : (s.timeoutStep gs).group g =
      if (s.group g).past s.now = [] then s.group g else ((s.group g).dismissed s.now).promoteAll s.now := by
  have other (t : State) (x : GroupNo) (hx : x ≠ g) : OtherGroup g t (t.timeOutGroup x) := otherGroup_timeOutGroup hx t
  have notice (t : State) (gs : List GroupNo) : (t.noticeGroups gs).group g = t.group g := by
    have does : Does recordingOnly t (t.noticeGroups gs) := does_noticeGroups trivial t gs
    unfold State.group
    rw [does.gtu]
  unfold State.timeoutStep
  rw [notice]
  split
  · next none =>
    refine (OtherGroup.foldl _ _ (fun t x hx => other t x fun e => ?_) s).group
    simp [e, timedOut_eq, none] at hx
  · next some =>
    obtain ⟨u, before, after⟩ := foldl_split (OtherGroup g) (.refl g) (fun h k => h.trans k)
      (ls := gs.filter fun x => !(s.timedOut x).isEmpty) (hn.filter _)
      (by simp [hg, timedOut_eq, some]) other s
    rw [after.group, timeOutGroup_free, before.group, before.now]
    rw [before.group]
    exact (h.resolve_left some).imp id (checkFree_of (by rw [before.group]) before.modes before.bound)

/-! #### Who talks and who is marked after a timeout -/

theorem mem_insertMark {p q : PosNo} {ms : List PosNo} : p ∈ insertMark q ms ↔ p = q ∨ p ∈ ms := by
  induction ms with
  | nil => simp [insertMark]
  | cons m ms ih =>
    unfold insertMark
    split_ifs with lt eq
    · simp
    · subst eq; simp
    · simp only [List.mem_cons, ih]
      tauto

theorem mem_marks_dismissed {r : GroupRec} {now : Clock} {e : TalkEntry} (h : e ∈ r.past now) :
    e.pos ∈ (r.dismissed now).marks := by
  have marked (es : List TalkEntry) (ms : List PosNo) (h : e ∈ es ∨ e.pos ∈ ms) :
      e.pos ∈ es.foldl (fun ms e => insertMark e.pos ms) ms := by
    induction es generalizing ms with
    | nil => simpa using h
    | cons x es ih =>
      refine ih _ ?_
      rw [mem_insertMark]
      rcases h with h | h
      · rcases List.mem_cons.1 h with rfl | h
        · exact .inr (.inl rfl)
        · exact .inl h
      · exact .inr (.inr h)
  exact marked _ _ (.inl h)

theorem promoteOne_spec (now : Clock) (r : GroupRec) (x : TalkEntry) : (r.promoteOne now x).marks = r.marks ∧
    ∀ e : TalkEntry, e ∈ (r.promoteOne now x).talkers → e ∈ r.talkers ∨ e.stamp = now := by
  unfold GroupRec.promoteOne
  split
  · refine ⟨rfl, fun e he => ?_⟩
    rcases List.mem_append.1 he with he | he
    · exact .inl he
    · exact .inr (by rw [List.mem_singleton.1 he])
  · exact ⟨rfl, fun e he => .inl he⟩

theorem promoteAll_spec (now : Clock) (r : GroupRec) : (r.promoteAll now).marks = r.marks ∧
    ∀ e : TalkEntry, e ∈ (r.promoteAll now).talkers → e ∈ r.talkers ∨ e.stamp = now := by
  have walk (es : List TalkEntry) (r : GroupRec) : (es.foldl (GroupRec.promoteOne now) r).marks = r.marks ∧
      ∀ e : TalkEntry, e ∈ (es.foldl (GroupRec.promoteOne now) r).talkers → e ∈ r.talkers ∨ e.stamp = now := by
    induction es generalizing r with
    | nil => exact ⟨rfl, fun e he => .inl he⟩
    | cons x es ih =>
      obtain ⟨marks, talkers⟩ := promoteOne_spec now r x
      obtain ⟨marks', talkers'⟩ := ih (r.promoteOne now x)
      exact ⟨marks'.trans marks, fun e he => (talkers' e he).elim (talkers e) .inr⟩
  exact walk _ r

/-- R122: a talker past max_talk is no talker after the timeout, and marked. -/
theorem timeOut_spec {r : GroupRec} {now : Clock} {e : TalkEntry} (h : e ∈ r.past now) :
    e ∉ ((r.dismissed now).promoteAll now).talkers ∧ e.pos ∈ ((r.dismissed now).promoteAll now).marks := by
  obtain ⟨marks, talkers⟩ := promoteAll_spec now (r.dismissed now)
  refine ⟨fun he => ?_, by rw [marks]; exact mem_marks_dismissed h⟩
  rcases talkers e he with he | he
  · have := (List.mem_filter.1 he).2
    simp [h] at this
  · unfold GroupRec.past at h
    split at h
    · cases h
    · next nz =>
      have long := of_decide_eq_true (List.mem_filter.1 h).2
      rw [he, BitVec.sub_self] at long
      simp at long
      exact nz long

/-! #### Groups and positions at a cadence step -/

/-- The footprint of LNC's timers. -/
def timersOnly : Touch → Prop
  | .ticks => True
  | k => callsOn (fun _ => True) k

theorem does_lineTimers_only (s : State) : Does timersOnly s s.lineTimers :=
  does_lineTimers ⟨trivial, trivial, fun _ _ => trivial, fun _ _ => trivial, fun _ _ => trivial⟩ trivial s

theorem denialStep_cfg (r : PositionRec) : r.denialStep.cfg = r.cfg ∧ r.denialStep.pressed = r.pressed := by
  unfold PositionRec.denialStep
  split
  · split <;> exact ⟨rfl, rfl⟩
  · exact ⟨rfl, rfl⟩

theorem denialSteps_position (s : State) (p : PosNo) : s.denialSteps.position p = (s.position p).denialStep := by
  simp [State.denialSteps, State.position]

theorem otherGroup_beforeTalk (s : State) (g : GroupNo) :
    OtherGroup g s.clocked s.clocked.stepGens.lineTimers.denialSteps := by
  have gens : Does gensOnly s.clocked s.clocked.stepGens := does_stepGens_only _
  have timers : Does timersOnly s.clocked.stepGens s.clocked.stepGens.lineTimers := does_lineTimers_only _
  have toGens : OtherGroup g s.clocked s.clocked.stepGens :=
    ⟨by unfold State.group; rw [gens.gtu], recordMode_of_psc gens.psc, gens.now, .of_rcu gens.rcu⟩
  have toTimers : OtherGroup g s.clocked.stepGens s.clocked.stepGens.lineTimers :=
    ⟨by unfold State.group; rw [timers.gtu], recordMode_of_psc timers.psc, timers.now, keepsBound_lineTimers _⟩
  have toDenials (u : State) : OtherGroup g u u.denialSteps := by
    refine ⟨rfl, ?_, rfl, .of_rcu rfl⟩
    funext p
    unfold State.recordMode
    rw [denialSteps_position, (denialStep_cfg _).1]
  exact (toGens.trans toTimers).trans (toDenials _)

/-- R122: a group after a cadence step. -/
theorem cadenceStep_group (run : s.running = true)
    (h : (s.group g).past (s.cdu.clock + 1) = [] ∨ (s.group g).waits = [] ∨ s.checkFree g) : s.cadenceStep.group g =
      if (s.group g).past (s.cdu.clock + 1) = [] then s.group g
      else ((s.group g).dismissed (s.cdu.clock + 1)).promoteAll (s.cdu.clock + 1) := by
  have before := otherGroup_beforeTalk s g
  rw [cadenceStep_running run]
  generalize s.clocked.stepGens.lineTimers.denialSteps = d at *
  have group : d.group g = s.group g := before.group
  have now : d.now = s.cdu.clock + 1 := before.now
  have step := timeoutStep_group (s := d) (List.nodup_finRange 64) (List.mem_finRange g) (by
    rw [group, now]
    exact h.imp id (Or.imp id (checkFree_of (s := s) (by rw [group]) before.modes
      (.trans (t := s.clocked) (.of_rcu rfl) before.bound))))
  rw [group, now] at step
  exact step

/-- R122: the timeout of one group at the clock of the step. -/
theorem talkTimeout_group (h : (s.group g).past (s.cdu.clock + 1) = [] ∨ (s.group g).waits = [] ∨ s.checkFree g) :
    (s.clocked.talkTimeout g).group g =
      if (s.group g).past (s.cdu.clock + 1) = [] then s.group g
      else ((s.group g).dismissed (s.cdu.clock + 1)).promoteAll (s.cdu.clock + 1) :=
  timeoutStep_group (s := s.clocked) (List.nodup_singleton g) (List.mem_singleton.2 rfl) h

/-- R43: a position after a cadence step. -/
theorem cadenceStep_position (run : s.running = true) (p : PosNo) : s.cadenceStep.position p = (s.position p).denialStep := by
  have gens : Does gensOnly s.clocked s.clocked.stepGens := does_stepGens_only _
  have timers : Does timersOnly s.clocked.stepGens s.clocked.stepGens.lineTimers := does_lineTimers_only _
  have talk (u : State) : u.talkTimeouts.position p = u.position p := by
    have does : Does talkOnly u u.talkTimeouts := does_timeoutStep trivial trivial u (List.finRange 64)
    unfold State.position
    rw [does.psc]
  have same : s.clocked.stepGens.lineTimers.position p = s.position p := by
    unfold State.position
    rw [timers.psc, gens.psc]
    rfl
  rw [cadenceStep_running run, talk, denialSteps_position, same]

end

/-- R6: a line none of whose timers is due, after a cadence step. -/
theorem cadenceStep_line {s : State} {l : LineNo} (run : s.running = true) (h : (s.line l).anyDue = false) :
    s.cadenceStep.line l = ((s.line l).endBurst (s.spread 15 s.wrapping)).tick := by
  have line : s.clocked.stepGens.line l = (s.line l).endBurst (s.spread 15 s.wrapping) := stepGens_line s.clocked l
  rw [cadenceStep_running run, afterGens_line (by rw [line, endBurst_anyDue]; exact h), line]

theorem exec_talkTimeout {s : State} (h : s.awake) (run : s.running = true) (g : GroupNo) :
    exec (.talkTimeout g) s = .next (s.talkTimeout g) :=
  (live_awake h fun s => if s.running then s.talkTimeout g else s).trans (by simp [run])

theorem past_eq_nil {r : GroupRec} {now : Clock}
    (h : r.cfg.maxTalk = 0 ∨ ∀ e ∈ r.talkers, (now - e.stamp).toNat < r.cfg.maxTalk * 100) : r.past now = [] := by
  unfold GroupRec.past
  split
  · rfl
  · next nz => exact List.filter_eq_nil_iff.2 fun e he => by simpa using h.resolve_left nz e he

/-- Settles O22: the blocks take the step one after another, and each line and each group apart from the others. -/
theorem cadenceStepCountsDown : Obligations.CadenceStepCountsDown := by
  intro s sw
  have run := sw.running
  refine ⟨s.cadenceStep, exec_cadenceStep sw.1, fun l hd => ?_, fun l hs hr ha hh hg => ?_, ?_, fun p => ?_, fun g hg => ?_,
    fun n => rfl, rfl, rfl⟩
  · obtain ⟨ring, answer, hang, guard, mark⟩ := endBurst_timers (s.spread 15 s.wrapping) (s.line l)
    rw [cadenceStep_line run hd]
    simp only [LineRec.tick, ring, answer, hang, guard, mark, endBurst_state, endBurst_cfg, endBurst_far, endBurst_totals,
      and_self]
  · exact cadenceStep_ring run hs hr ha hh hg
  · refine ⟨fun l law rep hs hk hc ha hr hh hg => ?_, fun l hs hh hr ha hg => ?_, fun l law hs hg hr ha hh hb => ?_,
      fun g e hm he hp hw => ?_⟩
    · exact ⟨_, exec_answerTimerExpiry (s := s.clocked) sw.1 l,
        cadenceStep_answer run law (rep l) hs (by rw [hk]; rfl) hc ha hr hh hg⟩
    · exact ⟨_, exec_hangTimerExpiry (s := s.clocked) sw.1 l, cadenceStep_hang run hs hh hr ha hg⟩
    · obtain ⟨line, conns⟩ := cadenceStep_guard run law hs hg hr ha hh hb
      refine ⟨_, exec_guardTimerExpiry (s := s.clocked) sw.1 l, line, conns, fun hm hc => ?_, fun hm => ?_⟩
      · rw [guardExpiry_eq (s := s.clocked) run hs (tick_of_due hg).2, testExit_stays, guardExpired_line]
        refine .inr (.inr ?_)
        rw [guardExpired_line]
        exact ⟨hm, hc⟩
      · rw [guardExpiry_eq (s := s.clocked) run hs (tick_of_due hg).2, testExit_leaves]
        · exact exitFault_fault _
        · rw [guardExpired_line]; exact hs
        · rw [guardExpired_line]
        · rw [guardExpired_line]; exact hm
    · have due : e ∈ (s.group g).past (s.cdu.clock + 1) := by
        unfold GroupRec.past
        rw [if_neg hm]
        exact List.mem_filter.2 ⟨he, decide_eq_true hp⟩
      have some : (s.group g).past (s.cdu.clock + 1) ≠ [] := List.ne_nil_of_mem due
      have free : (s.group g).past (s.cdu.clock + 1) = [] ∨ (s.group g).waits = [] ∨ s.checkFree g := .inr hw
      have alone := talkTimeout_group free
      rw [if_neg some] at alone
      refine ⟨_, exec_talkTimeout (s := s.clocked) sw.1 run g, ?_, ?_⟩
      · rw [alone, cadenceStep_group run free, if_neg some]
      · rw [alone]
        exact timeOut_spec due
  · rw [cadenceStep_position run]
    refine ⟨fun d hd => ?_, fun hd => ?_, (denialStep_cfg _).1, (denialStep_cfg _).2⟩
    · unfold PositionRec.denialStep
      rw [hd]
      dsimp only
      split <;> rfl
    · simp only [PositionRec.denialStep, hd]
  · have none := past_eq_nil hg
    rw [cadenceStep_group run (.inl none), if_pos none]

end Sys2Proof.Machine

/-! ### What the inbound frames of a period reach

A frame period brings markers, far signals, present and ready indications. `Keeps W s t`: of what they set, an operation
changes only what `W` names; and it changes neither the stored samples, nor what is sent, nor the counts of a period. -/

namespace Sys2Proof.Machine

/-- A value that an inbound frame sets. -/
inductive Inlet where
  | port (n : PortNo) | far (l : LineNo) | present (p : PosNo) | ready

structure Keeps (W : Inlet → Prop) (s t : State) : Prop where
  port : ∀ n, ¬ W (.port n) → t.port n = s.port n
  far : ∀ l, ¬ W (.far l) → (t.line l).far = (s.line l).far
  present : ∀ p : PosNo, ¬ W (.present p) → t.lif.present[p] = s.lif.present[p]
  ready : ¬ W .ready → t.rcu.slotReady = s.rcu.slotReady
  lif : t.lif = { s.lif with
    ports := t.lif.ports, present := t.lif.present, handOver := t.lif.handOver, prepared := t.lif.prepared }
  clock : t.cdu.clock = s.cdu.clock
  init : s.mga.phase = .init → t.mga.phase = .init

/-- Nothing that an inbound frame sets. -/
def noInlet : Inlet → Prop := fun _ => False

section
variable {V W : Inlet → Prop} {s t u : State}

theorem Keeps.refl (W : Inlet → Prop) (s : State) : Keeps W s s :=
  ⟨fun _ _ => rfl, fun _ _ => rfl, fun _ _ => rfl, fun _ => rfl, rfl, rfl, id⟩

theorem Keeps.trans (h : Keeps W s t) (k : Keeps W t u) : Keeps W s u where
  port n hn := (k.port n hn).trans (h.port n hn)
  far l hl := (k.far l hl).trans (h.far l hl)
  present p hp := (k.present p hp).trans (h.present p hp)
  ready hr := (k.ready hr).trans (h.ready hr)
  lif := k.lif.trans (by rw [h.lif])
  clock := k.clock.trans h.clock
  init hi := k.init (h.init hi)

theorem Keeps.mono (h : Keeps V s t) (hVW : ∀ x, V x → W x) : Keeps W s t :=
  { h with
    port := fun n hn => h.port n fun hv => hn (hVW _ hv)
    far := fun l hl => h.far l fun hv => hl (hVW _ hv)
    present := fun p hp => h.present p fun hv => hp (hVW _ hv)
    ready := fun hr => h.ready fun hv => hr (hVW _ hv) }

theorem Keeps.anyway (h : Keeps noInlet s t) : Keeps W s t := h.mono fun _ => False.elim

theorem Keeps.ite {a b : State} (p : Prop) [Decidable p] (h : p → Keeps W s a) (k : ¬ p → Keeps W s b) :
    Keeps W s (if p then a else b) := by
  split
  · exact h ‹_›
  · exact k ‹_›

theorem Keeps.foldl {α : Type} (f : State → α → State) (l : List α) (h : ∀ s, ∀ a ∈ l, Keeps W s (f s a)) (s : State) :
    Keeps W s (l.foldl f s) := by
  induction l generalizing s with
  | nil => exact .refl W s
  | cons a l ih => exact (h s a (by simp)).trans (ih (fun s b hb => h s b (by simp [hb])) _)

/-- A change of blocks that no inbound frame reaches. -/
theorem Keeps.of_eq (lif : t.lif = s.lif) (lnc : t.lnc = s.lnc) (ready : t.rcu.slotReady = s.rcu.slotReady)
    (clock : t.cdu.clock = s.cdu.clock) (init : s.mga.phase = .init → t.mga.phase = .init) : Keeps W s t where
  port n _ := by simp only [State.port, lif]
  far l _ := by simp only [State.line, lnc]
  present p _ := by rw [lif]
  ready _ := ready
  lif := by rw [lif]
  clock := clock
  init := init

theorem Does.kept {K : Touch → Prop} (h : Does K s t) (hf : ∀ l, K (.far l) → W (.far l) := by exact fun _ => False.elim) :
    Keeps W s t where
  port n _ := by simp only [State.port, h.lif]
  far l hl := h.lineFar l fun hk => hl (hf l hk)
  present p _ := by rw [h.lif]
  ready _ := h.slotReady
  lif := by rw [h.lif]
  clock := h.clock
  init hi := h.phase.trans hi

theorem Keeps.portUp (h : Keeps W s t) (n : PortNo) (hn : ¬ W (.port n)) : t.portUp n = s.portUp n := by
  simp only [State.portUp, h.port n hn]

end

/-! #### Requests and console cells -/

/-- Every part but the far signals. -/
def notFar : Touch → Prop
  | .far _ => False
  | _ => True

theorem calls_notFar (A : LineNo → Prop) : Calls notFar A :=
  ⟨trivial, trivial, fun _ _ => trivial, fun _ _ => trivial, fun _ _ => trivial⟩

theorem keeps_holdShelf (s : State) : Keeps noInlet s s.holdShelf := by
  unfold State.holdShelf
  refine .ite _ (fun run => ?_) fun _ => .refl _ s
  have phase : s.mga.phase = .running := of_decide_eq_true run
  refine .trans (t := { s.holdBlocks with mga := { s.holdBlocks.mga with phase := .held } }) ?_
    ((Does.refl (K := notFar)).note _).kept
  exact
    { port := fun _ _ => rfl
      far := fun l _ => by simp [State.line, State.holdBlocks, Lnc.hold, LineRec.hold]
      present := fun _ _ => rfl
      ready := fun _ => rfl
      lif := rfl
      clock := rfl
      init := fun h => absurd (phase.symm.trans h) (by decide) }

theorem keeps_releaseShelf (s : State) : Keeps noInlet s s.releaseShelf := by
  unfold State.releaseShelf
  refine .ite _ (fun held => ?_) fun _ => .refl _ s
  refine .trans (t := { s with mga := { s.mga with phase := .running } })
    (.of_eq rfl rfl rfl rfl fun h => absurd (held.symm.trans h) (by decide)) ?_
  refine (((Does.refl (K := notFar)).note .switchingReleased).kept (W := noInlet)).trans ?_
  generalize State.raise _ _ = a
  refine .trans (t := { a with cdu := a.cdu.release }) (.of_eq rfl rfl rfl rfl id) ?_
  exact ((Does.foldl _ _ (fun s l _ => does_evaluate (calls_notFar (· = l)) s _) _).trans
    (does_makeAllMonitors (calls_notFar _) _)).kept

theorem keeps_lineCfgWritten (s : State) (l : LineNo) (cfg : LineCfg) : Keeps noInlet s (s.lineCfgWritten l cfg) := by
  refine .trans (t := s.setLine l { s.line l with cfg := cfg }) ?_
    ((does_kindChanged (calls_notFar _) _ _).trans (does_testExit (calls_notFar _) _ _)).kept
  exact { Keeps.refl noInlet s with
    far := fun k _ => by rw [State.setLine_line_eq]; split <;> simp_all }

theorem keeps_changeAssign (s : State) (i : Fin 256) (a : Assign) : Keeps noInlet s (s.changeAssign i a) := by
  have put (s : State) : Does notFar s (({ s with psc := { s.psc with assigns := s.psc.assigns.set i a } } : State).makeMonitors
      [(assignPos i, assignSpk i)]) := ((Update.psc s _).does trivial).trans (does_makeAny (calls_notFar _) _ _)
  refine Does.kept (K := notFar) ?_
  unfold State.changeAssign
  split
  · exact (does_removeAny (calls_notFar _) s _ _).trans (put _)
  · exact put s
  · exact put s

theorem keeps_intakeOp {s t : State} (h : IntakeOp s t) : Keeps noInlet s t := by
  have all : Calls notFar fun _ => True := calls_notFar _
  cases h
  case lineCfg l cfg => exact keeps_lineCfgWritten s l cfg
  case positionCfg p cfg => exact (does_storePositionCfg (K := notFar) trivial trivial s p cfg).kept
  case changeAssign i a => exact keeps_changeAssign s i a
  case groupCfg g cfg => exact (does_storeGroupCfg (K := notFar) trivial trivial (fun _ => trivial) s g cfg).kept
  case storeGen n on m x c p => exact (does_storeGen (K := notFar) trivial trivial s n on m x c p).kept
  case policy b _ _ _ =>
    exact .trans (t := { s with prs := b }) (.of_eq rfl rfl rfl rfl id) (does_reResolve (K := notFar) trivial _ _).kept
  case clearClip i => exact (does_clearClip (K := notFar) trivial s i).kept
  case clearFault l _ => exact (does_clearFault (calls_notFar _) s).kept
  case triggerGen n => exact (does_triggerGen (K := notFar) trivial s n).kept
  case forceRelease l => exact (does_clearLineConns (calls_notFar _) s _).kept
  case hold => exact keeps_holdShelf s
  case release => exact keeps_releaseShelf s
  case keyDown p b => exact (does_keyDown (K := notFar) trivial all trivial trivial (fun _ => trivial) s p b).kept
  case keyUp p b => exact (does_keyUp (K := notFar) trivial all trivial s p b).kept
  case hookCell p a b => exact (does_hookCell (K := notFar) trivial all s p a b).kept
  case levelCell p e v => exact (does_levelCell (K := notFar) trivial s p e v).kept
  case acknowledge c => exact .of_eq rfl rfl rfl rfl fun h => by rwa [Mga.acknowledge_phase]
  all_goals exact .of_eq rfl rfl rfl rfl id

theorem keeps_takeRequest (s : State) (i : Instr) : Keeps noInlet s (s.takeRequest i) :=
  chain_keeps (Keeps.refl _) Keeps.trans (fun _ _ => keeps_intakeOp) (intake_takeRequest s i)

theorem keeps_takeConsole (s : State) (p : PosNo) (c : List Byte) : Keeps noInlet s (s.takeConsole p c) :=
  chain_keeps (Keeps.refl _) Keeps.trans (fun _ _ => keeps_intakeOp) (intake_takeConsole s p c)

theorem keeps_takeCell (s : State) (c : List Byte) : Keeps noInlet s (s.takeCell c) := by
  unfold State.takeCell
  split
  · exact keeps_takeRequest s _
  · exact .refl _ s

theorem keeps_handOver (s : State) (cs : List (List Byte)) :
    Keeps noInlet s { s with lif := { s.lif with handOver := cs } } := { Keeps.refl noInlet s with lif := rfl }

theorem keeps_takeHandOver (n : Nat) (s : State) : Keeps noInlet s (State.takeHandOver n s) := by
  induction n generalizing s with
  | zero => exact .refl _ s
  | succ n ih =>
    unfold State.takeHandOver
    split
    · exact .refl _ s
    · exact (keeps_handOver s _).trans ((keeps_takeCell _ _).trans (ih _))

theorem keeps_mgmtCells (s : State) (m : QuadNo) (cells : List (List Byte)) : Keeps noInlet s (s.mgmtCells m cells) := by
  unfold State.mgmtCells
  exact .ite _ (fun _ => (keeps_handOver s _).trans (keeps_takeHandOver _ _)) fun _ => .refl _ s

/-! #### Frames -/

section
variable {W : Inlet → Prop} (s : State)

theorem keeps_judgePort (n : PortNo) (good : Bool) (h : W (.port n)) : Keeps W s (s.judgePort n good) := by
  have put : Keeps W s (s.setPort n ((s.port n).judge good)) :=
    { Keeps.refl W s with
      port := fun k hk => by
        have ne : n.val ≠ k.val := fun e => hk (Fin.ext e ▸ h)
        simp [State.port, State.setPort, ne]
      lif := rfl }
  unfold State.judgePort
  exact .ite _ (fun _ => put) fun _ => put.trans ((Does.refl (K := notFar)).note _).kept

theorem keeps_farSignal (c : LineCause) (l : LineNo) (f : FarSignal) (h : W (.far l)) : Keeps W s (s.farSignal c l f) :=
  (does_farSignal (K := fun k => notFar k ∨ k = .far l)
    ⟨.inl trivial, .inl trivial, fun _ _ => .inl trivial, fun _ _ => .inl trivial, fun _ _ => .inl trivial⟩ (.inr rfl) s c f).kept
    fun _ hk => by
      obtain hk | hk := hk
      · exact hk.elim
      · exact Touch.far.inj hk ▸ h

theorem keeps_setPresent (p : PosNo) (b : Bool) (h : W (.present p)) : Keeps W s (s.setPresent p b) :=
  { Keeps.refl W s with
    present := fun q hq => by
      have ne : p.val ≠ q.val := fun e => hq (Fin.ext e ▸ h)
      simp [State.setPresent, ne]
    lif := rfl }

theorem keeps_goOnline (p : PosNo) : Keeps noInlet s (s.goOnline p) :=
  (does_goOnline (K := notFar) trivial (calls_notFar _) s p).kept

theorem keeps_goOffline (ps : List PosNo) : Keeps noInlet s (s.goOffline ps) :=
  (does_goOffline (K := notFar) trivial (calls_notFar _) trivial s ps).kept

theorem keeps_slotReadyIn (i : ChanNo) (b : Bool) (h : W .ready) : Keeps W s (s.slotReadyIn i b) := by
  refine .trans (t := { s with rcu := { s.rcu with slotReady := s.rcu.slotReady.set i b } }) ?_
    (does_readyChange (K := notFar) trivial _ _ _).kept
  exact { Keeps.refl W s with ready := fun hn => absurd h hn, lif := rfl }

theorem keeps_mixFrame : Keeps noInlet s s.mixFrame := by
  refine .trans (t := { s with lif := { s.lif with prepared := s.mixed } }) { Keeps.refl noInlet s with lif := rfl } ?_
  exact (((Does.foldl _ _ (fun s i _ => does_countClip (K := notFar) trivial s i) _).trans
    (does_advanceTones trivial _)).trans (does_closeSteps trivial trivial _)).kept

end

end Sys2Proof.Machine

/-! ### The frames of the ports (spec/09) -/

namespace Sys2Proof.Machine

/-- A fold over the items that a test on the state selects is the fold over all of them, when the items left out change
nothing and no item changes the test of another. -/
theorem foldl_filter_skip {α β : Type} {f : β → α → β} {p : β → α → Bool} (skip : ∀ s a, p s a = false → f s a = s)
    (other : ∀ s a b, a ≠ b → p (f s a) b = p s b) {ls : List α} (hn : ls.Nodup) (s : β) :
    (ls.filter (p s)).foldl f s = ls.foldl f s := by
  induction ls generalizing s with
  | nil => rfl
  | cons a ls ih =>
    obtain ⟨ha, hn⟩ := List.nodup_cons.1 hn
    rw [List.foldl_cons]
    cases hp : p s a with
    | false => rw [List.filter_cons_of_neg (by simp [hp]), ih hn, skip s a hp]
    | true =>
      have same : ls.filter (p s) = ls.filter (p (f s a)) :=
        List.filter_congr fun b hb => (other s a b fun e => ha (e ▸ hb)).symm
      rw [List.filter_cons_of_pos hp, List.foldl_cons, same, ih hn]

/-! #### Ports and their numbers -/

theorem linePort_channelLine (m : QuadNo) (k : Fin 128) : linePort (channelLine m k) = lpPort m :=
  Fin.ext (by simp only [linePort, channelLine, lpPort]; omega)

theorem posPort_slotPos (m : QuadNo) (k : Fin 8) : posPort (slotPos m k) = ppPort m :=
  Fin.ext (by simp only [posPort, slotPos, ppPort]; omega)

theorem channelLine_inj {m n : QuadNo} {k j : Fin 128} : channelLine m k = channelLine n j ↔ m = n ∧ k = j := by
  simp only [channelLine, Fin.ext_iff]
  omega

theorem slotPos_inj {m n : QuadNo} {k j : Fin 8} : slotPos m k = slotPos n j ↔ m = n ∧ k = j := by
  simp only [slotPos, Fin.ext_iff]
  omega

theorem lpPort_inj {m n : QuadNo} : lpPort m = lpPort n ↔ m = n := by
  simp only [lpPort, Fin.ext_iff]

theorem ppPort_inj {m n : QuadNo} : ppPort m = ppPort n ↔ m = n := by
  simp only [ppPort, Fin.ext_iff]
  omega

theorem lpPort_ne_ppPort (m n : QuadNo) : lpPort m ≠ ppPort n := by
  simp only [lpPort, ppPort, ne_eq, Fin.ext_iff]
  omega

theorem lpPort_ne_recPort (m : QuadNo) : lpPort m ≠ recPort := by
  simp only [lpPort, recPort, ne_eq, Fin.ext_iff]
  omega

theorem ppPort_ne_recPort (m : QuadNo) : ppPort m ≠ recPort := by
  simp only [ppPort, recPort, ne_eq, Fin.ext_iff]
  omega

theorem good_lpPort (f : Inbound) (m : QuadNo) : f.good (lpPort m) = (f.lines[m]).good := by
  simp [Inbound.good, lpPort]

theorem good_ppPort (f : Inbound) (m : QuadNo) : f.good (ppPort m) = (f.positions[m]).good := by
  have h : ¬ (ppPort m).val < 4 := by simp only [ppPort]; omega
  have h' : (ppPort m).val < 8 := by simp only [ppPort]; omega
  simp only [Inbound.good, dif_neg h, dif_pos h']
  simp [ppPort]

theorem good_recPort (f : Inbound) : f.good recPort = f.recorder.good := by
  simp [Inbound.good, recPort]

/-! #### Markers -/

section
variable (s : State) (n : PortNo) (good : Bool)

theorem judgePort_eq : s.judgePort n good =
    if (s.port n).align = ((s.port n).judge good).align then s.setPort n ((s.port n).judge good)
    else (s.setPort n ((s.port n).judge good)).raise
      (.port n (s.port n).align ((s.port n).judge good).align ((s.port n).judge good).align.cause) := rfl

theorem judgePort_port : (s.judgePort n good).port n = (s.port n).judge good := by
  rw [judgePort_eq]
  split <;> simp [State.port, State.setPort]

theorem judgePort_portUp : (s.judgePort n good).portUp n = decide (((s.port n).judge good).align = .up) := by
  rw [State.portUp, judgePort_port]

theorem takes_iff : s.takes n good = true ↔ good = true ∧ (s.judgePort n good).portUp n = true := by
  rw [judgePort_portUp, State.takes, Bool.and_eq_true]

end

/-! #### Line ports -/

section
variable (s : State) (m : QuadNo) (x : LineFrame)

theorem farSignal_same {s : State} {l : LineNo} {f : FarSignal} (h : (s.line l).far = f) (c : LineCause) :
    s.farSignal c l f = s := by
  unfold State.farSignal
  exact if_pos h

theorem farSignal_far (s : State) (c : LineCause) (l : LineNo) (f : FarSignal) : ((s.farSignal c l f).line l).far = f := by
  by_cases h : (s.line l).far = f
  · rw [farSignal_same h, h]
  · unfold State.farSignal
    simp only [if_neg h]
    have set : ((s.setLine l { s.line l with far := f }).line l).far = f := by simp
    split
    · rw [(does_farChange (calls_notFar (· = l)) _ _ _).lineFar, set]
    · exact set

theorem farSignal_far_ne (s : State) (c : LineCause) {k l : LineNo} (f : FarSignal) (h : l ≠ k) :
    ((s.farSignal c k f).line l).far = (s.line l).far :=
  (keeps_farSignal (W := (· = .far k)) s c k f rfl).far l fun e => h (Inlet.far.inj e)

/-- The far signals of a port's channels, one after another. -/
def State.channelFars (s : State) (c : LineCause) (m : QuadNo) (g : Fin 128 → FarSignal) : State :=
  (List.finRange 128).foldl (fun y k => y.farSignal c (channelLine m k) (g k)) s

theorem channelFars_eq (c : LineCause) (g : Fin 128 → FarSignal) :
    ((List.finRange 128).filter fun k => (s.line (channelLine m k)).far ≠ g k).foldl
      (fun y k => y.farSignal c (channelLine m k) (g k)) s = s.channelFars c m g :=
  foldl_filter_skip (p := fun y k => decide ((y.line (channelLine m k)).far ≠ g k))
    (fun _ _ h => farSignal_same (by simpa using h) c)
    (fun y a b h => by rw [farSignal_far_ne]; exact fun e => h (channelLine_inj.1 e).2.symm) (List.nodup_finRange 128) s

theorem linePortLost_eq : s.linePortLost m = s.channelFars .port m fun _ => .loss := by
  rw [← channelFars_eq]
  unfold State.linePortLost portLines
  rw [List.filter_map, List.foldl_map]
  rfl

theorem farSignals_eq (v : Vector ChannelIn 128) : s.farSignals m v = s.channelFars .loss m fun k => (v[k]).far :=
  channelFars_eq s m .loss fun k => (v[k]).far

/-- The values that a line port's frame sets, but for the port. -/
def farsOf (m : QuadNo) : Inlet → Prop := fun x => ∃ k, x = .far (channelLine m k)

theorem keeps_channelFars (c : LineCause) (g : Fin 128 → FarSignal) : Keeps (farsOf m) s (s.channelFars c m g) :=
  .foldl _ _ (fun s k _ => keeps_farSignal s c _ _ ⟨k, rfl⟩) s

theorem channelFars_far (c : LineCause) (g : Fin 128 → FarSignal) (k : Fin 128) :
    ((s.channelFars c m g).line (channelLine m k)).far = g k := by
  obtain ⟨u, -, hu⟩ := foldl_split (fun a b => (b.line (channelLine m k)).far = (a.line (channelLine m k)).far)
    (fun _ => rfl) (fun h h' => h'.trans h) (f := fun y k => y.farSignal c (channelLine m k) (g k))
    (List.nodup_finRange 128) (List.mem_finRange k)
    (fun y j h => farSignal_far_ne y c _ fun e => h (channelLine_inj.1 e).2.symm) s
  exact hu.trans (farSignal_far _ _ _ _)

theorem lineFrame_lost (up : s.portUp (lpPort m) = true) (down : (s.judgePort (lpPort m) x.good).portUp (lpPort m) = false) :
    s.lineFrame m x = (s.judgePort (lpPort m) x.good).channelFars .port m fun _ => .loss := by
  rw [← linePortLost_eq]
  unfold State.lineFrame
  simp [up, down]

theorem lineFrame_taken (good : x.good = true) (up : (s.judgePort (lpPort m) x.good).portUp (lpPort m) = true) :
    s.lineFrame m x =
      ((s.judgePort (lpPort m) x.good).channelFars .loss m fun k => (x.channels[k]).far).mgmtCells m x.cells := by
  rw [← farSignals_eq]
  unfold State.lineFrame
  simp [up, (takes_iff s (lpPort m) x.good).2 ⟨good, up⟩]

theorem lineFrame_idle
    (lost : ¬ (s.portUp (lpPort m) = true ∧ (s.judgePort (lpPort m) x.good).portUp (lpPort m) = false))
    (taken : ¬ (x.good = true ∧ (s.judgePort (lpPort m) x.good).portUp (lpPort m) = true)) :
    s.lineFrame m x = s.judgePort (lpPort m) x.good := by
  rw [← takes_iff] at taken
  unfold State.lineFrame
  simp only [Bool.not_eq_true] at taken
  simp only [taken, Bool.and_eq_true, Bool.not_eq_true', if_neg lost]
  rfl

/-- A line port's frame reaches its port and, after it, the far signals of its lines. -/
theorem lineFrame_keeps : Keeps (farsOf m) (s.judgePort (lpPort m) x.good) (s.lineFrame m x) := by
  by_cases lost : s.portUp (lpPort m) = true ∧ (s.judgePort (lpPort m) x.good).portUp (lpPort m) = false
  · rw [lineFrame_lost s m x lost.1 lost.2]
    exact keeps_channelFars _ _ _ _
  by_cases taken : x.good = true ∧ (s.judgePort (lpPort m) x.good).portUp (lpPort m) = true
  · rw [lineFrame_taken s m x taken.1 taken.2]
    exact (keeps_channelFars _ _ _ _).trans (keeps_mgmtCells _ _ _).anyway
  · rw [lineFrame_idle s m x lost taken]
    exact .refl _ _

end

/-! #### Position ports -/

section
variable (s : State) (m : QuadNo) (x : PositionFrame)

theorem setPresent_present (p : PosNo) (b : Bool) : (s.setPresent p b).lif.present[p] = b := by
  simp [State.setPresent]

/-- The present values without those of `ps`. -/
def clearPresent (v : Vector Bool 32) (ps : List PosNo) : Vector Bool 32 := ps.foldl (fun v (p : PosNo) => v.set p false) v

theorem clearPresent_get (v : Vector Bool 32) (ps : List PosNo) (q : PosNo) :
    (clearPresent v ps)[q] = (decide (q ∉ ps) && v[q]) := by
  unfold clearPresent
  induction ps generalizing v with
  | nil => simp
  | cons p ps ih =>
    rw [List.foldl_cons, ih]
    by_cases h : q = p
    · simp [h]
    · have ne : p.val ≠ q.val := fun e => h (Fin.ext e.symm)
      simp [h, ne]

theorem clearPresent_eq (ps : List PosNo) : ps.foldl (fun s p => s.setPresent p false) s =
    { s with lif := { s.lif with present := clearPresent s.lif.present ps } } := by
  induction ps generalizing s with
  | nil => rfl
  | cons p ps ih => rw [List.foldl_cons, ih]; rfl

/-- R174: the positions of a port that are present. -/
def presentOn (m : QuadNo) (v : Vector Bool 32) : List PosNo := ((List.finRange 8).map (slotPos m)).filter fun p => v[p]

theorem mem_presentOn (v : Vector Bool 32) (p : PosNo) : p ∈ presentOn m v ↔ p.val / 8 = m.val ∧ v[p] = true := by
  simp only [presentOn, List.mem_filter, List.mem_map, List.mem_finRange, true_and, and_congr_left_iff]
  intro _
  constructor
  · rintro ⟨k, rfl⟩
    simp only [slotPos]
    omega
  · intro h
    exact ⟨⟨p.val % 8, by omega⟩, Fin.ext (by simp only [slotPos]; omega)⟩

theorem clearPresent_presentOn (v : Vector Bool 32) :
    clearPresent v (presentOn m v) = Vector.ofFn fun p => decide (p.val / 8 ≠ m.val) && v[p] := by
  refine Vector.ext fun i hi => ?_
  rw [Vector.getElem_ofFn]
  refine (clearPresent_get v _ ⟨i, hi⟩).trans ?_
  simp only [mem_presentOn]
  cases v[(⟨i, hi⟩ : PosNo)] <;> simp

theorem positionPortLost_eq : s.positionPortLost m =
    ({ s with lif := { s.lif with
      present := Vector.ofFn fun p => decide (p.val / 8 ≠ m.val) && s.lif.present[p] } } : State).goOffline
      (presentOn m s.lif.present) := by
  rw [← clearPresent_presentOn, ← clearPresent_eq]
  rfl

theorem slotFrame_keeps (p : PosNo) (x : SlotIn) : Keeps noInlet (s.setPresent p x.present) (s.slotFrame p x) := by
  unfold State.slotFrame
  simp only
  generalize s.setPresent p x.present = a
  have here : Keeps noInlet a (if (x.present && !s.lif.present[p]) = true then a.goOnline p
      else if (s.lif.present[p] && !x.present) = true then a.goOffline [p] else a) :=
    .ite _ (fun _ => keeps_goOnline a p) fun _ => .ite _ (fun _ => keeps_goOffline a _) fun _ => .refl _ a
  exact .ite _ (fun _ => here.trans (.foldl _ _ (fun s c _ => keeps_takeConsole s p c) _)) fun _ => here

/-- The values that a position port's frame sets, but for the port. -/
def presentsOf (m : QuadNo) : Inlet → Prop := fun x => ∃ k, x = .present (slotPos m k)

theorem positionFrame_lost (up : s.portUp (ppPort m) = true)
    (down : (s.judgePort (ppPort m) x.good).portUp (ppPort m) = false) :
    s.positionFrame m x = (s.judgePort (ppPort m) x.good).positionPortLost m := by
  unfold State.positionFrame
  simp [up, down]

theorem positionFrame_taken (good : x.good = true) (up : (s.judgePort (ppPort m) x.good).portUp (ppPort m) = true) :
    s.positionFrame m x =
      (List.finRange 8).foldl (fun y k => y.slotFrame (slotPos m k) x.slots[k]) (s.judgePort (ppPort m) x.good) := by
  unfold State.positionFrame
  simp [up, (takes_iff s (ppPort m) x.good).2 ⟨good, up⟩]

theorem positionFrame_idle
    (lost : ¬ (s.portUp (ppPort m) = true ∧ (s.judgePort (ppPort m) x.good).portUp (ppPort m) = false))
    (taken : ¬ (x.good = true ∧ (s.judgePort (ppPort m) x.good).portUp (ppPort m) = true)) :
    s.positionFrame m x = s.judgePort (ppPort m) x.good := by
  rw [← takes_iff] at taken
  unfold State.positionFrame
  simp only [Bool.not_eq_true] at taken
  simp only [taken, Bool.and_eq_true, Bool.not_eq_true', if_neg lost]
  rfl

theorem keeps_slotFrames (k : Fin 8) (v : Vector SlotIn 8) :
    Keeps (presentsOf m) s (s.slotFrame (slotPos m k) v[k]) :=
  (keeps_setPresent s _ _ ⟨k, rfl⟩).trans (slotFrame_keeps s _ _).anyway

theorem keeps_positionPortLost : Keeps (presentsOf m) s (s.positionPortLost m) := by
  unfold State.positionPortLost
  refine (Keeps.foldl _ _ (fun s p hp => keeps_setPresent s p false ?_) s).trans (keeps_goOffline _ _).anyway
  have here := (mem_presentOn m _ p).1 hp
  exact ⟨⟨p.val % 8, by omega⟩, congrArg _ (Fin.ext (by simp only [slotPos]; omega))⟩

/-- A position port's frame reaches its port and, after it, the present values of its positions. -/
theorem positionFrame_keeps : Keeps (presentsOf m) (s.judgePort (ppPort m) x.good) (s.positionFrame m x) := by
  by_cases lost : s.portUp (ppPort m) = true ∧ (s.judgePort (ppPort m) x.good).portUp (ppPort m) = false
  · rw [positionFrame_lost s m x lost.1 lost.2]
    exact keeps_positionPortLost _ _
  by_cases taken : x.good = true ∧ (s.judgePort (ppPort m) x.good).portUp (ppPort m) = true
  · rw [positionFrame_taken s m x taken.1 taken.2]
    exact .foldl _ _ (fun s k _ => keeps_slotFrames s m k x.slots) _
  · rw [positionFrame_idle s m x lost taken]
    exact .refl _ _

theorem positionPortLost_present (k : Fin 8) : (s.positionPortLost m).lif.present[slotPos m k] = false := by
  have here : (slotPos m k).val / 8 = m.val := by simp only [slotPos]; omega
  rw [positionPortLost_eq, (keeps_goOffline _ _).present _ id]
  simp [here]

theorem slotFrames_present (k : Fin 8) (v : Vector SlotIn 8) :
    ((List.finRange 8).foldl (fun y k => y.slotFrame (slotPos m k) v[k]) s).lif.present[slotPos m k] = (v[k]).present := by
  obtain ⟨u, -, hu⟩ := foldl_split (fun a b => b.lif.present[slotPos m k] = a.lif.present[slotPos m k])
    (fun _ => rfl) (fun h h' => h'.trans h) (f := fun y k => y.slotFrame (slotPos m k) v[k])
    (List.nodup_finRange 8) (List.mem_finRange k)
    (fun y j h => by
      rw [(slotFrame_keeps y _ _).present _ id]
      exact (keeps_setPresent (W := (· = .present (slotPos m j))) y _ _ rfl).present _
        fun e => h (slotPos_inj.1 (Inlet.present.inj e)).2.symm) s
  rw [hu, (slotFrame_keeps u _ _).present _ id, setPresent_present]

end

/-! #### The recorder port -/

section
variable (s : State) (x : RecorderFrame)

theorem slotReadyIn_slotReady (i : ChanNo) (b : Bool) : (s.slotReadyIn i b).rcu.slotReady = s.rcu.slotReady.set i b :=
  (does_readyChange (K := notFar) trivial _ _ _).slotReady

theorem slotReadyIn_same {i : ChanNo} {b : Bool} (h : b = s.rcu.slotReady[i]) : s.slotReadyIn i b = s := by
  subst h
  unfold State.slotReadyIn
  simp only [Fin.getElem_fin, Vector.set_getElem_self]
  unfold State.readyChange
  exact if_pos (by simp)

theorem slotReadyIn_other {i j : ChanNo} (b : Bool) (h : i ≠ j) : (s.slotReadyIn i b).rcu.slotReady[j] = s.rcu.slotReady[j] := by
  have ne : i.val ≠ j.val := fun e => h (Fin.ext e)
  rw [slotReadyIn_slotReady]
  simp [ne]

theorem readiesIn_eq (v : Vector Bool 128) :
    s.readiesIn v = (List.finRange 128).foldl (fun y i => y.slotReadyIn i v[i]) s :=
  foldl_filter_skip (f := fun (y : State) i => y.slotReadyIn i v[i]) (p := fun y i => v[i] != y.rcu.slotReady[i])
    (fun y i h => slotReadyIn_same y (by simpa using h)) (fun y a b h => by rw [slotReadyIn_other y _ h])
    (List.nodup_finRange 128) s

theorem readiesIn_slotReady (v : Vector Bool 128) (i : ChanNo) : (s.readiesIn v).rcu.slotReady[i] = v[i] := by
  rw [readiesIn_eq]
  obtain ⟨u, -, hu⟩ := foldl_split (fun a b => b.rcu.slotReady[i] = a.rcu.slotReady[i])
    (fun _ => rfl) (fun h h' => h'.trans h) (f := fun y i => y.slotReadyIn i v[i])
    (List.nodup_finRange 128) (List.mem_finRange i) (fun y j h => slotReadyIn_other y _ h) s
  rw [hu, slotReadyIn_slotReady]
  simp

theorem recorderFrame_lost (up : s.portUp recPort = true) (down : (s.judgePort recPort x.good).portUp recPort = false) :
    s.recorderFrame x = (s.judgePort recPort x.good).recorderLost := by
  unfold State.recorderFrame
  simp [up, down]

theorem recorderFrame_taken (good : x.good = true) (up : (s.judgePort recPort x.good).portUp recPort = true) :
    s.recorderFrame x = (if s.portUp recPort then s.judgePort recPort x.good
      else (s.judgePort recPort x.good).recorderBack).readiesIn x.ready := by
  unfold State.recorderFrame
  simp [up, (takes_iff s recPort x.good).2 ⟨good, up⟩]

theorem recorderFrame_idle
    (lost : ¬ (s.portUp recPort = true ∧ (s.judgePort recPort x.good).portUp recPort = false))
    (taken : ¬ (x.good = true ∧ (s.judgePort recPort x.good).portUp recPort = true)) :
    s.recorderFrame x = s.judgePort recPort x.good := by
  rw [← takes_iff] at taken
  unfold State.recorderFrame
  simp only [Bool.not_eq_true] at taken
  simp only [taken, Bool.and_eq_true, Bool.not_eq_true', if_neg lost]
  rfl

theorem keeps_recorderLost : Keeps noInlet s s.recorderLost := (does_recorderLost (K := notFar) trivial s).kept

theorem keeps_recorderBack : Keeps noInlet s s.recorderBack := (does_recorderBack (K := notFar) trivial trivial s).kept

/-- The recorder port's frame reaches its port and, after it, the ready indications. -/
theorem recorderFrame_keeps : Keeps (· = .ready) (s.judgePort recPort x.good) (s.recorderFrame x) := by
  by_cases lost : s.portUp recPort = true ∧ (s.judgePort recPort x.good).portUp recPort = false
  · rw [recorderFrame_lost s x lost.1 lost.2]
    exact (keeps_recorderLost _).anyway
  by_cases taken : x.good = true ∧ (s.judgePort recPort x.good).portUp recPort = true
  · rw [recorderFrame_taken s x taken.1 taken.2, readiesIn_eq]
    have slots (a : State) : Keeps (· = .ready) a ((List.finRange 128).foldl (fun y i => y.slotReadyIn i x.ready[i]) a) :=
      .foldl _ _ (fun s i _ => keeps_slotReadyIn (W := (· = .ready)) s i _ rfl) a
    exact (Keeps.ite _ (fun _ => .refl _ _) fun _ => (keeps_recorderBack _).anyway).trans (slots _)
  · rw [recorderFrame_idle s x lost taken]
    exact .refl _ _

end

end Sys2Proof.Machine

/-! ### The course of a frame period -/

namespace Sys2Proof.Machine

/-! #### Cadence step and the bound on INIT -/

theorem cadenceStep_does (s : State) : Does notFar s.clocked s.cadenceStep := by
  cases h : s.running with
  | false => rw [cadenceStep_held h]; exact .refl
  | true =>
    rw [cadenceStep_running h]
    refine (does_stepGens trivial trivial s.clocked).trans ((does_afterGens _).mono fun k hk => ?_)
    cases k <;> trivial

/-- What the end of a period leaves of what its frames brought. -/
structure Ended (s t : State) : Prop where
  lif : t.lif = s.lif
  far : ∀ l, (t.line l).far = (s.line l).far
  ready : t.rcu.slotReady = s.rcu.slotReady

section
variable {s t u : State}

theorem Ended.trans (h : Ended s t) (k : Ended t u) : Ended s u :=
  ⟨k.lif.trans h.lif, fun l => (k.far l).trans (h.far l), k.ready.trans h.ready⟩

variable (s)

theorem cadenceStep_ended : Ended s s.cadenceStep :=
  ⟨(cadenceStep_does s).lif, fun l => (cadenceStep_does s).lineFar l, (cadenceStep_does s).slotReady⟩

theorem periodStep_ended : Ended s s.periodStep := by
  unfold State.periodStep
  split
  · exact cadenceStep_ended s
  · exact ⟨rfl, fun _ => rfl, rfl⟩

theorem periodStep_clock : s.periodStep.cdu.clock = s.cdu.clock + if s.lif.frames % 80 = 0 then 1 else 0 := by
  unfold State.periodStep
  simp only [Config.cadenceFrames]
  split
  · exact (cadenceStep_does s).clock
  · exact (BitVec.add_zero _).symm

theorem periodStep_phase : s.periodStep.mga.phase = s.mga.phase := by
  unfold State.periodStep
  split
  · exact (cadenceStep_does s).phase
  · rfl

theorem initBound_ended : Ended s s.initBound := by
  unfold State.initBound State.endInit
  split_ifs
  · exact ⟨by simp, fun l => by simp [State.line], by simp⟩
  · exact ⟨rfl, fun _ => rfl, rfl⟩
  · exact ⟨rfl, fun _ => rfl, rfl⟩

theorem initBound_cdu : s.initBound.cdu = s.cdu := by
  unfold State.initBound State.endInit
  split_ifs <;> simp

theorem initBound_phase (h : s.mga.phase = .init) : s.initBound.mga.phase = if 32 ≤ s.lif.frames then .held else .init := by
  unfold State.initBound State.endInit
  simp only [Config.initFrames, h, if_true]
  split
  · rw [((Does.refl (K := notFar)).note _).phase]
  · exact h

end

/-! #### What the ports take -/

/-- The values that a line port's frame sets. -/
def lineInlets (m : QuadNo) : Inlet → Prop := fun x => x = .port (lpPort m) ∨ farsOf m x

/-- The values that a position port's frame sets. -/
def positionInlets (m : QuadNo) : Inlet → Prop := fun x => x = .port (ppPort m) ∨ presentsOf m x

/-- The values that the recorder port's frame sets. -/
def recorderInlets : Inlet → Prop := fun x => x = .port recPort ∨ x = .ready

theorem lineInlets_disjoint {m n : QuadNo} (h : m ≠ n) (x : Inlet) (hm : lineInlets m x) : ¬ lineInlets n x := by
  obtain rfl | ⟨k, rfl⟩ := hm
  · rintro (e | ⟨j, e⟩)
    · exact h (lpPort_inj.1 (Inlet.port.inj e))
    · cases e
  · rintro (e | ⟨j, e⟩)
    · cases e
    · exact h (channelLine_inj.1 (Inlet.far.inj e)).1

theorem positionInlets_disjoint {m n : QuadNo} (h : m ≠ n) (x : Inlet) (hm : positionInlets m x) : ¬ positionInlets n x := by
  obtain rfl | ⟨k, rfl⟩ := hm
  · rintro (e | ⟨j, e⟩)
    · exact h (ppPort_inj.1 (Inlet.port.inj e))
    · cases e
  · rintro (e | ⟨j, e⟩)
    · cases e
    · exact h (slotPos_inj.1 (Inlet.present.inj e)).1

theorem lineInlets_positionInlets {m n : QuadNo} (x : Inlet) (hm : lineInlets m x) : ¬ positionInlets n x := by
  obtain rfl | ⟨k, rfl⟩ := hm
  · rintro (e | ⟨j, e⟩)
    · exact lpPort_ne_ppPort m n (Inlet.port.inj e)
    · cases e
  · rintro (e | ⟨j, e⟩) <;> cases e

theorem lineInlets_recorderInlets {m : QuadNo} (x : Inlet) (hm : lineInlets m x) : ¬ recorderInlets x := by
  obtain rfl | ⟨k, rfl⟩ := hm
  · rintro (e | e)
    · exact lpPort_ne_recPort m (Inlet.port.inj e)
    · cases e
  · rintro (e | e) <;> cases e

theorem positionInlets_recorderInlets {m : QuadNo} (x : Inlet) (hm : positionInlets m x) : ¬ recorderInlets x := by
  obtain rfl | ⟨k, rfl⟩ := hm
  · rintro (e | e)
    · exact ppPort_ne_recPort m (Inlet.port.inj e)
    · cases e
  · rintro (e | e) <;> cases e

theorem keeps_lineFrame (s : State) (m : QuadNo) (x : LineFrame) : Keeps (lineInlets m) s (s.lineFrame m x) :=
  (keeps_judgePort s _ _ (.inl rfl)).trans ((lineFrame_keeps s m x).mono fun _ => .inr)

theorem keeps_positionFrame (s : State) (m : QuadNo) (x : PositionFrame) :
    Keeps (positionInlets m) s (s.positionFrame m x) :=
  (keeps_judgePort s _ _ (.inl rfl)).trans ((positionFrame_keeps s m x).mono fun _ => .inr)

theorem keeps_recorderFrame (s : State) (x : RecorderFrame) : Keeps recorderInlets s (s.recorderFrame x) :=
  (keeps_judgePort s _ _ (.inl rfl)).trans ((recorderFrame_keeps s x).mono fun _ => .inr)

/-- The line ports' frames, one after another. -/
def State.takeLines (s : State) (f : Inbound) : State := (List.finRange 4).foldl (fun y m => y.lineFrame m f.lines[m]) s

/-- The position ports' frames, one after another. -/
def State.takePositions (s : State) (f : Inbound) : State :=
  (List.finRange 4).foldl (fun y m => y.positionFrame m f.positions[m]) s

theorem takeFrames_eq (s : State) (f : Inbound) :
    s.takeFrames f = ((s.takeLines f).takePositions f).recorderFrame f.recorder := rfl

section
variable {W : Inlet → Prop} (s : State) (f : Inbound)

theorem keeps_takeLines (h : ∀ m x, lineInlets m x → W x) : Keeps W s (s.takeLines f) :=
  .foldl _ _ (fun s m _ => (keeps_lineFrame s m _).mono (h m)) s

theorem keeps_takePositions (h : ∀ m x, positionInlets m x → W x) : Keeps W s (s.takePositions f) :=
  .foldl _ _ (fun s m _ => (keeps_positionFrame s m _).mono (h m)) s

/-- A port's frame is taken once, and what it sets stands from then on. -/
def Visit (W : Inlet → Prop) (step : State → State) (s t : State) : Prop :=
  ∃ u, Keeps (fun x => ¬ W x) s u ∧ Keeps (fun x => ¬ W x) (step u) t

theorem Visit.before {step : State → State} {t u : State} (h : Keeps (fun x => ¬ W x) s t) (k : Visit W step t u) :
    Visit W step s u := by
  obtain ⟨v, h1, h2⟩ := k
  exact ⟨v, h.trans h1, h2⟩

theorem Visit.after {step : State → State} {s t u : State} (h : Visit W step s t) (k : Keeps (fun x => ¬ W x) t u) :
    Visit W step s u := by
  obtain ⟨v, h1, h2⟩ := h
  exact ⟨v, h1, h2.trans k⟩

/-- The frames of a period and its mix frame, in the order that the command says. -/
def State.inboundPeriod (s : State) (f : Inbound) : State :=
  if f.mixFirst then s.mixFrame.takeFrames f else (s.takeFrames f).mixFrame

theorem Visit.inbound {step : State → State} (h : ∀ s : State, Visit W step s (s.takeFrames f)) :
    Visit W step s (s.inboundPeriod f) := by
  unfold State.inboundPeriod
  split
  · exact .before s (keeps_mixFrame s).anyway (h _)
  · exact (h s).after (keeps_mixFrame _).anyway

theorem lines_visit (m : QuadNo) :
    Visit (lineInlets m) (fun y => y.lineFrame m f.lines[m]) s (s.inboundPeriod f) := by
  refine Visit.inbound s f fun s => ?_
  have lines : Visit (lineInlets m) (fun y => y.lineFrame m f.lines[m]) s (s.takeLines f) :=
    foldl_split (Keeps fun x => ¬ lineInlets m x) (.refl _) (fun h k => h.trans k)
      (f := fun (y : State) m => y.lineFrame m f.lines[m]) (List.nodup_finRange 4) (List.mem_finRange m)
      (fun y n hn => (keeps_lineFrame y n _).mono (lineInlets_disjoint hn)) s
  rw [takeFrames_eq]
  refine (lines.after (keeps_takePositions _ f fun n x hx hl => lineInlets_positionInlets x hl hx)).after ?_
  exact (keeps_recorderFrame _ _).mono fun x hx hl => lineInlets_recorderInlets x hl hx

theorem positions_visit (m : QuadNo) :
    Visit (positionInlets m) (fun y => y.positionFrame m f.positions[m]) s (s.inboundPeriod f) := by
  refine Visit.inbound s f fun s => ?_
  have positions (s : State) :
      Visit (positionInlets m) (fun y => y.positionFrame m f.positions[m]) s (s.takePositions f) :=
    foldl_split (Keeps fun x => ¬ positionInlets m x) (.refl _) (fun h k => h.trans k)
      (f := fun (y : State) m => y.positionFrame m f.positions[m]) (List.nodup_finRange 4) (List.mem_finRange m)
      (fun y n hn => (keeps_positionFrame y n _).mono (positionInlets_disjoint hn)) s
  rw [takeFrames_eq]
  refine .after (.before s (keeps_takeLines s f fun n x hx => lineInlets_positionInlets x hx) (positions _)) ?_
  exact (keeps_recorderFrame _ _).mono fun x hx hp => positionInlets_recorderInlets x hp hx

theorem recorder_visit : Visit recorderInlets (fun y => y.recorderFrame f.recorder) s (s.inboundPeriod f) := by
  refine Visit.inbound s f fun s => ?_
  rw [takeFrames_eq]
  exact ⟨_, (keeps_takeLines s f fun n x hx => lineInlets_recorderInlets x hx).trans
    (keeps_takePositions _ f fun n x hx => positionInlets_recorderInlets x hx), .refl _ _⟩

theorem keeps_inboundPeriod : Keeps (fun _ => True) s (s.inboundPeriod f) := by
  have take (s : State) : Keeps (fun _ => True) s (s.takeFrames f) := by
    rw [takeFrames_eq]
    exact ((keeps_takeLines s f fun _ _ _ => trivial).trans (keeps_takePositions _ f fun _ _ _ => trivial)).trans
      ((keeps_recorderFrame _ _).mono fun _ _ => trivial)
  unfold State.inboundPeriod
  exact .ite _ (fun _ => (keeps_mixFrame s).anyway.trans (take _)) fun _ => (take s).trans (keeps_mixFrame _).anyway

theorem framePeriod_eq : s.framePeriod f = ((s.sendFrames.storeSamples f).inboundPeriod f).periodStep.initBound := rfl

end

/-- What the end of a period leaves of what its frames brought. -/
theorem framePeriod_ended (s : State) (f : Inbound) :
    Ended ((s.sendFrames.storeSamples f).inboundPeriod f) (s.framePeriod f) :=
  (periodStep_ended _).trans (initBound_ended _)

end Sys2Proof.Machine

/-! ### What a frame period sends (O19) -/

namespace Sys2Proof.Machine

/-! #### Out signals and lamps -/

section
variable (s : State) (p : PosNo) (k : KeyNo)

theorem denied_iff : s.denied p k = true ↔ ∃ d : Denial, (s.position p).denial = some d ∧ d.key = k := by
  unfold State.denied
  split
  · rename_i d hd
    simp [hd]
  · rename_i hd
    simp [hd]

theorem lampImage_off (h : s.mga.phase ≠ .running ∨ s.online p = false) : (s.lampImage p)[k] = .off := by
  have off : (s.running && s.online p) = false := by
    obtain h | h := h
    · rw [running_eq_false.2 h, Bool.false_and]
    · rw [h, Bool.and_false]
  simp [State.lampImage, off]

theorem lampImage_on (run : s.mga.phase = .running) (on : s.online p = true) : (s.lampImage p)[k] = s.lampOf p k := by
  have run : s.running = true := by simp [State.running, run]
  simp [State.lampImage, run, on]

section
variable {s} {l : LineNo} (run : s.mga.phase = .running)
include run

theorem outSignal_burst {n : CgNo} (hn : (s.line l).ringPending = some n) :
    s.outSignal l = if s.delivered n then .calling else (s.line l).state.outSignal := by
  have run : s.running = true := by simp [State.running, run]
  simp only [State.outSignal, run, hn, Bool.not_true, Bool.false_eq_true, if_false]

theorem outSignal_noBurst (hn : (s.line l).ringPending = none) : s.outSignal l =
    if (s.line l).state = .callingOut ∧ (s.line l).answer = .expired then .idle else (s.line l).state.outSignal := by
  have run : s.running = true := by simp [State.running, run]
  simp only [State.outSignal, run, hn, Bool.not_true, Bool.false_eq_true, if_false]

/-- R5: with no burst delivered, and no expired answer timer, the out signal is that of the state. -/
theorem outSignal_quiet
    (quiet : (s.line l).ringPending = none ∨ ∃ n : CgNo, (s.line l).ringPending = some n ∧ s.delivered n = false)
    (h : (s.line l).state ≠ .callingOut) : s.outSignal l = (s.line l).state.outSignal := by
  obtain hn | ⟨n, hn, hd⟩ := quiet
  · rw [outSignal_noBurst run hn, if_neg fun hc => h hc.1]
  · rw [outSignal_burst run hn, hd]
    rfl

end

/-! #### Relations -/

variable (l : LineNo)

theorem mem_bridge {c : Conn} : c ∈ s.bridge l ↔ c ∈ s.cxm.conns ∧ c.line = l ∧ c.place.isHandset = true := by
  simp only [State.bridge, State.lineConns, List.mem_filter, decide_eq_true_eq, and_assoc]

theorem isUnheld_iff {x : Place} : x.isUnheld = true ↔ x = .left ∨ x = .right := by
  cases x <;> simp [Place.isUnheld]

theorem isHold_iff {x : Place} : x.isHold = true ↔ x = .hold := by
  cases x <;> simp [Place.isHold]

theorem isHandset_iff {x : Place} : x.isHandset = true ↔ x.isUnheld = true ∨ x = .hold := by
  cases x <;> simp [Place.isUnheld, Place.isHandset]

/-- R44: whether some handset of the line meets a test of the position. -/
theorem bridge_any_iff (q : PosNo → Bool) (f : Place → Bool) (hf : ∀ x, f x = true → x.isHandset = true) :
    (s.bridge l).any (fun c => q c.pos && f c.place) = true ↔
      ∃ c ∈ s.cxm.conns, c.line = l ∧ q c.pos = true ∧ f c.place = true := by
  simp only [List.any_eq_true, mem_bridge, Bool.and_eq_true]
  constructor
  · rintro ⟨c, ⟨hc, hl, -⟩, hq, hh⟩
    exact ⟨c, hc, hl, hq, hh⟩
  · rintro ⟨c, hc, hl, hq, hh⟩
    exact ⟨c, ⟨hc, hl, hf _ hh⟩, hq, hh⟩

theorem share_exclusive_iff : (∃ h, s.share l = .exclusive h) ↔ (s.bridge l).length = 1 ∧ s.cxm.privacy[l] = true := by
  unfold State.share
  split
  · rename_i h; simp [h]
  · rename_i c h
    rw [h]
    split <;> simp_all
  · rename_i x h1 h2
    match h : s.bridge l with
    | [] => exact absurd h h1
    | [c] => exact absurd h (h2 c)
    | _ :: _ :: _ => simp

theorem bridge_mine_iff : ((s.bridge l).any fun c => decide (c.pos = p) && c.place.isUnheld) = true ↔
    ∃ c ∈ s.cxm.conns, c.line = l ∧ c.pos = p ∧ (c.place = .left ∨ c.place = .right) := by
  rw [bridge_any_iff s l (fun q => decide (q = p)) _ fun x hx => isHandset_iff.2 (.inl hx)]
  simp only [decide_eq_true_eq, isUnheld_iff]

theorem bridge_other_iff : ((s.bridge l).any fun c => decide (c.pos ≠ p) && c.place.isUnheld) = true ↔
    ∃ c ∈ s.cxm.conns, c.line = l ∧ c.pos ≠ p ∧ (c.place = .left ∨ c.place = .right) := by
  rw [bridge_any_iff s l (fun q => decide (q ≠ p)) _ fun x hx => isHandset_iff.2 (.inl hx)]
  simp only [decide_eq_true_eq, isUnheld_iff]

theorem bridge_hold_iff : ((s.bridge l).any fun c => decide (c.pos = p) && c.place.isHold) = true ↔
    ∃ c ∈ s.cxm.conns, c.line = l ∧ c.pos = p ∧ c.place = .hold := by
  rw [bridge_any_iff s l (fun q => decide (q = p)) _ fun x hx => isHandset_iff.2 (.inr (isHold_iff.1 hx))]
  simp only [decide_eq_true_eq, isHold_iff]

theorem share_match {α : Type} (a b : α) :
    (match s.share l with | .exclusive _ => a | _ => b) =
      if (s.bridge l).length = 1 ∧ s.cxm.privacy[l] = true then a else b := by
  split
  · rename_i h hs
    exact (if_pos ((share_exclusive_iff s l).1 ⟨h, hs⟩)).symm
  · rename_i h
    exact (if_neg fun hx => (share_exclusive_iff s l).2 hx |>.elim h).symm

/-- R44: with no unheld handset, a line that has handsets has held ones alone. -/
theorem bridge_held_iff
    (mine : ¬ ∃ c ∈ s.cxm.conns, c.line = l ∧ c.pos = p ∧ (c.place = .left ∨ c.place = .right))
    (other : ¬ ∃ c ∈ s.cxm.conns, c.line = l ∧ c.pos ≠ p ∧ (c.place = .left ∨ c.place = .right)) :
    (!(s.bridge l).isEmpty) = true ↔ s.bridge l ≠ [] ∧ ∀ c ∈ s.bridge l, c.place = .hold := by
  have held : ∀ c ∈ s.bridge l, c.place = .hold := by
    intro c hc
    obtain ⟨hc, hl, hp⟩ := (mem_bridge s l).1 hc
    obtain hu | hp := isHandset_iff.1 hp
    · by_cases hpos : c.pos = p
      · exact absurd ⟨c, hc, hl, hpos, isUnheld_iff.1 hu⟩ mine
      · exact absurd ⟨c, hc, hl, hpos, isUnheld_iff.1 hu⟩ other
    · exact hp
  simpa using fun _ => held

/-- R44: the relation of a line key by the rows of the table. -/
theorem lineRelation_eq :
    let r := s.line l
    let mine := ∃ c ∈ s.cxm.conns, c.line = l ∧ c.pos = p ∧ (c.place = .left ∨ c.place = .right)
    let other := ∃ c ∈ s.cxm.conns, c.line = l ∧ c.pos ≠ p ∧ (c.place = .left ∨ c.place = .right)
    s.lineRelation p l =
      if r.state = .disabled then .disabled
      else if r.state = .fault then .fault
      else if mine ∧ r.state = .callingOut then .callingOutMine
      else if mine ∧ r.state = .active ∧ r.far = .idle then .farCleared
      else if mine then .activeMine
      else if ∃ c ∈ s.cxm.conns, c.line = l ∧ c.pos = p ∧ c.place = .hold then .heldMine
      else if r.state = .ringingIn then .ringing
      else if r.state = .unanswered then .unanswered
      else if (s.bridge l).length = 1 ∧ s.cxm.privacy[l] = true then .privateOther
      else if other ∨ (r.cfg.kind = .hootLeg ∧ r.state = .active) then .activeOther
      else if s.bridge l ≠ [] ∧ ∀ c ∈ s.bridge l, c.place = .hold then .heldOther
      else .idle := by
  intro r mine other
  have mine_iff := bridge_mine_iff s p l
  unfold State.lineRelation
  refine ite_congr rfl (fun _ => rfl) fun _ => ite_congr rfl (fun _ => rfl) fun _ =>
    ite_congr ?_ (fun _ => rfl) fun _ => ite_congr ?_ (fun _ => rfl) fun _ =>
    ite_congr (propext mine_iff) (fun _ => rfl) fun unmine => ite_congr ?_ (fun _ => rfl) fun _ =>
    ite_congr rfl (fun _ => rfl) fun _ => ite_congr rfl (fun _ => rfl) fun _ =>
    (share_match s l _ _).trans <| ite_congr rfl (fun _ => rfl) fun _ =>
    ite_congr ?_ (fun _ => rfl) fun unother => ite_congr ?_ (fun _ => rfl) fun _ => rfl
  · simp only [Bool.and_eq_true, decide_eq_true_eq, mine_iff]; rfl
  · simp only [Bool.and_eq_true, decide_eq_true_eq, mine_iff, and_assoc]; rfl
  · exact propext (bridge_hold_iff s p l)
  · simp only [Bool.or_eq_true, Bool.and_eq_true, decide_eq_true_eq, bridge_other_iff]; rfl
  · exact propext (bridge_held_iff s p l unmine fun h => unother (.inl h))

/-! #### Keys -/

theorem relation_denied (h : ∃ d : Denial, (s.position p).denial = some d ∧ d.key = k) : s.relation p k = .denied := by
  unfold State.relation
  exact if_pos ((denied_iff s p k).2 h)

section
variable {s p k} (h : ¬ ∃ d : Denial, (s.position p).denial = some d ∧ d.key = k)
include h

theorem relation_line {l : LineNo} (ha : (s.key p k).action = .line l) : s.relation p k = s.lineRelation p l := by
  rw [← denied_iff] at h
  simp only [State.relation, h, if_false, ha, Bool.false_eq_true]

theorem relation_group {g : GroupNo}
    (ha : (s.key p k).action = .talkGroup g ∨ ∃ c, (s.key p k).action = .talkSpeaker c ∧ s.assign p c = .group g) :
    s.relation p k = s.talkRelation p g := by
  rw [← denied_iff] at h
  obtain ha | ⟨c, ha, hg⟩ := ha
  · simp only [State.relation, h, if_false, ha, Bool.false_eq_true]
  · simp only [State.relation, h, if_false, ha, hg, Bool.false_eq_true]

theorem relation_monitor {c : SpkNo} {l : LineNo} (ha : (s.key p k).action = .talkSpeaker c) (hl : s.assign p c = .line l) :
    (s.connAt p (.spk c) = none → s.relation p k = .idle) ∧
      ∀ x : Conn, s.connAt p (.spk c) = some x → s.relation p k = if x.talk then .talking else .idle := by
  rw [← denied_iff] at h
  refine ⟨fun hc => ?_, fun x hc => ?_⟩
  · simp only [State.relation, h, if_false, ha, hl, hc, Bool.false_eq_true]
  · simp only [State.relation, h, if_false, ha, hl, hc, Bool.false_eq_true]

theorem relation_unassigned {c : SpkNo} (ha : (s.key p k).action = .talkSpeaker c) (hn : s.assign p c = .none) :
    s.relation p k = .idle := by
  rw [← denied_iff] at h
  simp only [State.relation, h, if_false, ha, hn, Bool.false_eq_true]

theorem relation_record (ha : (s.key p k).action = .record) :
    (s.connAt p (handsetPlace (s.position p).selected) = none → s.relation p k = .idle) ∧
      ∀ x : Conn, s.connAt p (handsetPlace (s.position p).selected) = some x →
        s.relation p k = if s.demand x.line then .recordOn else .idle := by
  rw [← denied_iff] at h
  refine ⟨fun hc => ?_, fun x hc => ?_⟩
  · simp only [State.relation, h, if_false, ha, State.recordRelation, hc, Bool.false_eq_true]
  · simp only [State.relation, h, if_false, ha, State.recordRelation, hc, Bool.false_eq_true]

theorem relation_unlit (ha : (s.key p k).action = .none ∨ (s.key p k).action = .release ∨ (s.key p k).action = .hold ∨
    (s.key p k).action = .ring ∨ (s.key p k).action = .privacy ∨ (s.key p k).action = .host) : s.relation p k = .idle := by
  rw [← denied_iff] at h
  obtain ha | ha | ha | ha | ha | ha := ha <;> simp only [State.relation, h, if_false, ha, Bool.false_eq_true]

end

theorem talkRelation_eq (g : GroupNo) : s.talkRelation p g =
    if ∃ e ∈ (s.group g).talkers, e.pos = p then .talking
    else if ∃ e ∈ (s.group g).waits, e.pos = p then .talkWaiting
    else .idle := by
  have talks : (s.group g).talks p = true ↔ ∃ e ∈ (s.group g).talkers, e.pos = p := by simp [GroupRec.talks]
  have waits : (s.group g).waitsFor p = true ↔ ∃ e ∈ (s.group g).waits, e.pos = p := by simp [GroupRec.waitsFor]
  simp only [State.talkRelation, talks, waits]

end

/-! #### The lane and the counts -/

section
variable (s : State) (f : Inbound)

theorem sendFrames_cells_closed (h : s.mga.phase = .init ∨ s.portUp s.mgmtPort = false) :
    s.sendFrames.lif.sent.cells = [] := by
  have closed : s.laneOpen = false := by
    obtain h | h := h <;> simp [State.laneOpen, h]
  simp [State.sendFrames, closed]

theorem sendFrames_cells_open (h : s.mga.phase ≠ .init) (up : s.portUp s.mgmtPort = true) :
    s.sendFrames.lif.sent.cells = (Mga.lane 4 s.mga).1 := by
  have opened : s.laneOpen = true := by simp [State.laneOpen, h, up]
  simp [State.sendFrames, opened, Config.laneSlots]

/-- What the period sends and the fields that its frames leave are those that the sending set. -/
theorem framePeriod_lif : (s.framePeriod f).lif.sent = s.sendFrames.lif.sent ∧
    (s.framePeriod f).lif.frames = s.lif.frames + 1 ∧ (s.framePeriod f).lif.mgmtLink = s.lif.mgmtLink ∧
    (s.framePeriod f).lif.rstLow = s.lif.rstLow := by
  have kept := (keeps_inboundPeriod (s.sendFrames.storeSamples f) f).lif
  rw [(framePeriod_ended s f).lif, kept]
  exact ⟨rfl, rfl, rfl, rfl⟩

theorem framePeriod_clock :
    (s.framePeriod f).cdu.clock = s.cdu.clock + if (s.lif.frames + 1) % 80 = 0 then 1 else 0 := by
  have kept := keeps_inboundPeriod (s.sendFrames.storeSamples f) f
  rw [framePeriod_eq, initBound_cdu, periodStep_clock, kept.clock, kept.lif]
  rfl

theorem framePeriod_init (h : s.mga.phase = .init) :
    (s.framePeriod f).mga.phase = if 32 ≤ s.lif.frames + 1 then .held else .init := by
  have kept := keeps_inboundPeriod (s.sendFrames.storeSamples f) f
  have init : (s.sendFrames.storeSamples f).mga.phase = .init := (sendFrames_phase s).trans h
  rw [framePeriod_eq, initBound_phase, (periodStep_ended _).lif, kept.lif]
  · rfl
  · rw [periodStep_phase]; exact kept.init init

end

/-- Settles O19. -/
theorem framePeriodSendsAndCounts : Obligations.FramePeriodSendsAndCounts := by
  refine ⟨fun f s awake => ?_, rfl, fun s l => ?_, fun s p k => ?_⟩
  · obtain ⟨sent, frames, link, rst⟩ := framePeriod_lif s f
    refine ⟨_, exec_framePeriod awake f, frames, link, rst.trans awake, ?_⟩
    rw [sent]
    refine ⟨rfl, rfl, fun l => ?_, fun p => ?_, sendFrames_cells_closed s, sendFrames_cells_open s,
      framePeriod_clock s f, framePeriod_init s f⟩
    · simp [State.sendFrames]
    · simp [State.sendFrames]
  · intro r quiet
    refine ⟨fun held => by simp [State.outSignal, running_eq_false.2 held], fun run => ⟨fun n hn hd => ?_, fun hq h => ?_,
      fun hq h => ?_, fun hn h => ⟨fun ha => ?_, fun ha => ?_⟩⟩⟩
    · rw [outSignal_burst run hn, hd]; rfl
    · have still : r.state ≠ .callingOut := by rintro e; simp [e] at h
      rw [outSignal_quiet run hq still]
      obtain h | h := h <;> rw [h] <;> rfl
    · have still : r.state ≠ .callingOut := by rintro e; simp [e] at h
      rw [outSignal_quiet run hq still]
      obtain h | h | h | h | h := h <;> rw [h] <;> rfl
    · rw [outSignal_noBurst run hn, if_pos ⟨h, ha⟩]
    · rw [outSignal_noBurst run hn, if_neg fun hc => ha hc.2, h]; rfl
  · refine ⟨lampImage_off s p k, fun run on => ?_, relation_denied s p k, fun shown => ⟨fun l ha => ?_, fun g ha => ?_,
      fun c l => relation_monitor shown, fun c => relation_unassigned shown, relation_record shown, relation_unlit shown⟩⟩
    · exact lampImage_on s p k run on
    · rw [relation_line shown ha]
      exact lineRelation_eq s p l
    · rw [relation_group shown ha]
      exact talkRelation_eq s p g

end Sys2Proof.Machine

/-! ### A far signal by the line's state (O20) -/

namespace Sys2Proof.Machine

/-- R17, R7: the removal of a line's connections leaves a line in FAULT as it was, but for its totals. -/
theorem removeLine_faulted {s : State} {l : LineNo} (hs : (s.line l).state = .fault) (cause : ConnectCause) :
    ∃ totals, (s.removeLine l cause).line l = { s.line l with totals := totals } := by
  by_cases h : s.lineConns l = []
  · exact ⟨_, by rw [removeLine_still cause h]⟩
  · let u := s.dropConns (fun c => c.line = l) cause
    have same : u.line l = s.line l := (does_dropConns_table s _ _ : Does tableOnly s u).line l id
    refine ⟨u.totalsNow l, ?_⟩
    rw [removeLine_eq cause h, notify_line, State.report, same]
    have silent (v : State) (a b : Totals) (hv : (v.line l).state = .fault) : v.connectionEvent l a b = v := by
      unfold State.connectionEvent
      simp only [hv]
    rw [silent _ _ _ (by simpa using hs), ite_self, State.setLine_line_self]

/-- R4: the signal recorded at the line, whatever it then causes. -/
def State.heard (s : State) (l : LineNo) (f : FarSignal) : State := s.setLine l { s.line l with far := f }

/-- The line enters a state on a far signal, with its LINE occurrence. -/
def State.heardEnter (s : State) (l : LineNo) (f : FarSignal) (new : LineState) (ring : Timer) (burst : Option CgNo)
    (why : LineCause) : State :=
  (s.setLine l { s.line l with
    far := f, state := new, ring := ring, answer := .stopped, hang := .stopped, guard := .stopped, faultClear := false
    ringPending := burst }).raise (.line l (s.line l).state new why)

section
variable {s : State} {l : LineNo} {f : FarSignal} {c : LineCause}

@[simp] theorem heard_line : (s.heard l f).line l = { s.line l with far := f } := State.setLine_line_self s l _

theorem heard_setLine (r : LineRec) : (s.heard l f).setLine l r = s.setLine l r := setLine_setLine s l _ r

theorem heard_running : (s.heard l f).running = s.running := rfl

theorem heard_moveLine (run : s.running = true) (new : LineState) (why : LineCause) : (s.heard l f).moveLine l new why =
    (s.setLine l (LineRec.enter { s.line l with far := f } new)).raise (.line l (s.line l).state new why) := by
  rw [moveLine_running (heard_running.trans run), heard_line, heard_setLine]

theorem heard_enter (run : s.running = true) {new : LineState} {ring : Timer} {burst : Option CgNo} (why : LineCause)
    (h : LineRec.enter { s.line l with far := f } new = { s.line l with
      far := f, state := new, ring := ring, answer := .stopped, hang := .stopped, guard := .stopped, faultClear := false
      ringPending := burst }) :
    (s.heard l f).moveLine l new why = s.heardEnter l f new ring burst why := by
  rw [heard_moveLine run, h]
  rfl

variable (run : s.running = true) (hf : (s.line l).far ≠ f)

theorem farSignal_heard (h : (s.line l).far ≠ f) (run : s.running = true) :
    s.farSignal c l f = (s.heard l f).farChange l (s.line l).far c := by
  unfold State.farSignal
  rw [if_neg h]
  exact if_pos (heard_running.trans run)

theorem farSignal_kept (h : (s.line l).far ≠ f) (hr : s.mga.phase ≠ .running ∨ (s.line l).state = .disabled) :
    s.farSignal c l f = s.heard l f := by
  cases run : s.running with
  | false =>
    unfold State.farSignal
    rw [if_neg h]
    exact if_neg fun h => Bool.false_ne_true (run.symm.trans h)
  | true =>
    have hd : (s.line l).state = .disabled := hr.resolve_left fun h => h (of_decide_eq_true run)
    rw [farSignal_heard h run]
    unfold State.farChange
    simp only [heard_line, hd]

include run hf

/-- R17: a line in service enters FAULT on LOSS. -/
theorem farSignal_loss (hl : f = .loss) (hd : (s.line l).state ≠ .disabled) (hn : (s.line l).state ≠ .fault) :
    s.farSignal c l f = (s.heard l f).enterFault l c := by
  rw [farSignal_heard hf run]
  unfold State.farChange
  simp only [heard_line, hl, if_true]
  cases h : (s.line l).state
  case disabled => exact absurd h hd
  case fault => exact absurd h hn
  all_goals rfl

omit hf in
theorem enterFault_heard : (s.heard l f).enterFault l c = (s.heardEnter l f .fault .stopped none c).removeLine l .fault := by
  unfold State.enterFault
  rw [heard_enter (ring := .stopped) (burst := none) run c rfl]

theorem farSignal_fault_loss (hs : (s.line l).state = .fault) (hl : f = .loss) : s.farSignal c l f =
    s.setLine l { s.line l with
      far := f, guard := .stopped
      faultClear := if (s.line l).cfg.faultMode = .latched then false else (s.line l).faultClear } := by
  have fresh : s.farSignal c l f = (s.heard l f).freshFault l := by
    rw [farSignal_heard hf run]
    unfold State.farChange
    simp only [heard_line, hs, hl, if_true]
  rw [fresh, State.freshFault, heard_setLine, heard_line]
  cases (s.line l).cfg.faultMode <;> simp only [if_true, reduceCtorEq, if_false]

theorem farSignal_fault_kept (hs : (s.line l).state = .fault) (hl : f ≠ .loss) (hr : (s.line l).far ≠ .loss) :
    s.farSignal c l f = s.heard l f := by
  rw [farSignal_heard hf run]
  unfold State.farChange
  simp only [heard_line, hs, if_neg hl, if_neg hr]

/-- R18: LOSS goes: the guard timer starts. -/
theorem farSignal_fault_guard (hs : (s.line l).state = .fault) (hr : (s.line l).far = .loss) :
    s.farSignal c l f = (s.heard l f).startGuard l := by
  have hl : f ≠ .loss := fun e => hf (hr.trans e.symm)
  rw [farSignal_heard hf run]
  unfold State.farChange
  simp only [heard_line, hs, if_neg hl, if_pos hr]

omit run hf in
theorem startGuard_running (hg : (s.line l).cfg.faultGuard ≠ 0) : (s.heard l f).startGuard l =
    s.setLine l { s.line l with far := f, guard := .running (s.line l).cfg.faultGuard } := by
  unfold State.startGuard
  simp only [heard_line, if_neg hg, heard_setLine]

omit hf in
/-- R18: a guard length of 0 expires at its start. -/
theorem startGuard_expiry (hs : (s.line l).state = .fault) (hg : (s.line l).cfg.faultGuard = 0) :
    (s.heard l f).startGuard l =
      (s.setLine l { s.line l with far := f, guard := .running 1 }).guardExpiry l := by
  unfold State.startGuard
  rw [guardExpiry_eq (s := s.setLine l { s.line l with far := f, guard := .running 1 }) run (by simpa using hs) (by simp [Timer.isRunning])]
  simp only [heard_line, if_pos hg, heard_setLine, State.guardExpired, setLine_setLine, State.setLine_line_self]

theorem farSignal_idle (hs : (s.line l).state = .idle) (hl : f ≠ .loss) : s.farSignal c l f =
    if (s.line l).cfg.kind.isWire = true ∧ offHook f = true then (s.heard l f).moveLine l .ringingIn .farCall
    else s.heard l f := by
  rw [farSignal_heard hf run]
  unfold State.farChange
  simp only [heard_line, hs, if_neg hl, Bool.and_eq_true]

theorem farSignal_ringing (hs : (s.line l).state = .ringingIn ∨ (s.line l).state = .unanswered) (hl : f ≠ .loss) :
    s.farSignal c l f = if f = .idle then (s.heard l f).farGone l
      else s.setLine l { s.line l with far := f, hang := .stopped } := by
  rw [farSignal_heard hf run]
  unfold State.farChange
  obtain hs | hs := hs <;> simp only [heard_line, hs, if_neg hl, heard_setLine]

omit run hf in
theorem farGone_heard : (s.heard l f).farGone l = if (s.line l).cfg.ringHang = 0 then (s.heard l f).moveLine l .idle .abandoned
    else s.setLine l { s.line l with far := f, hang := .running ((s.line l).cfg.ringHang * 10) } := by
  unfold State.farGone
  simp only [heard_line, heard_setLine]

theorem farSignal_calling (hs : (s.line l).state = .callingOut) (hl : f ≠ .loss) : s.farSignal c l f =
    if offHook f = true ∧ (s.line l).answer ≠ .expired then
      (s.heard l f).moveLine l (if (s.line l).totals.allHeld then .held else .active) .farAnswer
    else s.heard l f := by
  rw [farSignal_heard hf run]
  unfold State.farChange State.farAnswer
  simp only [heard_line, hs, if_neg hl]
  split_ifs <;> simp_all

theorem farSignal_up (hs : (s.line l).state = .active ∨ (s.line l).state = .held) (hl : f ≠ .loss) : s.farSignal c l f =
    if f = .idle then (s.heard l f).raise (.farCleared l (s.line l).state) else s.heard l f := by
  have raised (o : Occurrence) : (s.heard l f).raiseRunning o = (s.heard l f).raise o :=
    raiseRunning_of_running (heard_running.trans run) o
  rw [farSignal_heard hf run]
  unfold State.farChange
  obtain hs | hs := hs <;> simp only [heard_line, hs, if_neg hl, raised]

end

end Sys2Proof.Machine

/-! ### Positions that go offline and come online (O20) -/

namespace Sys2Proof.Machine

/-! #### Groups without the positions that are gone (R125) -/

/-- R125: a group with no entry and no mark of the positions. -/
def GroupRec.freeOf (ps : List PosNo) (r : GroupRec) : Prop :=
  ∀ p ∈ ps, r.talks p = false ∧ r.waitsFor p = false ∧ p ∉ r.marks

/-- R125: a group after the positions' entries and marks went. -/
def GroupRec.without (ps : List PosNo) (r : GroupRec) : GroupRec :=
  { r with
    talkers := r.talkers.filter fun e => !ps.contains e.pos
    waits := r.waits.filter fun e => !ps.contains e.pos
    marks := r.marks.filter fun q => !ps.contains q }

section
variable {ps : List PosNo} {r : GroupRec}

theorem freeOf_iff : r.freeOf ps ↔ (∀ e ∈ r.talkers, e.pos ∉ ps) ∧ (∀ e ∈ r.waits, e.pos ∉ ps) ∧ ∀ q ∈ r.marks, q ∉ ps := by
  simp only [GroupRec.freeOf, GroupRec.talks, GroupRec.waitsFor, List.any_eq_false, decide_eq_true_eq]
  constructor
  · intro h
    exact ⟨fun e he hp => (h _ hp).1 e he rfl, fun e he hp => (h _ hp).2.1 e he rfl, fun q hq hp => (h q hp).2.2 hq⟩
  · rintro ⟨ht, hw, hm⟩ p hp
    exact ⟨fun e he h => ht e he (h ▸ hp), fun e he h => hw e he (h ▸ hp), fun hq => hm p hq hp⟩

theorem freeOf_without : (r.without ps).freeOf ps := by
  rw [freeOf_iff]
  simp [GroupRec.without]

theorem without_eq (h : r.freeOf ps) : r.without ps = r := by
  obtain ⟨ht, hw, hm⟩ := freeOf_iff.1 h
  unfold GroupRec.without
  rw [List.filter_eq_self.2 fun e he => by simp [ht e he], List.filter_eq_self.2 fun e he => by simp [hw e he],
    List.filter_eq_self.2 fun q hq => by simp [hm q hq]]

end

section
variable {s t : State} {g x : GroupNo} {ps : List PosNo}

theorem talkEvents_group (kind : TalkKind) (cause : Option TalkCause) (waiting : Bool) (es : List TalkEntry) (s : State) :
    (es.foldl (fun s e => s.talkEvent kind x e cause waiting) s).group g = s.group g := by
  have raised : Does (fun _ => False) s (es.foldl (fun s e => s.talkEvent kind x e cause waiting) s) :=
    does_raises (fun e : TalkEntry => .talk kind x e.pos e.cls cause waiting) es s
  unfold State.group
  rw [raised.gtu]

theorem dropOffline_group (s : State) : (State.dropOffline ps s g).group g = (s.group g).without ps := by
  unfold State.dropOffline
  rw [talkEvents_group, talkEvents_group, State.setGroup_group_self]
  rfl

theorem dropOffline_group_ne (s : State) (h : x ≠ g) : (State.dropOffline ps s x).group g = s.group g := by
  unfold State.dropOffline
  rw [talkEvents_group, talkEvents_group, State.setGroup_group_ne _ _ h]

theorem talkCheck_group {p : PosNo} (h : s.talkCheck x p = some t) : t.group g = s.group g := (otherGroup_talkCheck h).group

theorem freeOf_promoteEntry (e : TalkEntry) (he : e.pos ∉ ps) (h : (s.group g).freeOf ps) :
    ((State.promoteEntry g s e).group g).freeOf ps := by
  unfold State.promoteEntry
  split
  · split
    · next u hu =>
      obtain ⟨ht, hw, hm⟩ := freeOf_iff.1 h
      have raised (v : State) (o : Occurrence) : (v.raiseRunning o).group g = v.group g := State.raiseRunning_group v o g
      rw [State.talkEvent, raised, State.setGroup_group_self, talkCheck_group hu, freeOf_iff]
      refine ⟨fun a ha => ?_, fun a ha => hw a (List.mem_of_mem_erase ha), hm⟩
      obtain ha | ha := List.mem_append.1 ha
      · exact ht a ha
      · rw [List.mem_singleton.1 ha]
        exact he
    · exact h
  · exact h

/-- R125: a promotion brings none of the positions back. -/
theorem freeOf_promote (x : GroupNo) (h : (s.group g).freeOf ps) : ((s.promote x).group g).freeOf ps := by
  by_cases hx : x = g
  · subst hx
    have walk (es : List TalkEntry) (hes : ∀ e ∈ es, e.pos ∉ ps) (s : State) (h : (s.group x).freeOf ps) :
        ((es.foldl (State.promoteEntry x) s).group x).freeOf ps := by
      induction es generalizing s with
      | nil => exact h
      | cons e es ih =>
        exact ih (fun a ha => hes a (by simp [ha])) _ (freeOf_promoteEntry e (hes e (by simp)) h)
    exact walk _ (freeOf_iff.1 h).2.1 s h
  · rw [(otherGroup_promote hx s).group]
    exact h

theorem noticeGroups_group (gs : List GroupNo) : (s.noticeGroups gs).group g = s.group g := by
  unfold State.group
  rw [(does_noticeGroups (K := recordingOnly) trivial s gs).gtu]

/-- The groups that a talk offline drops entries and marks of. -/
def State.offlineGroups (s : State) (ps : List PosNo) : List GroupNo :=
  (List.finRange 64).filter fun g =>
    ps.any (fun p => (s.group g).talks p || (s.group g).waitsFor p || (s.group g).marks.contains p)

/-- The groups whose talker set a talk offline reduces. -/
def State.offlineTalks (s : State) (ps : List PosNo) : List GroupNo :=
  (List.finRange 64).filter fun g => ps.any (s.group g).talks

theorem talkOffline_eq (s : State) (ps : List PosNo) : s.talkOffline ps =
    ((s.offlineTalks ps).foldl State.promote ((s.offlineGroups ps).foldl (State.dropOffline ps) s)).noticeGroups
      (s.offlineTalks ps) := rfl

theorem not_mem_offlineGroups : g ∉ s.offlineGroups ps ↔ (s.group g).freeOf ps := by
  simp [State.offlineGroups, GroupRec.freeOf, and_assoc]

theorem not_mem_offlineTalks (h : (s.group g).freeOf ps) : g ∉ s.offlineTalks ps := by
  simpa [State.offlineTalks] using fun p hp => (h p hp).1

/-- R125: each group after the positions' entries and marks went. -/
theorem dropOfflines_group (s : State) :
    ((s.offlineGroups ps).foldl (State.dropOffline ps) s).group g = (s.group g).without ps := by
  by_cases hg : g ∈ s.offlineGroups ps
  · obtain ⟨u, before, after⟩ := foldl_split (fun a b => b.group g = a.group g) (fun _ => rfl) (fun h k => k.trans h)
      (f := State.dropOffline ps) (ls := s.offlineGroups ps) ((List.nodup_finRange 64).filter _) hg (fun y x hx => dropOffline_group_ne y hx) s
    rw [after, dropOffline_group, before]
  · rw [without_eq (not_mem_offlineGroups.1 hg)]
    have keep (ls : List GroupNo) (h : g ∉ ls) (y : State) : (ls.foldl (State.dropOffline ps) y).group g = y.group g := by
      induction ls generalizing y with
      | nil => rfl
      | cons x ls ih =>
        rw [List.mem_cons, not_or] at h
        rw [List.foldl_cons, ih h.2, dropOffline_group_ne _ (Ne.symm h.1)]
    exact keep _ hg s

theorem talkOffline_free (s : State) : ((s.talkOffline ps).group g).freeOf ps := by
  rw [talkOffline_eq, noticeGroups_group]
  have walk (ls : List GroupNo) (y : State) (h : (y.group g).freeOf ps) : ((ls.foldl State.promote y).group g).freeOf ps := by
    induction ls generalizing y with
    | nil => exact h
    | cons x ls ih => exact ih _ (freeOf_promote x h)
  exact walk _ _ (by rw [dropOfflines_group]; exact freeOf_without)

theorem talkOffline_group (h : (s.group g).freeOf ps) : (s.talkOffline ps).group g = s.group g := by
  rw [talkOffline_eq, noticeGroups_group]
  have walk (ls : List GroupNo) (hg : g ∉ ls) (y : State) : (ls.foldl State.promote y).group g = y.group g := by
    induction ls generalizing y with
    | nil => rfl
    | cons x ls ih =>
      rw [List.mem_cons, not_or] at hg
      rw [List.foldl_cons, ih hg.2, (otherGroup_promote (Ne.symm hg.1) y).group]
  rw [walk _ (not_mem_offlineTalks h), dropOfflines_group, without_eq h]

theorem talkOffline_still (h : ∀ g, (s.group g).freeOf ps) : s.talkOffline ps = s := by
  rw [talkOffline_eq, List.eq_nil_iff_forall_not_mem.2 fun g => not_mem_offlineTalks (h g),
    List.eq_nil_iff_forall_not_mem.2 fun g => not_mem_offlineGroups.2 (h g)]
  rfl

end

/-! #### Going offline (R29, R69, R174) -/

/-- What LNC's reports and PRS's notices write. -/
def noticeParts : Touch → Prop
  | .recording => True
  | .line _ => True
  | .demand _ => True
  | _ => False

theorem does_notify_parts (s : State) (rs ns : List LineNo) : Does noticeParts s (s.notify rs ns) :=
  does_notify trivial s rs ns (fun _ _ => trivial) fun _ _ => trivial

section
variable {s : State} {ps : List PosNo}

theorem removeConns_still {gone : Conn → Bool} (cause : ConnectCause) (h : s.cxm.conns.filter gone = []) :
    s.removeConns gone cause = s := by
  unfold State.removeConns
  rw [h]
  rfl

theorem removeConns_conns (gone : Conn → Bool) (cause : ConnectCause) :
    (s.removeConns gone cause).cxm.conns = s.cxm.conns.filter fun c => !gone c := by
  unfold State.removeConns
  simp only
  split
  · next h =>
    have none : ∀ c ∈ s.cxm.conns, gone c = false := fun c hc => by
      by_contra hg
      have : c.line ∈ linesOf (s.cxm.conns.filter gone) :=
        mem_linesOf.2 ⟨c, List.mem_filter.2 ⟨hc, by simpa using hg⟩, rfl⟩
      simp [List.isEmpty_iff.1 h] at this
    exact (List.filter_eq_self.2 fun c hc => by simp [none c hc]).symm
  · rw [(does_notify_parts _ _ _).conns, dropConns_conns]

theorem quietPositions_position (p : PosNo) (s : State) : (ps.foldl State.quietPosition s).position p =
    if p ∈ ps then (s.position p).quiet else s.position p := by
  induction ps generalizing s with
  | nil => rfl
  | cons q ps ih =>
    have one : (s.quietPosition q).position p = if p = q then (s.position p).quiet else s.position p := by
      rw [State.quietPosition, State.raise_position]
      split
      · next h => rw [h, State.setPosition_position_self]
      · next h => rw [State.setPosition_position_ne _ _ (Ne.symm h)]
    rw [List.foldl_cons, ih, one]
    by_cases h : p = q
    · by_cases hp : p ∈ ps <;> simp [h, PositionRec.quiet]
    · simp [h]

/-- What PSC's part of going offline writes. -/
def pscOnly : Touch → Prop
  | .psc => True
  | _ => False

theorem does_quietPositions (s : State) : Does pscOnly s (ps.foldl State.quietPosition s) :=
  .foldl _ _ (fun s p _ => does_quietPosition trivial s p) s

/-- The footprint of CXM's and GTU's parts of going offline. -/
def offlineParts : Touch → Prop
  | .gtu => True
  | k => callsOn (fun _ => True) k

theorem does_offlineParts (s : State) (ps : List PosNo) : Does offlineParts s ((s.removePositions ps).talkOffline ps) :=
  (does_removeAny ⟨trivial, trivial, fun _ _ => trivial, fun _ _ => trivial, fun _ _ => trivial⟩ s _ _).trans
    (does_talkOffline trivial trivial _ ps)

theorem goOffline_conns : (s.goOffline ps).cxm.conns = s.cxm.conns.filter fun c => c.pos ∉ ps := by
  unfold State.goOffline
  rw [(does_quietPositions _).conns, (does_talkOffline (K := talkOnly) trivial trivial _ ps).conns, State.removePositions,
    removeConns_conns]
  simp

theorem goOffline_position (p : PosNo) : (s.goOffline ps).position p =
    if p ∈ ps then (s.position p).quiet else s.position p := by
  unfold State.goOffline
  rw [quietPositions_position]
  simp only [State.position, (does_offlineParts s ps).psc]

theorem goOffline_free (g : GroupNo) : ((s.goOffline ps).group g).freeOf ps := by
  unfold State.goOffline State.group
  rw [(does_quietPositions _).gtu]
  exact talkOffline_free (g := g) _

theorem goOffline_group {g : GroupNo} (h : (s.group g).freeOf ps) : (s.goOffline ps).group g = s.group g := by
  have removed : (s.removePositions ps).group g = s.group g := by
    unfold State.group State.removePositions
    rw [(does_removeAny (calls_callsOn fun _ => True) s _ _).gtu]
  have quiet : (s.goOffline ps).group g = ((s.removePositions ps).talkOffline ps).group g := by
    unfold State.group State.goOffline
    rw [(does_quietPositions _).gtu]
  rw [quiet, talkOffline_group (removed ▸ h), removed]

theorem goOffline_still (hc : ∀ c ∈ s.cxm.conns, c.pos ∉ ps) (hg : ∀ g, (s.group g).freeOf ps) :
    s.goOffline ps = ps.foldl State.quietPosition s := by
  unfold State.goOffline State.removePositions
  rw [removeConns_still, talkOffline_still hg]
  exact List.filter_eq_nil_iff.2 fun c hc' => by simpa using hc c hc'

theorem goOffline_rest : (s.goOffline ps).lif = s.lif ∧ (s.goOffline ps).cdu = s.cdu ∧ (s.goOffline ps).mix = s.mix := by
  unfold State.goOffline
  have parts := does_offlineParts s ps
  have quiet := does_quietPositions (ps := ps) ((s.removePositions ps).talkOffline ps)
  exact ⟨quiet.lif.trans parts.lif, quiet.cdu.trans parts.cdu, quiet.mix.trans parts.mix⟩

end

/-! #### Coming online (R30, R70) -/

section
variable {s : State} {p : PosNo}

/-- R30: PSC's own part of a position's coming online. -/
def State.arrived (s : State) (p : PosNo) : State := (s.setPosition p (s.position p).quiet).raise (.online p)

/-- R70: the monitors of a position that are called for. -/
def State.positionDue (s : State) (p : PosNo) : List Conn :=
  ((List.finRange 8).map fun c => (p, c)).filterMap s.monitorRecord

theorem goOnline_still (h : (s.arrived p).positionDue p = []) : s.goOnline p = s.arrived p := by
  unfold State.goOnline State.makePositionMonitors State.makeMonitors
  exact if_pos (by rw [List.isEmpty_iff]; exact h)

/-- R30, R70: the monitors called for join the table, and LNC and PRS hear of their lines. -/
theorem goOnline_eq (h : (s.arrived p).positionDue p ≠ []) : s.goOnline p =
    ({ s.arrived p with cxm := { (s.arrived p).cxm with
      conns := (s.arrived p).cxm.conns ++ (s.arrived p).positionDue p } } : State).notify
      (linesOf ((s.arrived p).positionDue p)) (linesOf ((s.arrived p).positionDue p)) := by
  unfold State.goOnline State.makePositionMonitors State.makeMonitors
  exact if_neg (by rw [List.isEmpty_iff]; exact h)

theorem does_arrived : Does pscOnly s (s.arrived p) := (does_setPosition trivial s p _).note _

theorem goOnline_spec : (s.goOnline p).cxm.conns = s.cxm.conns ++ (s.arrived p).positionDue p ∧
    (∀ l : LineNo, (s.goOnline p).cxm.privacy[l] = s.cxm.privacy[l]) ∧ (s.goOnline p).psc = (s.arrived p).psc ∧
    (s.goOnline p).lif = s.lif ∧ (s.goOnline p).cdu = s.cdu ∧ (s.goOnline p).mix = s.mix ∧ (s.goOnline p).gtu = s.gtu := by
  have here : Does pscOnly s (s.arrived p) := does_arrived
  by_cases h : (s.arrived p).positionDue p = []
  · rw [goOnline_still h, h, List.append_nil]
    exact ⟨here.conns, fun l => here.privacy l, rfl, here.lif, here.cdu, here.mix, here.gtu⟩
  · have heard := does_notify_parts ({ s.arrived p with cxm := { (s.arrived p).cxm with
      conns := (s.arrived p).cxm.conns ++ (s.arrived p).positionDue p } } : State)
      (linesOf ((s.arrived p).positionDue p)) (linesOf ((s.arrived p).positionDue p))
    rw [← goOnline_eq h] at heard
    exact ⟨heard.conns.trans (congrArg (· ++ _) here.conns), fun l => (heard.privacy l).trans (here.privacy l), heard.psc,
      heard.lif.trans here.lif, heard.cdu.trans here.cdu, heard.mix.trans here.mix, heard.gtu.trans here.gtu⟩

theorem arrived_assign (q : PosNo) (c : SpkNo) : (s.arrived p).assign q c = s.assign q c := by
  unfold State.arrived State.assign
  rw [State.raise_psc]
  rfl

theorem monitorRecord_arrived (pc : PosNo × SpkNo) : (s.arrived p).monitorRecord pc = s.monitorRecord pc := by
  have here : Does pscOnly s (s.arrived p) := does_arrived
  unfold State.monitorRecord State.monitorDue State.connAt
  simp only [arrived_assign, here.running, here.online, here.now, here.conns, here.line _ id]

theorem positionDue_arrived : (s.arrived p).positionDue p = s.positionDue p := by
  unfold State.positionDue
  rw [funext monitorRecord_arrived]

theorem monitorRecord_eq_some {c : SpkNo} {l : LineNo} (ha : s.assign p c = .line l) : s.monitorRecord (p, c) =
    if s.mga.phase = .running ∧ s.online p = true ∧ (s.line l).state ≠ .disabled ∧ (s.line l).state ≠ .fault ∧
      (∀ x ∈ s.cxm.conns, x.pos = p → x.place ≠ .spk c)
    then some ({ line := l, pos := p, place := .spk c, talk := false, joined := s.cdu.clock } : Conn) else none := by
  have free : s.connAt p (.spk c) = none ↔ ∀ x ∈ s.cxm.conns, x.pos = p → x.place ≠ .spk c := by
    simp [State.connAt]
  have run : s.running = true ↔ s.mga.phase = .running := decide_eq_true_iff
  unfold State.monitorRecord State.monitorDue
  simp only [ha, ← free, ← run, Bool.and_eq_true, decide_eq_true_eq, Option.isNone_iff_eq_none, and_assoc]
  split <;> rfl

theorem monitorRecord_eq_none {c : SpkNo} (ha : ∀ l, s.assign p c ≠ .line l) : s.monitorRecord (p, c) = none := by
  unfold State.monitorRecord State.monitorDue
  cases h : s.assign p c with
  | line l => exact absurd h (ha l)
  | none => rfl
  | group g => rfl

end

end Sys2Proof.Machine

/-! ### The recorder port (O20) -/

namespace Sys2Proof.Machine

/-- An operation that writes channels and ready indications, and raises occurrences. -/
def RecorderOnly (s t : State) : Prop :=
  t = { s with rcu := { s.rcu with chans := t.rcu.chans, slotReady := t.rcu.slotReady }, mga := t.mga }

section
variable {s t u : State}

theorem RecorderOnly.refl (s : State) : RecorderOnly s s := rfl

theorem RecorderOnly.trans (h : RecorderOnly s t) (k : RecorderOnly t u) : RecorderOnly s u := by
  unfold RecorderOnly at h k ⊢
  rw [k, h]

theorem RecorderOnly.foldl {α : Type} (f : State → α → State) (ls : List α) (h : ∀ s a, RecorderOnly s (f s a)) (s : State) :
    RecorderOnly s (ls.foldl f s) := by
  induction ls generalizing s with
  | nil => exact .refl s
  | cons a ls ih => exact (h s a).trans (ih _)

theorem recorderOnly_raiseRunning (s : State) (o : Occurrence) : RecorderOnly s (s.raiseRunning o) := by
  unfold RecorderOnly
  rw [State.raiseRunning_eq]

theorem recorderOnly_suspend (cause : RecordCause) (s : State) (c : ChanNo) : RecorderOnly s (State.suspend cause s c) := by
  have put (r : Chan) : RecorderOnly s (s.setChan c r) := rfl
  unfold State.suspend
  split
  · exact (put _).trans (recorderOnly_raiseRunning _ _)
  · exact put _

theorem recorderOnly_resume (cause : RecordCause) (s : State) (c : ChanNo) : RecorderOnly s (State.resume cause s c) := by
  have put (r : Chan) : RecorderOnly s (s.setChan c r) := rfl
  unfold State.resume
  split
  · exact (put _).trans (recorderOnly_raiseRunning _ _)
  · exact put _

theorem recorderOnly_readyChange (s : State) (c : ChanNo) (old : Bool) : RecorderOnly s (s.readyChange c old) := by
  unfold State.readyChange
  split
  · exact .refl s
  · split
    · split
      · exact .refl s
      · exact recorderOnly_suspend _ s c
    · split
      · exact recorderOnly_resume _ s c
      · exact .refl s
    · exact .refl s
    · exact .refl s

theorem recorderOnly_slotReadyIn (s : State) (i : ChanNo) (b : Bool) : RecorderOnly s (s.slotReadyIn i b) :=
  RecorderOnly.trans (t := { s with rcu := { s.rcu with slotReady := s.rcu.slotReady.set i b } }) (by rfl)
    (recorderOnly_readyChange _ _ _)

/-! #### Channels that suspend and resume -/

theorem suspend_chan (cause : RecordCause) (s : State) (c d : ChanNo) : (State.suspend cause s c).chan d =
    if d = c then { s.chan d with state := .suspended } else s.chan d := by
  have put : (s.setChan c { s.chan c with state := .suspended }).chan d =
      if d = c then { s.chan d with state := .suspended } else s.chan d := by
    split
    · next h => rw [h, State.setChan_chan_self]
    · next h => rw [State.setChan_chan_ne _ _ (Ne.symm h)]
  unfold State.suspend
  split
  · rw [State.raiseRunning_chan, put]
  · exact put

theorem resume_chan (cause : RecordCause) (s : State) (c d : ChanNo) : (State.resume cause s c).chan d =
    if d = c then { s.chan d with state := .recording } else s.chan d := by
  have put : (s.setChan c { s.chan c with state := .recording }).chan d =
      if d = c then { s.chan d with state := .recording } else s.chan d := by
    split
    · next h => rw [h, State.setChan_chan_self]
    · next h => rw [State.setChan_chan_ne _ _ (Ne.symm h)]
  unfold State.resume
  split
  · rw [State.raiseRunning_chan, put]
  · exact put

/-- A change of state of each channel of a list. -/
theorem foldl_chan {f : State → ChanNo → State} {new : ChanState}
    (h : ∀ s c d, (f s c).chan d = if d = c then { s.chan d with state := new } else s.chan d) (ls : List ChanNo) (s : State)
    (d : ChanNo) : (ls.foldl f s).chan d = if d ∈ ls then { s.chan d with state := new } else s.chan d := by
  induction ls generalizing s with
  | nil => rfl
  | cons c ls ih =>
    rw [List.foldl_cons, ih, h]
    by_cases hc : d = c
    · by_cases hd : d ∈ ls <;> simp [hc]
    · simp [hc]

/-- R146: a channel of the present mode. -/
theorem mem_channels {c : ChanNo} : c ∈ s.channels ↔ s.rcu.mode = .mono ∨ c.val < 64 := by
  have hc := c.isLt
  cases h : s.rcu.mode <;> simp [State.channels, RecMode.channels, h]

theorem recorderLost_chan (c : ChanNo) : s.recorderLost.chan c =
    if (s.rcu.mode = .mono ∨ c.val < 64) ∧ (s.chan c).state = .recording then { s.chan c with state := .suspended }
    else s.chan c := by
  unfold State.recorderLost
  rw [foldl_chan (suspend_chan .port)]
  simp only [List.mem_filter, mem_channels, decide_eq_true_eq]

theorem recorderLost_only : s.recorderLost =
    { s with rcu := { s.rcu with chans := s.recorderLost.rcu.chans }, mga := s.recorderLost.mga } := by
  have only : RecorderOnly s s.recorderLost := .foldl _ _ (recorderOnly_suspend .port) s
  have ready : s.recorderLost.rcu.slotReady = s.rcu.slotReady := (does_recorderLost (K := notFar) trivial s).slotReady
  unfold RecorderOnly at only
  rwa [ready] at only

theorem recorderBack_held (h : s.mga.phase ≠ .running) : s.recorderBack = s := by
  unfold State.recorderBack
  rw [running_eq_false.2 h]
  rfl

/-- R161: with no waiting target and no waiting talk request there is nothing to serve. -/
theorem serve_still (hw : s.rcu.waiting = []) (hg : ∀ g : GroupNo, (s.group g).waits = []) : s.serve = s := by
  have none : s.tryPromotions = s := by
    unfold State.tryPromotions
    rw [List.filter_eq_nil_iff.2 fun g _ => by simp [hg g]]
    rfl
  unfold State.serve
  rw [hw]
  exact ite_eq_right_iff.2 fun _ => none

/-- The channels that the return of the recorder port resumes. -/
def State.resumes (s : State) : List ChanNo :=
  s.channels.filter fun c => decide ((s.chan c).state = .suspended) && s.chanReady c

theorem recorderBack_running (run : s.mga.phase = .running) (hw : s.rcu.waiting = [])
    (hg : ∀ g : GroupNo, (s.group g).waits = []) : s.recorderBack = s.resumes.foldl (State.resume .port) s := by
  have only : RecorderOnly s (s.resumes.foldl (State.resume .port) s) := .foldl _ _ (recorderOnly_resume .port) s
  have still := serve_still (s := s.resumes.foldl (State.resume .port) s) (by rw [only]; exact hw)
    fun g => by rw [only]; exact hg g
  unfold State.recorderBack
  rw [show s.running = true from decide_eq_true run]
  exact still

theorem recorderBack_chan (run : s.mga.phase = .running) (hw : s.rcu.waiting = [])
    (hg : ∀ g : GroupNo, (s.group g).waits = []) (c : ChanNo) : s.recorderBack.chan c =
      if (s.rcu.mode = .mono ∨ c.val < 64) ∧ (s.chan c).state = .suspended ∧ s.chanReady c = true
      then { s.chan c with state := .recording } else s.chan c := by
  rw [recorderBack_running run hw hg, foldl_chan (resume_chan .port)]
  simp only [State.resumes, List.mem_filter, mem_channels, Bool.and_eq_true, decide_eq_true_eq]

theorem recorderBack_only (run : s.mga.phase = .running) (hw : s.rcu.waiting = [])
    (hg : ∀ g : GroupNo, (s.group g).waits = []) : s.recorderBack =
      { s with rcu := { s.rcu with chans := s.recorderBack.rcu.chans }, mga := s.recorderBack.mga } := by
  have only : RecorderOnly s s.recorderBack := by
    rw [recorderBack_running run hw hg]
    exact .foldl _ _ (recorderOnly_resume .port) s
  have ready : s.recorderBack.rcu.slotReady = s.rcu.slotReady := (does_recorderBack (K := notFar) trivial trivial s).slotReady
  unfold RecorderOnly at only
  rwa [ready] at only

end

/-! #### Ready indications (R149, R156) -/

/-- R156: a channel whose ready goes from `old` to `new` while the port's UP value is `up`. -/
def Chan.onReady (up : Bool) (r : Chan) (old new : Bool) : Chan :=
  if old = new then r
  else match r.state with
    | .recording => if new then r else { r with state := .suspended }
    | .suspended => if new && up then { r with state := .recording } else r
    | .stopped => r
    | .closing => r

section
variable {s : State}

theorem readyChange_chan (run : s.running = true) (c d : ChanNo) (old : Bool) : (s.readyChange c old).chan d =
    if d = c then (s.chan d).onReady (s.portUp recPort) old (s.chanReady d) else s.chan d := by
  unfold State.readyChange Chan.onReady
  by_cases hd : d = c
  · subst hd
    rw [if_pos rfl]
    by_cases h : old = s.chanReady d
    · simp [run, h]
    · rw [if_neg (by simp [run, h]), if_neg h]
      cases (s.chan d).state <;> dsimp only
      · split <;> [rfl; (rw [suspend_chan, if_pos rfl])]
      · split <;> [(rw [resume_chan, if_pos rfl]); rfl]
  · rw [if_neg hd]
    split
    · rfl
    · split
      · split <;> [rfl; (rw [suspend_chan, if_neg hd])]
      · split <;> [(rw [resume_chan, if_neg hd]); rfl]
      · rfl
      · rfl

/-- The reads that decide what a ready change does, but for the indications. -/
structure SameUse (s t : State) : Prop where
  mode : t.rcu.mode = s.rcu.mode
  running : t.running = s.running
  up : t.portUp recPort = s.portUp recPort

theorem RecorderOnly.sameUse {s t : State} (h : RecorderOnly s t) (phase : t.mga.phase = s.mga.phase) : SameUse s t where
  mode := by rw [h]
  running := by simp only [State.running, phase]
  up := by rw [h]; rfl

theorem does_slotReadyIn (s : State) (i : ChanNo) (b : Bool) :
    Does notFar { s with rcu := { s.rcu with slotReady := s.rcu.slotReady.set i b } } (s.slotReadyIn i b) :=
  does_readyChange trivial _ _ _

theorem slotReadyIn_sameUse (s : State) (i : ChanNo) (b : Bool) : SameUse s (s.slotReadyIn i b) :=
  (recorderOnly_slotReadyIn s i b).sameUse (does_slotReadyIn s i b).phase

theorem slotReadyIn_chanReady (s : State) (i : ChanNo) (b : Bool) (c : ChanNo) : (s.slotReadyIn i b).chanReady c =
    ({ s with rcu := { s.rcu with slotReady := s.rcu.slotReady.set i b } } : State).chanReady c := by
  unfold State.chanReady
  simp only [(does_slotReadyIn s i b).slotReady, (does_slotReadyIn s i b).recMode]

theorem slotReadyIn_chan (run : s.running = true) (i : ChanNo) (b : Bool) (c : ChanNo) : (s.slotReadyIn i b).chan c =
    if c = s.slotChan i then (s.chan c).onReady (s.portUp recPort) (s.chanReady c) ((s.slotReadyIn i b).chanReady c)
    else s.chan c := by
  rw [slotReadyIn_chanReady]
  refine (readyChange_chan (s := { s with rcu := { s.rcu with slotReady := s.rcu.slotReady.set i b } }) run _ c _).trans ?_
  by_cases hc : c = s.slotChan i
  · rw [if_pos hc, if_pos hc, ← hc]
    rfl
  · rw [if_neg hc, if_neg hc]
    rfl

/-- R156: a channel after two changes of its ready. -/
def Chan.onReadies (up : Bool) (r : Chan) (a b c : Bool) : Chan := (r.onReady up a b).onReady up b c

/-- What the slots of other channels leave of channel `c`, whose slots `mine` names. -/
structure OtherSlots (mine : ChanNo → Prop) (c : ChanNo) (s t : State) : Prop where
  use : SameUse s t
  chan : t.chan c = s.chan c
  ready : ∀ i : ChanNo, mine i → t.rcu.slotReady[i] = s.rcu.slotReady[i]

theorem OtherSlots.refl (mine : ChanNo → Prop) (c : ChanNo) (s : State) : OtherSlots mine c s s :=
  ⟨⟨rfl, rfl, rfl⟩, rfl, fun _ _ => rfl⟩

theorem OtherSlots.trans {mine : ChanNo → Prop} {c : ChanNo} {s t u : State} (h : OtherSlots mine c s t)
    (k : OtherSlots mine c t u) : OtherSlots mine c s u :=
  ⟨⟨k.use.mode.trans h.use.mode, k.use.running.trans h.use.running, k.use.up.trans h.use.up⟩, k.chan.trans h.chan,
    fun i hi => (k.ready i hi).trans (h.ready i hi)⟩

end

/-- A fold that meets each of two items once splits there. -/
theorem foldl_split_two {α : Type} (R : State → State → Prop) (refl : ∀ s, R s s)
    (trans : ∀ {a b c}, R a b → R b c → R a c) {f : State → α → State} {ls : List α} {a b : α} (hn : ls.Nodup) (ha : a ∈ ls)
    (hb : b ∈ ls) (hab : a ≠ b) (h : ∀ s x, x ≠ a → x ≠ b → R s (f s x)) (s : State) :
    ∃ x y u v, (x = a ∧ y = b ∨ x = b ∧ y = a) ∧ R s u ∧ R (f u x) v ∧ R (f v y) (ls.foldl f s) := by
  have others (xs : List α) (hx : a ∉ xs) (hy : b ∉ xs) (s : State) : R s (xs.foldl f s) := by
    induction xs generalizing s with
    | nil => exact refl s
    | cons x xs ih =>
      rw [List.mem_cons, not_or] at hx hy
      exact trans (h s x (Ne.symm hx.1) (Ne.symm hy.1)) (ih hx.2 hy.2 _)
  have once (xs : List α) (hx : xs.Nodup) (ha : a ∉ xs) (hb : b ∈ xs) (s : State) :
      ∃ u, R s u ∧ R (f u b) (xs.foldl f s) := by
    obtain ⟨ys, zs, rfl⟩ := List.append_of_mem hb
    obtain ⟨-, hz, disjoint⟩ := List.nodup_append.1 hx
    rw [List.mem_append, List.mem_cons, not_or, not_or] at ha
    refine ⟨ys.foldl f s, others ys ha.1 (fun e => disjoint b e b (by simp) rfl) s, ?_⟩
    rw [List.foldl_append, List.foldl_cons]
    exact others zs ha.2.2 (List.nodup_cons.1 hz).1 _
  obtain ⟨xs, zs, rfl⟩ := List.append_of_mem ha
  obtain ⟨hx, hz, disjoint⟩ := List.nodup_append.1 hn
  obtain ⟨az, hz⟩ := List.nodup_cons.1 hz
  have ax : a ∉ xs := fun e => disjoint a e a (by simp) rfl
  rw [List.foldl_append, List.foldl_cons]
  rw [List.mem_append, List.mem_cons] at hb
  obtain hb | hb | hb := hb
  · obtain ⟨u, hu, hv⟩ := once xs hx ax hb s
    exact ⟨b, a, u, _, .inr ⟨rfl, rfl⟩, hu, hv, others zs az (fun e => disjoint b hb b (by simp [e]) rfl) _⟩
  · exact absurd hb.symm hab
  · obtain ⟨v, hv, ht⟩ := once zs hz az hb (f (xs.foldl f s) a)
    exact ⟨a, b, _, v, .inl ⟨rfl, rfl⟩, others xs ax (fun e => disjoint b e b (by simp [hb]) rfl) s, hv, ht⟩

section
variable {s : State}

theorem readyChange_held (run : s.running = false) (c : ChanNo) (old : Bool) : s.readyChange c old = s :=
  if_pos (by simp [run])

theorem slotReadyIn_held (run : s.running = false) (i : ChanNo) (b : Bool) :
    s.slotReadyIn i b = { s with rcu := { s.rcu with slotReady := s.rcu.slotReady.set i b } } :=
  readyChange_held (s := { s with rcu := { s.rcu with slotReady := s.rcu.slotReady.set i b } }) run _ _

theorem slotReadyIn_chan_other (i c : ChanNo) (b : Bool) (hc : c ≠ s.slotChan i) : (s.slotReadyIn i b).chan c = s.chan c := by
  cases run : s.running with
  | true => rw [slotReadyIn_chan run, if_neg hc]
  | false =>
    rw [slotReadyIn_held run]
    rfl

/-- R146: the two slots of a channel in STEREO. -/
def lowSlot (c : ChanNo) (hc : c.val < 64) : ChanNo := ⟨2 * c.val, by omega⟩

@[inherit_doc lowSlot] def highSlot (c : ChanNo) (hc : c.val < 64) : ChanNo := ⟨2 * c.val + 1, by omega⟩

theorem slotChan_mono (h : s.rcu.mode = .mono) (i : ChanNo) : s.slotChan i = i := by
  simp [State.slotChan, h]

theorem slotChan_stereo (h : s.rcu.mode = .stereo) {c i : ChanNo} (hc : c.val < 64) :
    c = s.slotChan i ↔ i = lowSlot c hc ∨ i = highSlot c hc := by
  simp only [State.slotChan, h, lowSlot, highSlot, Fin.ext_iff]
  omega

theorem chanReady_slots (h : s.rcu.mode = .stereo) {c : ChanNo} (hc : c.val < 64) :
    s.chanReady c = (s.rcu.slotReady[lowSlot c hc] && s.rcu.slotReady[highSlot c hc]) := chanReady_stereo h rfl rfl

theorem chanReady_iff (h : s.rcu.mode = .stereo) {c x y : ChanNo} (hc : c.val < 64)
    (hxy : x = lowSlot c hc ∧ y = highSlot c hc ∨ x = highSlot c hc ∧ y = lowSlot c hc) :
    s.chanReady c = true ↔ s.rcu.slotReady[x] = true ∧ s.rcu.slotReady[y] = true := by
  rw [chanReady_slots h hc, Bool.and_eq_true]
  obtain ⟨rfl, rfl⟩ | ⟨rfl, rfl⟩ := hxy
  · exact Iff.rfl
  · exact and_comm

/-- R149: a channel's ready is that of its slots. -/
theorem OtherSlots.chanReady {c : ChanNo} {t u : State} (h : OtherSlots (fun i => c = s.slotChan i) c t u)
    (hm : t.rcu.mode = s.rcu.mode) (hc : s.rcu.mode = .mono ∨ c.val < 64) : u.chanReady c = t.chanReady c := by
  cases mode : s.rcu.mode with
  | mono =>
    rw [chanReady_mono (hm.trans mode), chanReady_mono (h.use.mode.trans (hm.trans mode)),
      h.ready c (slotChan_mono mode c).symm]
  | stereo =>
    have low : c.val < 64 := hc.resolve_left (by simp [mode])
    rw [chanReady_slots (hm.trans mode) low, chanReady_slots (h.use.mode.trans (hm.trans mode)) low,
      h.ready _ ((slotChan_stereo mode low).2 (.inl rfl)), h.ready _ ((slotChan_stereo mode low).2 (.inr rfl))]

theorem slotChan_of_mode {t : State} (h : t.rcu.mode = s.rcu.mode) (i : ChanNo) : t.slotChan i = s.slotChan i := by
  unfold State.slotChan
  rw [h]

theorem slotReadyIn_otherSlots {c i : ChanNo} (b : Bool) (t : State) (hi : c ≠ s.slotChan i) (hm : t.rcu.mode = s.rcu.mode) :
    OtherSlots (fun i => c = s.slotChan i) c t (t.slotReadyIn i b) where
  use := slotReadyIn_sameUse t i b
  chan := slotReadyIn_chan_other i c b (by rwa [slotChan_of_mode hm])
  ready j hj := slotReadyIn_other t b fun e => hi (e ▸ hj)

/-- The slots of other channels, in a state of the mode of `s`. -/
def OtherSlotsOf (s : State) (c : ChanNo) (t u : State) : Prop :=
  t.rcu.mode = s.rcu.mode → OtherSlots (fun i => c = s.slotChan i) c t u

theorem OtherSlotsOf.trans {c : ChanNo} {t u v : State} (h : OtherSlotsOf s c t u) (k : OtherSlotsOf s c u v) :
    OtherSlotsOf s c t v :=
  fun hm => (h hm).trans (k ((h hm).use.mode.trans hm))

/-- What one slot's indication does to the channel that uses it. -/
theorem slotReadyIn_own {c i : ChanNo} {b : Bool} {t : State} (run : t.running = true) (hm : t.rcu.mode = s.rcu.mode)
    (hi : c = s.slotChan i) : (t.slotReadyIn i b).chan c =
      (t.chan c).onReady (t.portUp recPort) (t.chanReady c) ((t.slotReadyIn i b).chanReady c) := by
  rw [slotReadyIn_chan run, if_pos (by rwa [slotChan_of_mode hm])]

theorem onReady_same (up : Bool) (r : Chan) (a : Bool) : r.onReady up a a = r := if_pos rfl

/-- R149: in MONO the channel's slot is met once. -/
theorem readiesIn_mono (run : s.running = true) (mode : s.rcu.mode = .mono) (c : ChanNo) (v : Vector Bool 128) :
    (s.readiesIn v).chan c = (s.chan c).onReady (s.portUp recPort) (s.chanReady c) ((s.readiesIn v).chanReady c) := by
  rw [readiesIn_eq]
  obtain ⟨u, hu, ht⟩ := foldl_split (OtherSlotsOf s c) (fun t _ => .refl _ _ t) (fun h k => h.trans k)
    (f := fun (y : State) i => y.slotReadyIn i v[i]) (List.nodup_finRange 128) (List.mem_finRange c)
    (fun t i hi hm => slotReadyIn_otherSlots v[i] t (by rw [slotChan_mono mode]; exact Ne.symm hi) hm) s
  have hu := hu rfl
  have slot := slotReadyIn_sameUse u c v[c]
  have ht := ht (slot.mode.trans hu.use.mode)
  rw [ht.chan, ht.chanReady (slot.mode.trans hu.use.mode) (.inl mode),
    slotReadyIn_own (hu.use.running.trans run) hu.use.mode (slotChan_mono mode c).symm, hu.chan, hu.use.up,
    hu.chanReady rfl (.inl mode)]

/-- R149, R156: a channel of the mode takes at most two changes of its ready, the first of which does not interrupt it. -/
theorem readiesIn_chan (run : s.running = true) {c : ChanNo} (hc : s.rcu.mode = .mono ∨ c.val < 64)
    (v : Vector Bool 128) : ∃ mid : Bool, (s.chanReady c = true → (s.readiesIn v).chanReady c = true → mid = true) ∧
      (s.readiesIn v).chan c =
        (s.chan c).onReadies (s.portUp recPort) (s.chanReady c) mid ((s.readiesIn v).chanReady c) := by
  cases mode : s.rcu.mode with
  | mono =>
    exact ⟨_, fun _ h => h, by rw [readiesIn_mono run mode, Chan.onReadies, onReady_same]⟩
  | stereo =>
    have low : c.val < 64 := hc.resolve_left (by simp [mode])
    rw [readiesIn_eq]
    have ne : lowSlot c low ≠ highSlot c low := by simp [lowSlot, highSlot]
    obtain ⟨x, y, u, w, hxy, hu, hw, ht⟩ := foldl_split_two (OtherSlotsOf s c) (fun t _ => .refl _ _ t) (fun h k => h.trans k)
      (f := fun (y : State) i => y.slotReadyIn i v[i]) (List.nodup_finRange 128) (List.mem_finRange (lowSlot c low))
      (List.mem_finRange (highSlot c low)) ne
      (fun t i h1 h2 hm => slotReadyIn_otherSlots v[i] t
        (by rw [ne_eq, slotChan_stereo mode low, not_or]; exact ⟨h1, h2⟩) hm) s
    have hu := hu rfl
    have slotx := slotReadyIn_sameUse u x v[x]
    have modex := slotx.mode.trans hu.use.mode
    have hw := hw modex
    have modew := hw.use.mode.trans modex
    have sloty := slotReadyIn_sameUse w y v[y]
    have modey := sloty.mode.trans modew
    have ht := ht modey
    have ownx : c = s.slotChan x := (slotChan_stereo mode low).2 (by obtain ⟨rfl, -⟩ | ⟨rfl, -⟩ := hxy <;> simp)
    have owny : c = s.slotChan y := (slotChan_stereo mode low).2 (by obtain ⟨-, rfl⟩ | ⟨-, rfl⟩ := hxy <;> simp)
    have runw : w.running = true := hw.use.running.trans (slotx.running.trans (hu.use.running.trans run))
    refine ⟨w.chanReady c, fun hs hend => ?_, ?_⟩
    · have differ : x ≠ y := by
        obtain ⟨rfl, rfl⟩ | ⟨rfl, rfl⟩ := hxy
        · exact ne
        · exact ne.symm
      rw [ht.chanReady modey hc, chanReady_iff (modey.trans mode) low hxy, slotReadyIn_other w _ differ.symm] at hend
      rw [chanReady_iff mode low hxy] at hs
      rw [chanReady_iff (modew.trans mode) low hxy, hw.ready y owny, slotReadyIn_other u _ differ, hu.ready y owny]
      exact ⟨hend.1, hs.2⟩
    · rw [ht.chan, ht.chanReady modey hc, slotReadyIn_own runw modew owny, hw.use.up, slotx.up, hu.use.up, hw.chan,
        slotReadyIn_own (hu.use.running.trans run) hu.use.mode ownx, hu.use.up, hu.chan, hu.chanReady rfl hc,
        ← hw.chanReady modex hc]
      rfl

theorem readiesIn_only (v : Vector Bool 128) : s.readiesIn v =
    { s with rcu := { s.rcu with chans := (s.readiesIn v).rcu.chans, slotReady := v }, mga := (s.readiesIn v).mga } := by
  have only : RecorderOnly s (s.readiesIn v) := by
    rw [readiesIn_eq]
    exact .foldl (fun (y : State) i => y.slotReadyIn i v[i]) _ (fun y i => recorderOnly_slotReadyIn y i v[i]) s
  have ready : (s.readiesIn v).rcu.slotReady = v := Vector.ext fun i hi => readiesIn_slotReady s v ⟨i, hi⟩
  unfold RecorderOnly at only
  rwa [ready] at only

theorem readiesIn_held (hold : s.mga.phase ≠ .running) (v : Vector Bool 128) : (s.readiesIn v).rcu.chans = s.rcu.chans := by
  have walk (ls : List ChanNo) (y : State) (hy : y.running = false) :
      (ls.foldl (fun y i => y.slotReadyIn i v[i]) y).rcu.chans = y.rcu.chans := by
    induction ls generalizing y with
    | nil => rfl
    | cons i ls ih =>
      rw [List.foldl_cons, slotReadyIn_held hy]
      exact ih _ hy
  rw [readiesIn_eq]
  generalize List.finRange 128 = ls
  exact walk ls s (running_eq_false.2 hold)

end

/-! #### A channel after two changes of its ready -/

section
variable {up a b c : Bool} {r : Chan}

theorem onReadies_stop (hr : r.state = .recording) (ha : a = true) (hc : c = false) :
    r.onReadies up a b c = { r with state := .suspended } := by
  subst ha hc
  cases b <;> simp [Chan.onReadies, Chan.onReady, hr]

theorem onReadies_goOn (hr : r.state = .recording) (hb : a = true → c = true → b = true) (hc : c = true) :
    r.onReadies up a b c = r := by
  subst hc
  cases a <;> cases b <;> simp_all [Chan.onReadies, Chan.onReady]

theorem onReadies_resume (hr : r.state = .suspended) (ha : a = false) (hc : c = true) (hu : up = true) :
    r.onReadies up a b c = { r with state := .recording } := by
  subst ha hc hu
  cases b <;> simp [Chan.onReadies, Chan.onReady, hr]

/-- R156: a channel that a first slot resumes and a second one suspends stands as it did. -/
theorem onReadies_stay (hr : r.state = .suspended) (hb : a = true → c = true → b = true)
    (h : a = true ∨ c = false ∨ up = false) : r.onReadies up a b c = r := by
  obtain ⟨state, target, segment, closeCount⟩ := r
  obtain rfl : state = .suspended := hr
  cases a <;> cases b <;> cases c <;> cases up <;> simp_all [Chan.onReadies, Chan.onReady]

theorem onReadies_idle (hr : r.state = .stopped ∨ r.state = .closing) : r.onReadies up a b c = r := by
  have one (x y : Bool) : r.onReady up x y = r := by
    unfold Chan.onReady
    obtain hr | hr := hr <;> simp only [hr, ite_self]
  rw [Chan.onReadies, one, one]

end

end Sys2Proof.Machine

/-! ### What a frame period takes (O20) -/

namespace Sys2Proof.Machine

/-! #### Cells -/

theorem writeOf_forMga {tag : U16} {table : Byte} {index : U16} {entry : List Byte} {i : Instr}
    (h : writeOf tag table index entry = some i) : forMga i := by
  unfold writeOf at h
  generalize table.toNat = n at h
  split at h
  case h_13 => split at h <;> cases h; trivial
  all_goals first
    | (obtain rfl := Option.some.inj h; trivial)
    | (obtain ⟨e, -, rfl⟩ := Option.map_eq_some_iff.1 h; trivial)

/-- R196: by the kind of the request, then by the length of its body. -/
theorem bodyOf_forMga {kind : Byte} {clear : Bool} {tag : U16} {body : List Byte} {i : Instr}
    (h : bodyOf kind clear tag body = some i) : forMga i := by
  unfold bodyOf at h
  generalize kind.toNat = n at h
  by_cases write : n = 2
  · subst write
    rcases body with _ | ⟨t, _ | ⟨i1, _ | ⟨i0, entry⟩⟩⟩
    · cases h
    · cases h
    · cases h
    · exact writeOf_forMga h
  · rcases body with _ | ⟨b0, _ | ⟨b1, _ | ⟨b2, _ | ⟨b3, rest⟩⟩⟩⟩ <;>
      rcases n with _ | _ | _ | _ | _ | _ | _ | _ | _ | _ | _ | _ | _ | n <;>
      first
      | exact absurd rfl write
      | (cases h <;> exact True.intro)

/-- R196: what a management cell spells is a request. -/
theorem requestOf_forMga {c : List Byte} {i : Instr} (h : requestOf c = some i) : forMga i := by
  unfold requestOf at h
  split at h
  · simp only at h
    split_ifs at h
    · cases h; trivial
    · obtain rfl := Option.some.inj h
      cases hb : bodyOf _ _ _ _ with
      | none => trivial
      | some i => exact bodyOf_forMga hb
  · cases h

theorem takeCell_exec {s : State} (awake : s.awake) {c : List Byte} {i : Instr} (h : requestOf c = some i) :
    exec i s = .next (s.takeCell c) := by
  rw [exec_takes awake i (requestOf_forMga h), State.takeCell, h]

theorem takeConsole_none {s : State} {p : PosNo} {c : List Byte} (h : consoleOf p c = none) : s.takeConsole p c = s := by
  unfold State.takeConsole
  rw [h]

/-- R199: what a console cell spells runs as its command. -/
theorem takeConsole_exec {s : State} (awake : s.awake) {p : PosNo} {c : List Byte} {i : Instr} (h : consoleOf p c = some i) :
    exec i s = .next (s.takeConsole p c) := by
  unfold State.takeConsole
  rw [h]
  unfold consoleOf at h
  split at h
  · split at h <;> cases h
    · exact live_awake awake fun s => s.keyDown p _
    · exact live_awake awake fun s => s.keyUp p _
    · exact live_awake awake fun s => s.hookCell p _ _
    · exact live_awake awake fun s => s.levelCell p _ _
  · cases h

theorem slotFrame_eq (s : State) (p : PosNo) (x : SlotIn) : s.slotFrame p x =
    if x.present then x.cells.foldl (fun y c => y.takeConsole p c)
      (if s.lif.present[p] = x.present then s.setPresent p x.present
        else if x.present then (s.setPresent p x.present).goOnline p else (s.setPresent p x.present).goOffline [p])
    else if s.lif.present[p] = x.present then s.setPresent p x.present
      else if x.present then (s.setPresent p x.present).goOnline p else (s.setPresent p x.present).goOffline [p] := by
  unfold State.slotFrame
  cases x.present <;> cases s.lif.present[p] <;> simp

end Sys2Proof.Machine

/-! ### What a frame period leaves (O20) -/

namespace Sys2Proof.Machine

/-! #### The input store -/

section
variable (s : State) (f : Inbound)

theorem storeSamples_far (m : QuadNo) (k : Fin 128) : (s.storeSamples f).lif.far[channelLine m k] =
    if s.takes (lpPort m) (f.lines[m]).good then ((f.lines[m]).channels[k]).sample else 0 := by
  have hm : (channelLine m k).val / 128 = m.val := by simp only [channelLine]; omega
  have hk : (channelLine m k).val % 128 = k.val := by simp only [channelLine]; omega
  simp only [State.storeSamples, Fin.getElem_fin, Vector.getElem_ofFn, Fin.eta, linePort_channelLine, hm, hk]

theorem storeSamples_mics (m : QuadNo) (k : Fin 8) : (s.storeSamples f).lif.mics[slotPos m k] =
    if s.takes (ppPort m) (f.positions[m]).good then SlotIn.mics (f.positions[m]).slots[k]
    else { left := 0, right := 0, speaker := 0, present := s.lif.present[slotPos m k] } := by
  have hm : (slotPos m k).val / 8 = m.val := by simp only [slotPos]; omega
  have hk : (slotPos m k).val % 8 = k.val := by simp only [slotPos]; omega
  simp only [State.storeSamples, Fin.getElem_fin, Vector.getElem_ofFn, Fin.eta, posPort_slotPos, hm, hk]

end

/-! #### The values of one port -/

section
variable (s : State)

theorem lineFrame_port (m : QuadNo) (x : LineFrame) :
    (s.lineFrame m x).port (lpPort m) = (s.port (lpPort m)).judge x.good := by
  rw [(lineFrame_keeps s m x).port _ (by rintro ⟨k, hk⟩; cases hk), judgePort_port]

theorem lineFrame_far_taken (m : QuadNo) (x : LineFrame) (k : Fin 128) (good : x.good = true)
    (up : (s.lineFrame m x).portUp (lpPort m) = true) : ((s.lineFrame m x).line (channelLine m k)).far = (x.channels[k]).far := by
  rw [(lineFrame_keeps s m x).portUp _ (by rintro ⟨k, hk⟩; cases hk)] at up
  rw [lineFrame_taken s m x good up, (keeps_mgmtCells _ _ _).far _ id, channelFars_far]

theorem lineFrame_far_lost (m : QuadNo) (x : LineFrame) (k : Fin 128) (up : s.portUp (lpPort m) = true)
    (down : (s.lineFrame m x).portUp (lpPort m) = false) : ((s.lineFrame m x).line (channelLine m k)).far = .loss := by
  rw [(lineFrame_keeps s m x).portUp _ (by rintro ⟨k, hk⟩; cases hk)] at down
  rw [lineFrame_lost s m x up down, channelFars_far]

theorem lineFrame_far_idle (m : QuadNo) (x : LineFrame) (k : Fin 128)
    (idle : ¬ (x.good = true ∧ (s.lineFrame m x).portUp (lpPort m) = true))
    (same : s.portUp (lpPort m) = (s.lineFrame m x).portUp (lpPort m)) :
    ((s.lineFrame m x).line (channelLine m k)).far = (s.line (channelLine m k)).far := by
  rw [(lineFrame_keeps s m x).portUp _ (by rintro ⟨k, hk⟩; cases hk)] at idle same
  rw [lineFrame_idle s m x (by rw [same]; simp) idle]
  exact (keeps_judgePort (W := (· = .port (lpPort m))) s _ _ rfl).far _ (by simp)

theorem positionFrame_port (m : QuadNo) (x : PositionFrame) :
    (s.positionFrame m x).port (ppPort m) = (s.port (ppPort m)).judge x.good := by
  rw [(positionFrame_keeps s m x).port _ (by rintro ⟨k, hk⟩; cases hk), judgePort_port]

theorem positionFrame_present_taken (m : QuadNo) (x : PositionFrame) (k : Fin 8) (good : x.good = true)
    (up : (s.positionFrame m x).portUp (ppPort m) = true) :
    (s.positionFrame m x).lif.present[slotPos m k] = (x.slots[k]).present := by
  rw [(positionFrame_keeps s m x).portUp _ (by rintro ⟨k, hk⟩; cases hk)] at up
  rw [positionFrame_taken s m x good up, slotFrames_present]

theorem positionFrame_present_lost (m : QuadNo) (x : PositionFrame) (k : Fin 8) (up : s.portUp (ppPort m) = true)
    (down : (s.positionFrame m x).portUp (ppPort m) = false) :
    (s.positionFrame m x).lif.present[slotPos m k] = false := by
  rw [(positionFrame_keeps s m x).portUp _ (by rintro ⟨k, hk⟩; cases hk)] at down
  rw [positionFrame_lost s m x up down, positionPortLost_present]

theorem positionFrame_present_idle (m : QuadNo) (x : PositionFrame) (k : Fin 8)
    (idle : ¬ (x.good = true ∧ (s.positionFrame m x).portUp (ppPort m) = true))
    (same : s.portUp (ppPort m) = (s.positionFrame m x).portUp (ppPort m)) :
    (s.positionFrame m x).lif.present[slotPos m k] = s.lif.present[slotPos m k] := by
  rw [(positionFrame_keeps s m x).portUp _ (by rintro ⟨k, hk⟩; cases hk)] at idle same
  rw [positionFrame_idle s m x (by rw [same]; simp) idle]
  exact (keeps_judgePort (W := (· = .port (ppPort m))) s _ _ rfl).present _ (by simp)

theorem recorderFrame_port (x : RecorderFrame) : (s.recorderFrame x).port recPort = (s.port recPort).judge x.good := by
  rw [(recorderFrame_keeps s x).port _ (by simp), judgePort_port]

theorem recorderFrame_ready (x : RecorderFrame) (i : ChanNo) : (s.recorderFrame x).rcu.slotReady[i] =
    if x.good = true ∧ (s.recorderFrame x).portUp recPort = true then x.ready[i] else s.rcu.slotReady[i] := by
  have judged : (s.judgePort recPort x.good).rcu.slotReady = s.rcu.slotReady :=
    (keeps_judgePort (W := (· = .port recPort)) s _ _ rfl).ready (by simp)
  rw [(recorderFrame_keeps s x).portUp _ (by simp)]
  by_cases taken : x.good = true ∧ (s.judgePort recPort x.good).portUp recPort = true
  · rw [if_pos taken, recorderFrame_taken s x taken.1 taken.2, readiesIn_slotReady]
  · rw [if_neg taken]
    by_cases lost : s.portUp recPort = true ∧ (s.judgePort recPort x.good).portUp recPort = false
    · rw [recorderFrame_lost s x lost.1 lost.2, (keeps_recorderLost _).ready id, judged]
    · rw [recorderFrame_idle s x lost taken, judged]

end

/-! #### The values after the period -/

theorem Ended.portUp {s t : State} (h : Ended s t) (n : PortNo) : t.portUp n = s.portUp n := by
  unfold State.portUp State.port
  rw [h.lif]

section
variable (s : State) (f : Inbound)

theorem framePeriod_port (n : PortNo) : (s.framePeriod f).port n = (s.port n).judge (f.good n) := by
  have ended : (s.framePeriod f).port n = ((s.sendFrames.storeSamples f).inboundPeriod f).port n := by
    simp only [State.port, (framePeriod_ended s f).lif]
  have cases : (∃ m, n = lpPort m) ∨ (∃ m, n = ppPort m) ∨ n = recPort := by
    have hn := n.isLt
    by_cases h4 : n.val < 4
    · exact .inl ⟨⟨n.val, h4⟩, rfl⟩
    · by_cases h8 : n.val < 8
      · exact .inr (.inl ⟨⟨n.val - 4, by omega⟩, Fin.ext (by simp only [ppPort]; omega)⟩)
      · exact .inr (.inr (Fin.ext (by simp only [recPort]; omega)))
  rw [ended]
  obtain ⟨m, rfl⟩ | ⟨m, rfl⟩ | rfl := cases
  · obtain ⟨u, hu, ht⟩ := lines_visit (s.sendFrames.storeSamples f) f m
    have own : ¬ ¬ lineInlets m (.port (lpPort m)) := not_not.2 (.inl rfl)
    rw [ht.port _ own, lineFrame_port, hu.port _ own, good_lpPort]
    rfl
  · obtain ⟨u, hu, ht⟩ := positions_visit (s.sendFrames.storeSamples f) f m
    have own : ¬ ¬ positionInlets m (.port (ppPort m)) := not_not.2 (.inl rfl)
    rw [ht.port _ own, positionFrame_port, hu.port _ own, good_ppPort]
    rfl
  · obtain ⟨u, hu, ht⟩ := recorder_visit (s.sendFrames.storeSamples f) f
    have own : ¬ ¬ recorderInlets (.port recPort) := not_not.2 (.inl rfl)
    rw [ht.port _ own, recorderFrame_port, hu.port _ own, good_recPort]
    rfl

theorem framePeriod_takes (n : PortNo) :
    s.takes n (f.good n) = true ↔ f.good n = true ∧ (s.framePeriod f).portUp n = true := by
  rw [State.portUp, framePeriod_port, State.takes, Bool.and_eq_true]

theorem framePeriod_line (m : QuadNo) (k : Fin 128) :
    let t := s.framePeriod f
    let l := channelLine m k
    let taken := f.good (lpPort m) = true ∧ t.portUp (lpPort m) = true
    (taken → (t.line l).far = ((f.lines[m]).channels[k]).far) ∧
    (s.portUp (lpPort m) = true → t.portUp (lpPort m) = false → (t.line l).far = .loss) ∧
    (¬ taken → s.portUp (lpPort m) = t.portUp (lpPort m) → (t.line l).far = (s.line l).far) := by
  have ended := framePeriod_ended s f
  obtain ⟨u, hu, ht⟩ := lines_visit (s.sendFrames.storeSamples f) f m
  have ownPort : ¬ ¬ lineInlets m (.port (lpPort m)) := not_not.2 (.inl rfl)
  have ownFar : ¬ ¬ lineInlets m (.far (channelLine m k)) := not_not.2 (.inr ⟨k, rfl⟩)
  have up : (s.framePeriod f).portUp (lpPort m) = (u.lineFrame m f.lines[m]).portUp (lpPort m) := by
    rw [ended.portUp, ht.portUp _ ownPort]
  have was : u.portUp (lpPort m) = s.portUp (lpPort m) := hu.portUp _ ownPort
  have heard : (u.line (channelLine m k)).far = (s.line (channelLine m k)).far := hu.far _ ownFar
  dsimp only
  rw [ended.far, ht.far _ ownFar, up, good_lpPort, ← was, ← heard]
  exact ⟨fun h => lineFrame_far_taken u m _ k h.1 h.2, lineFrame_far_lost u m _ k, lineFrame_far_idle u m _ k⟩

theorem framePeriod_present (m : QuadNo) (k : Fin 8) :
    let t := s.framePeriod f
    let p := slotPos m k
    let taken := f.good (ppPort m) = true ∧ t.portUp (ppPort m) = true
    (taken → t.lif.present[p] = ((f.positions[m]).slots[k]).present) ∧
    (s.portUp (ppPort m) = true → t.portUp (ppPort m) = false → t.lif.present[p] = false) ∧
    (¬ taken → s.portUp (ppPort m) = t.portUp (ppPort m) → t.lif.present[p] = s.lif.present[p]) := by
  have ended := framePeriod_ended s f
  obtain ⟨u, hu, ht⟩ := positions_visit (s.sendFrames.storeSamples f) f m
  have ownPort : ¬ ¬ positionInlets m (.port (ppPort m)) := not_not.2 (.inl rfl)
  have ownPresent : ¬ ¬ positionInlets m (.present (slotPos m k)) := not_not.2 (.inr ⟨k, rfl⟩)
  have up : (s.framePeriod f).portUp (ppPort m) = (u.positionFrame m f.positions[m]).portUp (ppPort m) := by
    rw [ended.portUp, ht.portUp _ ownPort]
  have was : u.portUp (ppPort m) = s.portUp (ppPort m) := hu.portUp _ ownPort
  have kept : u.lif.present[slotPos m k] = s.lif.present[slotPos m k] := hu.present _ ownPresent
  dsimp only
  rw [ended.lif, ht.present _ ownPresent, up, good_ppPort, ← was, ← kept]
  exact ⟨fun h => positionFrame_present_taken u m _ k h.1 h.2, positionFrame_present_lost u m _ k,
    positionFrame_present_idle u m _ k⟩

theorem framePeriod_ready (i : ChanNo) : (s.framePeriod f).rcu.slotReady[i] =
    if f.recorder.good = true ∧ (s.framePeriod f).portUp recPort = true then f.recorder.ready[i] else s.rcu.slotReady[i] := by
  have ended := framePeriod_ended s f
  obtain ⟨u, hu, ht⟩ := recorder_visit (s.sendFrames.storeSamples f) f
  have ownPort : ¬ ¬ recorderInlets (.port recPort) := not_not.2 (.inl rfl)
  have ownReady : ¬ ¬ recorderInlets .ready := not_not.2 (.inr rfl)
  have up : (s.framePeriod f).portUp recPort = (u.recorderFrame f.recorder).portUp recPort := by
    rw [ended.portUp, ht.portUp _ ownPort]
  have kept : u.rcu.slotReady = s.rcu.slotReady := hu.ready ownReady
  rw [ended.ready, ht.ready ownReady, recorderFrame_ready, up, kept]

/-- R172: a sample that a taken frame brings, and 0 where none is taken. -/
theorem framePeriod_sample (m : QuadNo) (k : Fin 128) : (s.framePeriod f).lif.far[channelLine m k] =
    if f.good (lpPort m) = true ∧ (s.framePeriod f).portUp (lpPort m) = true then ((f.lines[m]).channels[k]).sample else 0 := by
  have stored := (keeps_inboundPeriod (s.sendFrames.storeSamples f) f).lif
  rw [(framePeriod_ended s f).lif, stored]
  refine (storeSamples_far s.sendFrames f m k).trans ?_
  exact ite_congr (propext (by rw [← framePeriod_takes, good_lpPort]; rfl)) (fun _ => rfl) fun _ => rfl

theorem framePeriod_mics (m : QuadNo) (k : Fin 8) : (s.framePeriod f).lif.mics[slotPos m k] =
    if f.good (ppPort m) = true ∧ (s.framePeriod f).portUp (ppPort m) = true then SlotIn.mics (f.positions[m]).slots[k]
    else { left := 0, right := 0, speaker := 0, present := s.lif.present[slotPos m k] } := by
  have stored := (keeps_inboundPeriod (s.sendFrames.storeSamples f) f).lif
  rw [(framePeriod_ended s f).lif, stored]
  refine (storeSamples_mics s.sendFrames f m k).trans ?_
  exact ite_congr (propext (by rw [← framePeriod_takes, good_ppPort]; rfl)) (fun _ => rfl) fun _ => rfl

end

end Sys2Proof.Machine

/-! ### The inbound frames of a period (O20) -/

namespace Sys2Proof.Machine

theorem judgePort_cause (a : Align) :
    a.cause = if a = .aligning then .marker else if a = .up then .aligned else .lost := by
  cases a <;> rfl

theorem judgePort_present (s : State) (n : PortNo) (good : Bool) :
    (s.judgePort n good).lif.present = s.lif.present := by
  rw [judgePort_eq]
  split
  · rfl
  · rw [State.raise_lif]
    rfl

/-! #### A line that a far signal brings to another state -/

section
variable {s : State} {l : LineNo} {f : FarSignal} (new : LineState) (ring : Timer) (burst : Option CgNo) (why : LineCause)

theorem heardEnter_line : (s.heardEnter l f new ring burst why).line l = { s.line l with
    far := f, state := new, ring := ring, answer := .stopped, hang := .stopped, guard := .stopped, faultClear := false
    ringPending := burst } := by
  rw [State.heardEnter, State.raise_line, State.setLine_line_self]

theorem heardEnter_state : ((s.heardEnter l f new ring burst why).line l).state = new := by
  rw [heardEnter_line]

theorem heardEnter_line_ne {y : LineNo} (h : y ≠ l) : (s.heardEnter l f new ring burst why).line y = s.line y := by
  rw [State.heardEnter, State.raise_line, State.setLine_line_ne _ _ (Ne.symm h)]

theorem heardEnter_conns : (s.heardEnter l f new ring burst why).cxm.conns = s.cxm.conns := by
  rw [State.heardEnter, State.raise_cxm]
  rfl

theorem heardEnter_lineConns : (s.heardEnter l f new ring burst why).lineConns l = s.lineConns l :=
  lineConns_congr _ _ (heardEnter_conns new ring burst why)

end

theorem positionDue_eq (s : State) (p : PosNo) (g : SpkNo → Option Conn)
    (line : ∀ c l, s.assign p c = .line l → g c = s.monitorRecord (p, c))
    (other : ∀ c, (∀ l, s.assign p c ≠ .line l) → g c = none) : (List.finRange 8).filterMap g = s.positionDue p := by
  unfold State.positionDue
  rw [List.filterMap_map]
  refine List.filterMap_congr fun c _ => ?_
  by_cases h : ∃ l, s.assign p c = .line l
  · obtain ⟨l, hl⟩ := h
    exact line c l hl
  · rw [not_exists] at h
    exact (other c h).trans (monitorRecord_eq_none h).symm

/-- Settles O20. -/
theorem framePeriodTakesInbound : Obligations.FramePeriodTakesInbound := by
  refine ⟨fun f s awake => ⟨_, exec_framePeriod awake f, framePeriod_port s f, fun m k => ?_, fun m k => ?_, ?_⟩,
    fun f s awake => exec_framePeriod awake f, fun n good s => ⟨fun same => ?_, fun change => ?_⟩,
    fun m x s => ⟨fun lost => lineFrame_lost s m x lost.1 lost.2, fun taken => lineFrame_taken s m x taken.1 taken.2,
      lineFrame_idle s m x⟩,
    ?_, fun m cells s => rfl, fun n c cs s h => ⟨?_, rfl⟩, fun c i s awake h => takeCell_exec awake h,
    fun p c s => ⟨fun i awake h => takeConsole_exec awake h, takeConsole_none⟩,
    fun m x s => ⟨fun lost => ?_, fun taken => positionFrame_taken s m x taken.1 taken.2, positionFrame_idle s m x⟩,
    fun p x s => slotFrame_eq s p x, ?_, ?_, 
    fun x s => ⟨fun lost => recorderFrame_lost s x lost.1 lost.2, fun taken => recorderFrame_taken s x taken.1 taken.2,
      recorderFrame_idle s x⟩, fun s => ?_⟩
  case refine_1 =>
    dsimp only
    rw [linePort_channelLine]
    exact ⟨framePeriod_sample s f m k, framePeriod_line s f m k⟩
  case refine_2 =>
    dsimp only
    rw [posPort_slotPos]
    obtain ⟨taken, lost, idle⟩ := framePeriod_present s f m k
    have mics := framePeriod_mics s f m k
    exact ⟨taken, fun h => by rw [mics, if_pos h]; rfl, fun h => by rw [mics, if_neg h], lost, idle⟩
  case refine_3 => exact fun i => framePeriod_ready s f i
  case refine_4 =>
    rw [judgePort_eq, if_pos same]
    rfl
  case refine_5 =>
    rw [judgePort_eq, if_neg change, judgePort_cause]
    rfl
  case refine_6 =>
    intro cause l f s r x t kept entered
    refine ⟨fun h => farSignal_same h cause, fun h hr => farSignal_kept h hr, fun hf hp => ?_⟩
    have run : s.running = true := decide_eq_true hp
    refine ⟨fun hl hd hn => ?_, fun hs => ⟨?_, ?_, ?_, ?_⟩, fun hs hl => ⟨?_, ?_⟩, fun hs hl => ⟨?_, ?_, ?_⟩,
      fun hs hl => ⟨?_, ?_⟩, fun hs hl => farSignal_up run hf hs hl⟩
    · have enters : t = (s.heardEnter l f .fault .stopped none cause).removeLine l .fault :=
        (farSignal_loss run hf hl hd hn).trans (enterFault_heard run)
      obtain ⟨totals, line⟩ := removeLine_faulted (heardEnter_state .fault .stopped none cause) .fault
      refine ⟨fun hc => ?_, ?_, ?_, ?_, ?_, ?_, fun y hy => ?_⟩
      · exact enters.trans (removeLine_still _ ((heardEnter_lineConns .fault .stopped none cause).trans hc))
      · rw [enters, line, heardEnter_line]
      · rw [enters, line, heardEnter_line]
      · rw [enters, line, heardEnter_line]
      · rw [enters, removeLine_lineConns]
      · rw [enters, removeLine_conns, heardEnter_conns]
      · rw [enters, (does_removeLine_only _).line y hy, heardEnter_line_ne _ _ _ _ hy]
    · exact farSignal_fault_loss run hf hs
    · exact farSignal_fault_kept run hf hs
    · exact fun hr hg => (farSignal_fault_guard run hf hs hr).trans (startGuard_running hg)
    · intro hr hg awake
      refine (exec_guardTimerExpiry (s := s.setLine l { x with guard := .running 1 }) awake l).trans (congrArg _ ?_)
      exact ((farSignal_fault_guard run hf hs hr).trans (startGuard_expiry run hs hg)).symm
    · intro hw ho
      refine (farSignal_idle run hf hs hl).trans ((if_pos ⟨hw, ho⟩).trans ?_)
      exact heard_enter run _ (by simp [LineRec.enter, LineState.isUp, Timer.start, r])
    · intro h
      refine (farSignal_idle run hf hs hl).trans (if_neg ?_)
      rintro ⟨hw, ho⟩
      obtain h | h := h
      · exact Bool.false_ne_true (h.symm.trans hw)
      · exact Bool.false_ne_true (h.symm.trans ho)
    · intro hi hh
      refine (farSignal_ringing run hf hs hl).trans ((if_pos hi).trans (farGone_heard.trans ((if_pos hh).trans ?_)))
      exact heard_enter run _ rfl
    · intro hi hh
      exact (farSignal_ringing run hf hs hl).trans ((if_pos hi).trans (farGone_heard.trans (if_neg hh)))
    · exact fun hi => (farSignal_ringing run hf hs hl).trans (if_neg hi)
    · intro h
      refine (farSignal_calling run hf hs hl).trans (if_neg ?_)
      rintro ⟨ho, ha⟩
      exact h.elim (fun e => Bool.false_ne_true (e.symm.trans ho)) ha
    · intro ho ha
      refine (farSignal_calling run hf hs hl).trans ((if_pos ⟨ho, ha⟩).trans ?_)
      split
      · exact heard_enter run _ rfl
      · exact heard_enter run _ rfl
  case refine_7 =>
    rw [State.takeHandOver, h]
  case refine_8 =>
    rw [positionFrame_lost s m x lost.1 lost.2, positionPortLost_eq, judgePort_present]
    rfl
  case refine_9 =>
    intro ps s quiet t
    refine ⟨goOffline_conns, fun p => goOffline_position p, fun g p hp => goOffline_free g p hp,
      fun g h => goOffline_group h, goOffline_rest.1, goOffline_rest.2.1, goOffline_rest.2.2, fun hc hg => ?_⟩
    exact goOffline_still hc hg
  case refine_10 =>
    intro p s t here due
    have hdue : due = s.positionDue p := by
      refine positionDue_eq s p _ (fun c l ha => ?_) fun c ha => ?_
      · rw [monitorRecord_eq_some ha, ha]
      · split
        · next l hl => exact absurd hl (ha l)
        · rfl
    obtain ⟨conns, privacy, rest⟩ := goOnline_spec (s := s) (p := p)
    rw [positionDue_arrived, ← hdue] at conns
    refine ⟨fun hd => goOnline_still ?_, conns, Vector.ext fun i hi => privacy ⟨i, hi⟩, rest⟩
    rw [positionDue_arrived, ← hdue, hd]
  case refine_11 =>
    intro inMode
    refine ⟨⟨recorderLost_only, recorderLost_chan⟩, recorderBack_held,
      fun hp hw hg => ⟨recorderBack_only hp hw hg, recorderBack_chan hp hw hg⟩,
      fun ready => ⟨readiesIn_only ready, fun hp => readiesIn_held hp ready, fun hp c hc => ?_⟩⟩
    obtain ⟨mid, through, stands⟩ := readiesIn_chan (decide_eq_true hp) hc ready
    refine ⟨fun hr ha hn => ?_, fun hr hn => ?_, fun hr ha hn hu => ?_, fun hr h => ?_, fun hr => ?_⟩
    · exact stands.trans (onReadies_stop hr ha hn)
    · exact stands.trans (onReadies_goOn hr through hn)
    · exact stands.trans (onReadies_resume hr ha hn hu)
    · exact stands.trans (onReadies_stay hr through h)
    · exact stands.trans (onReadies_idle hr)

end Sys2Proof.Machine

/-! ### Console cells (R34 to R36, R199) -/

namespace Sys2Proof.Machine

/-- A request of PSC reaches its owner while the switching blocks are running. -/
theorem live_running {s : State} (h : s.awake) (run : s.running = true) (f : State → State) :
    live (whileRunning f) s = .next (f s) := by
  rw [live_awake h, whileRunning, if_pos run]

section
variable {s : State} (h : s.awake)
include h

theorem exec_keyDown (p : PosNo) (b : Byte) : exec (.keyDown p b) s = .next (s.keyDown p b) :=
  live_awake h fun s => s.keyDown p b

theorem exec_keyUp (p : PosNo) (b : Byte) : exec (.keyUp p b) s = .next (s.keyUp p b) :=
  live_awake h fun s => s.keyUp p b

theorem exec_hook (p : PosNo) (a v : Byte) : exec (.hook p a v) s = .next (s.hookCell p a v) :=
  live_awake h fun s => s.hookCell p a v

theorem exec_level (p : PosNo) (e : Byte) (v : U16) : exec (.level p e v) s = .next (s.levelCell p e v) :=
  live_awake h fun s => s.levelCell p e v

variable (run : s.running = true)
include run

theorem exec_lineRequest (p : PosNo) (a : Handset) (l : LineNo) (k : KeyNo) :
    exec (.lineRequest p a l k) s = .next (s.lineRequest p a l k) :=
  live_running h run fun s => s.lineRequest p a l k

theorem exec_holdRequest (p : PosNo) (a : Handset) (k : KeyNo) :
    exec (.holdRequest p a k) s = .next (s.holdKey p a k) :=
  live_running h run fun s => s.holdKey p a k

theorem exec_privacyToggle (p : PosNo) (a : Handset) (k : KeyNo) :
    exec (.privacyToggle p a k) s = .next (s.privacyKey p a k) :=
  live_running h run fun s => s.privacyKey p a k

theorem exec_speakerTalkSet (p : PosNo) (c : SpkNo) (b : Bool) :
    exec (.speakerTalkSet p c b) s = .next (s.speakerTalk p c b) :=
  live_running h run fun s => s.speakerTalk p c b

theorem exec_demandToggle (l : LineNo) : exec (.demandToggle l) s = .next (s.toggleDemand l) :=
  live_running h run fun s => s.toggleDemand l

theorem exec_talkRequest (p : PosNo) (g : GroupNo) (c : TalkClass) (k : KeyNo) :
    exec (.talkRequest p g c k) s = .next (s.talkRequest p g c k) :=
  live_running h run fun s => s.talkRequest p g c k

theorem exec_talkRelease (p : PosNo) (g : GroupNo) : exec (.talkRelease p g) s = .next (s.talkRelease p g) :=
  live_running h run fun s => s.talkRelease p g

end

/-- R43: a denial while the switching blocks are running. -/
theorem deny_eq {s : State} (run : s.running = true) (p : PosNo) (k : KeyNo) (r : DenyReason) (x : DenyTarget) :
    s.deny p k r x =
      (if s.online p then s.setPosition p { s.position p with denial := some { key := k, reason := r, left := 100 } }
        else s).raise (.deny p k r x) := by
  have shown : (if s.online p then s.setPosition p { s.position p with
      denial := some { key := k, reason := r, left := 100 } } else s).running = true := by
    split <;> exact run
  exact raiseRunning_of_running shown _

/-! #### Keys (O30) -/

theorem keyOfByte_of_le {b : Byte} (h : 48 ≤ b.toNat) : keyOfByte b = none := dif_neg (Nat.not_lt.2 h)

theorem keyOfByte_val {b : Byte} {k : KeyNo} (h : b.toNat = k.val) : keyOfByte b = some k := by
  unfold keyOfByte
  rw [dif_pos (h ▸ k.isLt)]
  exact congrArg some (Fin.ext h)

section
variable {s : State} {p : PosNo} {b : Byte}

theorem takesKeys_iff : s.takesKeys p = true ↔ s.mga.phase = .running ∧ s.online p = true := by
  simp [State.takesKeys, State.running]

/-- R34: the key cells that are not taken. -/
theorem key_still (h : s.mga.phase ≠ .running ∨ s.online p = false ∨ 48 ≤ b.toNat) :
    s.keyDown p b = s ∧ s.keyUp p b = s := by
  unfold State.keyDown State.keyUp
  cases hk : keyOfByte b with
  | none => exact ⟨rfl, rfl⟩
  | some k =>
    have none : ¬ s.takesKeys p = true := by
      rw [takesKeys_iff]
      rintro ⟨run, on⟩
      obtain h | h | h := h
      · exact h run
      · exact Bool.false_ne_true (h.symm.trans on)
      · exact absurd (hk.symm.trans (keyOfByte_of_le h)) (Option.some_ne_none k)
    exact ⟨if_neg none, if_neg none⟩

variable {k : KeyNo} (run : s.mga.phase = .running) (on : s.online p = true) (hb : b.toNat = k.val)
include run on hb

theorem keyDown_taken : s.keyDown p b = s.keyAction p k := by
  unfold State.keyDown
  rw [keyOfByte_val hb]
  exact if_pos (takesKeys_iff.2 ⟨run, on⟩)

theorem keyUp_taken : s.keyUp p b = s.keyRelease p k := by
  unfold State.keyUp
  rw [keyOfByte_val hb]
  exact if_pos (takesKeys_iff.2 ⟨run, on⟩)

end

/-- Settles O30: a taken key cell runs the operation of its action, which is the one its owner's command runs. -/
theorem keysActAsMapped : Obligations.KeysActAsMapped := by
  intro p b s aw
  refine ⟨fun h => ?_, fun k ph on hb => ?_⟩
  · rw [exec_keyDown aw, exec_keyUp aw, (key_still h).1, (key_still h).2]
    exact ⟨rfl, rfl⟩
  have run : s.running = true := decide_eq_true ph
  intro h pressed withKey withoutKey
  have awKey (t : PressedTarget) : (withKey t).awake := aw
  have runKey (t : PressedTarget) : (withKey t).running = true := run
  have down : exec (.keyDown p b) s = .next (s.keyAction p k) := by rw [exec_keyDown aw, keyDown_taken ph on hb]
  have up : exec (.keyUp p b) s = .next (s.keyRelease p k) := by rw [exec_keyUp aw, keyUp_taken ph on hb]
  have talk (g : GroupNo) : exec (.talkRequest p g (s.position p).cfg.talkClass k) (withKey (.group g)) =
      .next (s.talkKeyDown p k g) := exec_talkRequest (awKey _) (runKey _) _ _ _ _
  refine ⟨fun ha => ?_, fun l ha => ?_, fun ha => ?_, fun ha => ?_, fun ha => ?_, fun ha hc => ?_,
    fun c hc => ⟨fun ha => ?_, fun ha => ?_⟩, fun g ha => ?_, fun c ha => ?_, fun ha => ?_, fun e he => ?_, fun hn => ?_⟩
  · rw [down, State.keyAction, ha]
  · rw [down, State.keyAction, ha, exec_lineRequest aw run]
  · rw [down, State.keyAction, ha, exec_releaseRequest aw run]
  · rw [down, State.keyAction, ha, exec_holdRequest aw run]
  · rw [down, State.keyAction, ha, exec_privacyToggle aw run]
  · obtain ha | ha := ha
    · rw [down, State.keyAction, ha]
      simp only [State.ringKey, hc, h]
    · rw [down, State.keyAction, ha]
      simp only [State.recordKey, hc, h]
  · rw [down, State.keyAction, ha, exec_ringRequest aw]
    simp only [State.ringKey, hc, h]
    split <;> rfl
  · rw [down, State.keyAction, ha, exec_demandToggle aw run]
    simp only [State.recordKey, hc, h]
  · rw [down, State.keyAction, ha, talk]
    exact apply_ite Host.Outcome.next (pressed = true) s _
  · rw [down, State.keyAction, ha]
    refine (apply_ite Host.Outcome.next (pressed = true) s (s.speakerKeyDown p k c)).trans ?_
    split
    · rfl
    · unfold State.speakerKeyDown
      cases s.assign p c with
      | none => rfl
      | group g => exact (talk g).symm
      | line l =>
        dsimp only
        split
        · exact (exec_speakerTalkSet (awKey _) (runKey _) _ _ _).symm
        · rfl
  · rw [down, State.keyAction, ha]
    exact congrArg _ (raiseRunning_of_running run _)
  · rw [up, State.keyRelease, he]
    dsimp only
    unfold State.releasePressed
    cases e.target with
    | group g => exact (exec_talkRelease (s := withoutKey) aw run _ _).symm
    | lineSpeaker c => exact (exec_speakerTalkSet (s := withoutKey) aw run _ _ _).symm
  · have none : (s.position p).pressed.find? (fun e => e.key = k) = none := by
      simpa [pressed] using hn
    rw [up, State.keyRelease, none]
    dsimp only
    rw [raiseRunning_of_running run]
    split <;> rfl

/-! #### Hooks and levels (O31) -/

section
variable {s : State} {p : PosNo}

theorem takesLevels_iff : s.takesLevels p = true ↔ s.mga.phase ≠ .init ∧ s.online p = true := by
  simp [State.takesLevels]

theorem handsetOfByte_of_lt {a : Byte} (h : 1 < a.toNat) : handsetOfByte a = none := by
  have zero : a ≠ 0 := by rintro rfl; exact absurd h (by decide)
  have one : a ≠ 1 := by rintro rfl; exact absurd h (by decide)
  rw [handsetOfByte, if_neg zero, if_neg one]

theorem hookCell_still {a v : Byte} (h : s.mga.phase = .init ∨ s.online p = false ∨ 1 < a.toNat ∨ 1 < v.toNat) :
    s.hookCell p a v = s := by
  unfold State.hookCell
  cases ha : handsetOfByte a with
  | none => rfl
  | some x =>
    dsimp only
    split
    · rfl
    · next ht =>
      obtain ⟨ph, on⟩ := takesLevels_iff.1 (by simpa using ht)
      obtain h | h | h | h := h
      · exact absurd h ph
      · exact absurd (h.symm.trans on) Bool.false_ne_true
      · exact absurd (ha.symm.trans (handsetOfByte_of_lt h)) (Option.some_ne_none x)
      · have zero : v ≠ 0 := by rintro rfl; exact absurd h (by decide)
        have one : v ≠ 1 := by rintro rfl; exact absurd h (by decide)
        rw [if_neg one, if_neg zero]

theorem levelCell_still {e : Byte} {v : U16} (h : s.mga.phase = .init ∨ s.online p = false ∨ 9 < e.toNat) :
    s.levelCell p e v = s := by
  unfold State.levelCell
  split
  · next he =>
    refine if_neg fun ht => ?_
    obtain ⟨ph, on⟩ := takesLevels_iff.1 ht
    obtain h | h | h := h
    · exact ph h
    · exact absurd (h.symm.trans on) Bool.false_ne_true
    · omega
  · rfl

variable (ph : s.mga.phase ≠ .init) (on : s.online p = true)
include ph on

theorem hookCell_off {a : Byte} {x : Handset} (ha : handsetOfByte a = some x) : s.hookCell p a 1 = s.lift p x := by
  have takes : s.takesLevels p = true := takesLevels_iff.2 ⟨ph, on⟩
  simp [State.hookCell, ha, takes]

theorem hookCell_on {a : Byte} {x : Handset} (ha : handsetOfByte a = some x) : s.hookCell p a 0 = s.putDown p x := by
  have takes : s.takesLevels p = true := takesLevels_iff.2 ⟨ph, on⟩
  simp [State.hookCell, ha, takes]

theorem levelCell_taken (e : Fin 10) (v : U16) : s.levelCell p (BitVec.ofNat 8 e.val) v =
    s.setPosition p { s.position p with cfg := { (s.position p).cfg with
      volumes := (s.position p).cfg.volumes.set e (min v.toNat 16384) } } := by
  have he : (BitVec.ofNat 8 e.val).toNat = e.val := by
    rw [BitVec.toNat_ofNat]
    omega
  have takes : s.takesLevels p = true := takesLevels_iff.2 ⟨ph, on⟩
  unfold State.levelCell
  simp only [he, e.isLt, takes, dif_pos, if_true]

end

/-- R35: a handset put down: a hook release, where its hook was off and the switching blocks are running. -/
theorem putDown_eq {s : State} (aw : s.awake) (p : PosNo) (x : Handset) :
    (.next (s.putDown p x) : Host.Outcome State Fault Refusal) =
      if (s.position p).hook x = true ∧ s.mga.phase = .running
      then exec (.hookRelease p x) (s.setPosition p ((s.position p).setHook x false))
      else .next (s.setPosition p ((s.position p).setHook x false)) := by
  have cond : ((s.position p).hook x && (s.setPosition p ((s.position p).setHook x false)).running) = true ↔
      (s.position p).hook x = true ∧ s.mga.phase = .running := by
    rw [Bool.and_eq_true, State.setPosition_running, State.running, decide_eq_true_eq]
  unfold State.putDown
  dsimp only
  by_cases h : (s.position p).hook x = true ∧ s.mga.phase = .running
  · rw [if_pos (cond.2 h), if_pos h]
    exact (exec_hookRelease (s := s.setPosition p _) aw (decide_eq_true h.2) p x).symm
  · rw [if_neg fun hc => h (cond.1 hc), if_neg h]

/-- Settles O31: the cells that are not taken, then each hook value and each endpoint. -/
theorem hookAndLevelCells : Obligations.HookAndLevelCells := by
  intro p s aw
  refine ⟨fun a v h => ?_, fun e v h => ?_, fun ph on => ⟨?_, ?_, ?_, ?_, fun e v => ?_⟩⟩
  · rw [exec_hook aw, hookCell_still h]
  · rw [exec_level aw, levelCell_still h]
  · rw [exec_hook aw, hookCell_off ph on (x := .left) rfl]
    rfl
  · rw [exec_hook aw, hookCell_off ph on (x := .right) rfl]
    rfl
  · rw [exec_hook aw, hookCell_on ph on (x := .left) rfl]
    exact putDown_eq aw p .left
  · rw [exec_hook aw, hookCell_on ph on (x := .right) rfl]
    exact putDown_eq aw p .right
  · rw [exec_level aw, levelCell_taken ph on]

end Sys2Proof.Machine

/-! ### Holds, privacy and the admission of line requests -/

namespace Sys2Proof.Machine

/-! #### Records and places (R50) -/

section
variable {s : State} {p : PosNo} {l : LineNo}

theorem connAt_spec {x : Place} {c : Conn} (h : s.connAt p x = some c) : c ∈ s.cxm.conns ∧ c.pos = p ∧ c.place = x := by
  have holds := List.find?_some h
  rw [Bool.and_eq_true, decide_eq_true_eq, decide_eq_true_eq] at holds
  exact ⟨List.mem_of_find?_eq_some h, holds⟩

theorem connOn_spec {x : Place} {c : Conn} (h : s.connOn p l x = some c) :
    c ∈ s.cxm.conns ∧ c.pos = p ∧ c.line = l ∧ c.place = x := by
  have holds := List.find?_some h
  simp only [Bool.and_eq_true, decide_eq_true_eq, and_assoc] at holds
  exact ⟨List.mem_of_find?_eq_some h, holds⟩

theorem connOn_eq_none {x : Place} (h : ∀ c ∈ s.cxm.conns, c.pos = p → c.line = l → c.place ≠ x) : s.connOn p l x = none := by
  refine List.find?_eq_none.2 fun c hc => ?_
  simp only [Bool.and_eq_true, decide_eq_true_eq]
  rintro ⟨⟨hp, hl⟩, hx⟩
  exact h c hc hp hl hx

/-- R56: a CONNECT event while the switching blocks are running. -/
theorem connEvent_eq (run : s.running = true) (kind : ConnectKind) (c : Conn) (cause : ConnectCause) :
    s.connEvent kind c cause = s.raise (.connect kind c.pos c.line c.place cause c.joined) :=
  raiseRunning_of_running run _

end

/-! #### Privacy toggles (O37) -/

section
variable {s : State} {l : LineNo} {c : Conn}

theorem share_one (h : s.bridge l = [c]) : s.share l = if s.cxm.privacy[l] then .exclusive c.pos else .sole := by
  unfold State.share
  rw [h]

/-- R57: a line that is SOLE or EXCLUSIVE has one handset connection. -/
theorem bridge_one (h : s.share l = .sole ∨ ∃ q, s.share l = .exclusive q) (hc : c ∈ s.bridge l) : s.bridge l = [c] := by
  unfold State.share at h
  split at h
  · next hb => simp [hb] at hc
  · next x hb =>
    rw [hb, List.mem_singleton] at hc
    rw [hb, hc]
  · obtain h | ⟨q, h⟩ := h
    · cases h
    · cases h

theorem share_setPrivacy (h : s.bridge l = [c]) (b : Bool) :
    (s.setPrivacy l b).share l = if b then .exclusive c.pos else .sole := by
  have flag : (s.setPrivacy l b).cxm.privacy[l] = b := by simp [State.setPrivacy]
  rw [share_one (s := s.setPrivacy l b) h, flag]

end

/-- Settles O37: the share state says how many handset connections the line has, and so what its flag makes of it. -/
theorem privacyToggles : Obligations.PrivacyToggles := by
  intro p a k s sw denied
  have run := sw.running
  rw [exec_privacyToggle sw.1 run]
  have denies (r : DenyReason) (x : DenyTarget) : s.deny p k r x = denied r x := deny_eq run p k r x
  refine ⟨fun hc => ?_, fun c hc => ?_⟩
  · simp only [State.privacyKey, hc, denies]
  obtain ⟨mem, pos, place⟩ := connAt_spec hc
  have here : c ∈ s.bridge c.line := (mem_bridge s c.line).2 ⟨mem, rfl, by rw [place]; exact handsetPlace_isHandset a⟩
  intro flagged
  refine ⟨fun h => ⟨?_, ?_⟩, fun q h => ⟨?_, ?_, ?_⟩, fun h => ?_⟩
  · simp only [State.privacyKey, hc, h]
    rw [connEvent_eq (s := s.setPrivacy c.line true) run]
    rfl
  · exact (share_setPrivacy (bridge_one (.inl h) here) true).trans (congrArg _ pos)
  · simp only [State.privacyKey, hc, h]
    rw [connEvent_eq (s := s.setPrivacy c.line false) run]
    rfl
  · exact share_setPrivacy (bridge_one (.inr ⟨q, h⟩) here) false
  · have one := share_one (bridge_one (.inr ⟨q, h⟩) here)
    rw [h, pos] at one
    split at one
    · exact ShareState.exclusive.inj one
    · cases one
  · simp only [State.privacyKey, hc, h, denies]

/-! #### Reports of lines that keep connections (R7, R13) -/

section
variable {s : State} {l : LineNo}

theorem setLine_line_id (s : State) (l : LineNo) : s.setLine l (s.line l) = s := by
  simp [State.setLine, State.line]

theorem connectionEvent_same (s : State) (l : LineNo) (o : Totals) : s.connectionEvent l o o = s := by
  have first : (decide (o.sum = 0) && decide (0 < o.sum)) = false := by
    rw [← Bool.not_eq_true, Bool.and_eq_true, decide_eq_true_eq, decide_eq_true_eq]
    omega
  have last : (decide (0 < o.sum) && decide (o.sum = 0)) = false := by rw [Bool.and_comm, first]
  have held : (o.allHeld && (decide (0 < o.unheld) || decide (0 < o.speaker))) = false := by
    rw [← Bool.not_eq_true]
    simp only [Totals.allHeld, Bool.and_eq_true, Bool.or_eq_true, decide_eq_true_eq]
    omega
  unfold State.connectionEvent
  cases (s.line l).state <;> simp [first, last, held]

/-- R7: a report that finds the totals as they were changes nothing. -/
theorem report_same (h : s.reported l) : s.report l = s := by
  have same : s.setLine l { s.line l with totals := s.totalsNow l } = s := by
    rw [← show (s.line l).totals = s.totalsNow l from h]
    exact setLine_line_id s l
  rw [report_eq, same, show (s.line l).totals = s.totalsNow l from h, connectionEvent_same]
  exact ite_self s

/-- R13: the report of an ACTIVE line that keeps connections. -/
theorem report_active (run : s.running = true) (hw : (s.line l).cfg.kind.isWire = true) (hs : (s.line l).state = .active)
    (ho : (s.line l).totals.allHeld = false) (hc : s.lineConns l ≠ []) :
    ((s.report l).line l).state = if (s.totalsNow l).allHeld then .held else .active := by
  rw [report_wire run hw, connectionEvent_stays (by simpa using hs) (fun h => hc (totalsNow_sum_eq_zero.1 h)) ho]
  split
  · rw [moveLine_line]
    rfl
  · simpa using hs

/-- R12: the report of a line in CALLING_OUT that keeps connections. -/
theorem report_calling (hs : (s.line l).state = .callingOut) (hc : s.lineConns l ≠ []) :
    ((s.report l).line l).state = .callingOut := by
  have last : (s.totalsNow l).sum ≠ 0 := fun h => hc (totalsNow_sum_eq_zero.1 h)
  rw [report_eq]
  split
  · simp [State.connectionEvent, hs, last]
  · simpa using hs

end

/-! #### A record in its place takes another place (R52, R63, R65) -/

section
variable {s : State} {c c' : Conn}

theorem changeConn_mem (hc : c ∈ s.cxm.conns) : c' ∈ (s.changeConn c c').cxm.conns :=
  List.mem_map.2 ⟨c, hc, if_pos rfl⟩

theorem changeConn_lineConns_ne_nil (hc : c ∈ s.cxm.conns) : (s.changeConn c c').lineConns c'.line ≠ [] :=
  List.ne_nil_of_mem (mem_lineConns.2 ⟨changeConn_mem hc, rfl⟩)

theorem does_changeConn (s : State) (c c' : Conn) : Does tableOnly s (s.changeConn c c') := does_setConns trivial s _

end

theorem Does.prs {K : Touch → Prop} {s t : State} (h : Does K s t) (hr : ¬ K .recording := by exact id)
    (hd : ∀ l, ¬ K (.demand l) := by exact fun _ => id) : t.prs = s.prs :=
  h.reads State.prs State.raise_prs fun _ _ _ hk hu => by
    cases hu
    case need => exact absurd hk hr
    case demand l _ => exact absurd hk (hd l)
    all_goals rfl

/-! #### Holds (O36) -/

/-- R65: the record `c` put to HOLD in its place. -/
def State.putOnHold (s : State) (c : Conn) : State :=
  (s.changeConn c { c with place := .hold }).connEvent .held { c with place := .hold } .hold

section
variable {s : State} {c : Conn}

theorem does_putOnHold : Does tableOnly s (s.putOnHold c) := (does_changeConn s c _).trans (does_raiseRunning _ _)

theorem putOnHold_conns : (s.putOnHold c).cxm.conns = s.cxm.conns.map (fun x => if x = c then { c with place := .hold } else x) := by
  simp [State.putOnHold, State.connEvent, State.changeConn]

theorem putOnHold_privacy : (s.putOnHold c).cxm.privacy = s.cxm.privacy := by
  simp [State.putOnHold, State.connEvent, State.changeConn]

theorem putOnHold_lineConns_ne_nil (hc : c ∈ s.cxm.conns) : (s.putOnHold c).lineConns c.line ≠ [] := by
  rw [lineConns_congr (s.changeConn c { c with place := .hold }) _ (by simp [State.putOnHold, State.connEvent])]
  exact changeConn_lineConns_ne_nil hc

theorem holdKey_taken {p : PosNo} {a : Handset} {k : KeyNo} (hc : s.connAt p (handsetPlace a) = some c)
    (room : s.holdSlots p < 8) : s.holdKey p a k = (s.putOnHold c).report c.line := by
  simp only [State.holdKey, hc]
  rw [if_neg (Nat.not_le.2 room)]
  rfl

end

/-- Settles O36: a hold is one change of place and one report; the line's step follows from what it keeps. -/
theorem holdRequestHolds : Obligations.HoldRequestHolds := by
  intro p a k s sw rep denied
  have run := sw.running
  rw [exec_holdRequest sw.1 run]
  have denies (r : DenyReason) (x : DenyTarget) : s.deny p k r x = denied r x := deny_eq run p k r x
  refine ⟨fun hc => ?_, fun c hc => ⟨fun full => ?_, fun room => ?_⟩⟩
  · simp only [State.holdKey, hc, denies]
  · simp only [State.holdKey, hc, denies]
    rw [if_pos full]
  obtain ⟨mem, pos, place⟩ := connAt_spec hc
  have put : Does tableOnly s (s.putOnHold c) := does_putOnHold
  have told : Does (recordOf c.line) (s.putOnHold c) ((s.putOnHold c).report c.line) := does_report_only _ _
  have line : (s.putOnHold c).line c.line = s.line c.line := put.line c.line id
  have totals : ((s.putOnHold c).report c.line).totalsNow c.line = (s.putOnHold c).totalsNow c.line :=
    totalsNow_congr _ _ (lineConns_congr _ _ told.conns)
  have old : ((s.putOnHold c).line c.line).totals.allHeld = false := by
    rw [line, rep c.line]
    exact totalsNow_allHeld_of_unheld mem (by rw [place]; exact handsetPlace_isUnheld a)
  rw [holdKey_taken hc room]
  refine ⟨_, rfl, told.conns.trans putOnHold_conns, ?_, told.prs.trans put.prs, told.rcu.trans put.rcu,
    report_reported _ _, fun hw hs => ?_, fun hs => ?_, fun l hl => ?_, told.lif.trans put.lif, told.psc.trans put.psc,
    told.cdu.trans put.cdu, told.mix.trans put.mix, told.gtu.trans put.gtu⟩
  · rw [(calm_report _ _).cxm, putOnHold_privacy]
  · rw [totals]
    exact report_active (put.running.trans run) (by rw [line]; exact hw) (by rw [line]; exact hs) old
      (putOnHold_lineConns_ne_nil mem)
  · exact report_calling (by rw [line]; exact hs) (putOnHold_lineConns_ne_nil mem)
  · rw [told.line l hl, put.line l id]

end Sys2Proof.Machine

/-! ### The admission of line requests (R37, R60, R61) -/

namespace Sys2Proof.Machine

/-! #### Classification -/

section
variable {s : State} {p : PosNo} {a : Handset} {l : LineNo}

/-- R37: the position has no handset connection on the line. -/
def State.strange (s : State) (p : PosNo) (l : LineNo) : Prop :=
  ∀ c ∈ s.cxm.conns, c.pos = p → c.line = l → c.place.isHandset = false

theorem State.strange.connOn (h : s.strange p l) {x : Place} (hx : x.isHandset = true) : s.connOn p l x = none := by
  refine connOn_eq_none fun c hc hp hl he => ?_
  have none := h c hc hp hl
  rw [he, hx] at none
  exact Bool.false_ne_true none.symm

theorem classify_strange (h : s.strange p l) :
    s.classify p a l = match s.pickable p l with
      | some c => .pickup c
      | none => .connect := by
  unfold State.classify
  rw [h.connOn (handsetPlace_isHandset a), h.connOn (handsetPlace_isHandset (otherHandset a)), h.connOn (x := .hold) rfl]
  rfl

theorem pickable_unheld {d : Conn} (hd : d ∈ s.cxm.conns) (hl : d.line = l) (hu : d.place.isUnheld = true) :
    s.pickable p l = none := by
  unfold State.pickable
  exact if_pos (List.any_eq_true.2 ⟨d, (mem_bridge s l).2 ⟨hd, hl, isHandset_iff.2 (.inl hu)⟩, hu⟩)

theorem pickable_none (h : ∀ c ∈ s.cxm.conns, c.line = l → c.place.isHold = false) : s.pickable p l = none := by
  unfold State.pickable
  split
  · rfl
  · refine List.find?_eq_none.2 fun c hc => ?_
    obtain ⟨hc, hl, -⟩ := (mem_bridge s l).1 hc
    simp [h c hc hl]

/-- R37: what a request that would add a connection is. -/
theorem classify_connect (hs : s.strange p l)
    (hp : (∀ c ∈ s.cxm.conns, c.line = l → c.place.isHold = false) ∨
      ∃ d ∈ s.cxm.conns, d.line = l ∧ d.place.isUnheld = true) : s.classify p a l = .connect := by
  have none : s.pickable p l = none := by
    obtain hp | ⟨d, hd, hl, hu⟩ := hp
    · exact pickable_none hp
    · exact pickable_unheld hd hl hu
  rw [classify_strange hs, none]

end

/-! #### The recording check (R61) -/

section
variable {s : State} {x : Target} {policy : PolicyCode}

theorem recordingCheck_fails (hp : policy = .mandatory) (hb : s.boundChan x = none) (ha : s.allocatable = none) :
    s.recordingCheck x policy = none := by
  simp [State.recordingCheck, State.ask, hp, hb, ha]

theorem recordingCheck_passes
    (h : policy ≠ .mandatory ∨ (s.boundChan x).isSome = true ∨ s.allocatable.isSome = true) :
    ∃ t, s.recordingCheck x policy = some t := by
  unfold State.recordingCheck State.ask
  split
  · exact ⟨s, rfl⟩
  · next hp =>
    split
    · exact ⟨s, rfl⟩
    · next hb =>
      obtain ⟨c, hc⟩ := Option.isSome_iff_exists.1 ((h.resolve_left hp).resolve_left hb)
      rw [hc]
      exact ⟨_, rfl⟩

end

/-! #### The checks in their order (R60) -/

section
variable {s : State} {p : PosNo} {l : LineNo} {gone : Option Conn}

theorem privateFrom_eq_true {q : PosNo} (h : s.share l = .exclusive q) (hq : q ≠ p) : s.privateFrom l p = true := by
  simp [State.privateFrom, h, hq]

theorem privateFrom_eq_false (h : ∀ q, s.share l = .exclusive q → q = p) : s.privateFrom l p = false := by
  unfold State.privateFrom
  split
  · next q hq => simp [h q hq]
  · rfl

theorem share_bridged (h : 2 ≤ (s.bridge l).length) (q : PosNo) : s.share l ≠ .exclusive q := fun he => by
  obtain ⟨one, -⟩ := (share_exclusive_iff s l).1 ⟨q, he⟩
  omega

theorem admission_unused (h : (s.line l).cfg.kind = .unused) : s.admission p l gone = .error .disabled := by
  simp only [State.admission, h, if_true]

theorem admission_hootLeg (h : (s.line l).cfg.kind = .hootLeg) : s.admission p l gone = .error .wrongKind := by
  simp [State.admission, h]

variable (hw : (s.line l).cfg.kind.isWire = true)
include hw

theorem kind_of_isWire : (s.line l).cfg.kind ≠ .unused ∧ (s.line l).cfg.kind ≠ .hootLeg := by
  constructor <;> intro hk <;> rw [hk] at hw <;> exact Bool.false_ne_true hw

theorem admission_fault (hf : (s.line l).state = .fault) : s.admission p l gone = .error .fault := by
  obtain ⟨unused, hoot⟩ := kind_of_isWire hw
  simp [State.admission, unused, hoot, hf]

theorem admission_private (hf : (s.line l).state ≠ .fault) (hp : s.privateFrom l p = true) :
    s.admission p l gone = .error .privateLine := by
  obtain ⟨unused, hoot⟩ := kind_of_isWire hw
  simp [State.admission, unused, hoot, hf, hp]

theorem admission_bridgeFull (hf : (s.line l).state ≠ .fault) (hb : 4 ≤ (s.bridge l).length) :
    s.admission p l none = .error .bridgeFull := by
  obtain ⟨unused, hoot⟩ := kind_of_isWire hw
  have shared : s.privateFrom l p = false := privateFrom_eq_false fun q hq => absurd hq (share_bridged (by omega) q)
  simp [State.admission, unused, hoot, hf, shared, hb, Config.bridgeRoom]

variable (hf : (s.line l).state ≠ .fault) (hp : s.privateFrom l p = false)
  (hb : gone.isSome = true ∨ (s.bridge l).length < 4)
include hf hp hb

theorem admission_checked : s.admission p l gone =
    (s.recordingCheck (.line l) (s.linePolicyWith l p gone)).elim (.error .noRecorder) .ok := by
  obtain ⟨unused, hoot⟩ := kind_of_isWire hw
  have room : (gone.isNone && decide (Config.bridgeRoom ≤ (s.bridge l).length)) = false := by
    rw [← Bool.not_eq_true, Bool.and_eq_true, decide_eq_true_eq, Option.isNone_iff_eq_none]
    rintro ⟨none, full⟩
    obtain hb | hb := hb
    · rw [none] at hb
      cases hb
    · exact absurd hb (Nat.not_lt.2 full)
  unfold State.admission
  simp only [unused, hoot, hf, hp, room, if_false, Bool.false_eq_true]
  cases s.recordingCheck (.line l) (s.linePolicyWith l p gone) <;> rfl

theorem admission_noRecorder (hm : s.linePolicyWith l p gone = .mandatory) (hn : s.boundChan (.line l) = none)
    (ha : s.allocatable = none) : s.admission p l gone = .error .noRecorder := by
  rw [admission_checked hw hf hp hb, recordingCheck_fails hm hn ha, Option.elim_none]

theorem admission_passes (h : s.linePolicyWith l p gone ≠ .mandatory ∨ (s.boundChan (.line l)).isSome = true ∨
    s.allocatable.isSome = true) : ∃ t, s.admission p l gone = .ok t ∧
      s.recordingCheck (.line l) (s.linePolicyWith l p gone) = some t := by
  obtain ⟨t, ht⟩ := recordingCheck_passes h
  exact ⟨t, by rw [admission_checked hw hf hp hb, ht, Option.elim_some], ht⟩

end

/-! #### Denials (O34) -/

section
variable {s : State} {p : PosNo} {a : Handset} {l : LineNo} {k : KeyNo}

theorem lineRequest_late (off : s.online p = false) : s.lineRequest p a l k = s.lateLineRequest p l k := by
  unfold State.lineRequest
  rw [off]
  rfl

theorem lineRequest_connect (on : s.online p = true) (hc : s.classify p a l = .connect) :
    s.lineRequest p a l k = match s.admission p l none with
      | .error r => s.deny p k r (.line l)
      | .ok t => t.connect p a l := by
  unfold State.lineRequest
  rw [on, hc]
  rfl

/-- R43, R69: a request that admission refuses is denied, on time or late. -/
theorem lineRequest_denied (h : s.online p = false ∨ s.classify p a l = .connect) {r : DenyReason}
    (ha : s.admission p l none = .error r) : s.lineRequest p a l k = s.deny p k r (.line l) := by
  cases on : s.online p
  · rw [lineRequest_late on, State.lateLineRequest, ha]
  · rw [lineRequest_connect on (h.resolve_left (by simp [on])), ha]

end

theorem isWire_of_kind {kind : LineKind} (h : kind = .ard ∨ kind = .mrd) : kind.isWire = true := by
  obtain rfl | rfl := h <;> rfl

/-- Settles O34: each check of admission gives its denial, and a late request that passes them all is DISABLED. -/
theorem lineRequestDenials : Obligations.LineRequestDenials := by
  intro p a l k s sw connects denied wire
  have run := sw.running
  rw [exec_lineRequest sw.1 run]
  have denies (r : DenyReason) : s.deny p k r (.line l) = denied r := deny_eq run p k r _
  refine ⟨fun hc => ?_, fun off hw hf hs hb hr => ?_⟩
  · have case : s.online p = false ∨ s.classify p a l = .connect := hc.imp_right fun h => classify_connect h.1 h.2
    have give {r : DenyReason} (ha : s.admission p l none = .error r) :
        (.next (s.lineRequest p a l k) : Host.Outcome State Fault Refusal) = .next (denied r) := by
      rw [lineRequest_denied case ha, denies]
    refine ⟨fun h => give (admission_unused h), fun h => give (admission_hootLeg h),
      fun hw hf => give (admission_fault (isWire_of_kind hw) hf),
      fun q hw hf hs hq => give (admission_private (isWire_of_kind hw) hf (privateFrom_eq_true hs hq)),
      fun hw hf hb => give (admission_bridgeFull (isWire_of_kind hw) hf hb), fun hw hf hs hb hm hn ha => ?_⟩
    exact give (admission_noRecorder (isWire_of_kind hw) hf (privateFrom_eq_false hs) (.inr hb) hm hn ha)
  · obtain ⟨t, ht, -⟩ := admission_passes (gone := none) (isWire_of_kind hw) hf (privateFrom_eq_false hs) (.inr hb) hr
    rw [lineRequest_late off, State.lateLineRequest, ht]
    exact congrArg _ ((denies .disabled).trans (by simp only [denied, off, Bool.false_eq_true, if_false]))

end Sys2Proof.Machine

/-! ### Writes of the console tables (R27, R31, R46) -/

namespace Sys2Proof.Machine

/-! #### Requests of the host that PSC judges -/

section
variable {s : State} (sv : s.serving) (tag index : U16)
include sv

/-- R180: a judged write and its response. -/
theorem exec_judged {i : Instr} (hi : forMga i) (judge : State → Verdict) (take : s.takeRequest i = s.request 2 tag judge) :
    exec i s = .next ((judge s).state.respond 2 tag (judge s).code (judge s).data) := by
  rw [exec_takes sv.awake i hi, take, request_serving sv]

theorem exec_writePositionCfg (e : PositionEntry) : exec (.writePositionCfg tag index e) s =
    .next ((s.judgePositionCfg index e).state.respond 2 tag (s.judgePositionCfg index e).code
      (s.judgePositionCfg index e).data) :=
  exec_judged sv tag (i := .writePositionCfg tag index e) trivial (fun s => s.judgePositionCfg index e) rfl

theorem exec_writeKeyMap (e : KeyEntry) : exec (.writeKeyMap tag index e) s =
    .next ((s.judgeKeyMap index e).state.respond 2 tag (s.judgeKeyMap index e).code (s.judgeKeyMap index e).data) :=
  exec_judged sv tag (i := .writeKeyMap tag index e) trivial (fun s => s.judgeKeyMap index e) rfl

theorem exec_writeSpeakerAssign (e : AssignEntry) : exec (.writeSpeakerAssign tag index e) s =
    .next ((s.judgeSpeakerAssign index e).state.respond 2 tag (s.judgeSpeakerAssign index e).code
      (s.judgeSpeakerAssign index e).data) :=
  exec_judged sv tag (i := .writeSpeakerAssign tag index e) trivial (fun s => s.judgeSpeakerAssign index e) rfl

theorem exec_writeLampStyle (e : LampEntry) : exec (.writeLampStyle tag index e) s =
    .next ((s.judgeLampStyle index e).state.respond 2 tag (s.judgeLampStyle index e).code
      (s.judgeLampStyle index e).data) :=
  exec_judged sv tag (i := .writeLampStyle tag index e) trivial (fun s => s.judgeLampStyle index e) rfl

end

theorem numOf_of_lt {n k : Nat} (h : k < n) : numOf n k = some ⟨k, h⟩ := dif_pos h

theorem numOf_eq_val {n k : Nat} {i : Fin n} (h : k = i.val) : numOf n k = some i := by rw [h, numOf_val]

/-! #### Codes (R27, R31, R46) -/

section
variable {b : Byte}

theorem recordModeOf_code {m : RecordMode} (h : b.toNat = m.code) : recordModeOf b = some m := by
  cases m <;> simp [recordModeOf, h, RecordMode.code]

theorem talkClassOf_code {c : TalkClass} (h : b.toNat = talkClassCode c) : talkClassOf b = some c := by
  cases c <;> simp [talkClassOf, h, talkClassCode]

theorem colourOf_code {c : Colour} (h : b.toNat = c.code) : colourOf b = some c := by
  cases c <;> simp [colourOf, h, Colour.code]

theorem recordModeOf_eq_none : recordModeOf b = none ↔ 2 < b.toNat := by
  unfold recordModeOf
  split
  all_goals
    simp only [reduceCtorEq, false_iff, true_iff, imp_false] at *
    omega

theorem talkClassOf_eq_none : talkClassOf b = none ↔ 2 < b.toNat := by
  unfold talkClassOf
  split
  all_goals
    simp only [reduceCtorEq, false_iff, true_iff, imp_false] at *
    omega

theorem colourOf_eq_none : colourOf b = none ↔ 2 < b.toNat := by
  unfold colourOf
  split
  all_goals
    simp only [reduceCtorEq, false_iff, true_iff, imp_false] at *
    omega

theorem keyActionOf_eq_none {target : U16} : keyActionOf b target = none ↔ 9 < b.toNat := by
  unfold keyActionOf
  split
  all_goals
    simp only [reduceCtorEq, false_iff, true_iff, imp_false] at *
    omega

/-- R31: a target beyond the range of its action. -/
theorem keyActionOf_beyond {target : U16} (h : (b.toNat = 1 ∧ 512 ≤ target.toNat) ∨ (b.toNat = 6 ∧ 64 ≤ target.toNat) ∨
    (b.toNat = 7 ∧ 8 ≤ target.toNat)) : keyActionOf b target = some none := by
  unfold keyActionOf
  obtain ⟨hb, ht⟩ | ⟨hb, ht⟩ | ⟨hb, ht⟩ := h <;> simp only [hb, numOf_of_le ht] <;> rfl

theorem styleColourOf_eq_none (h : 3 < b.toNat) : styleColourOf b = none := by
  have three : b ≠ 3 := by rintro rfl; exact absurd h (by decide)
  rw [styleColourOf, if_neg three, colourOf_eq_none.2 (by omega)]
  rfl

theorem patternOf_eq_none (h : (1 < b.toNat ∧ b.toNat < 16) ∨ 31 < b.toNat) : patternOf b = none := by
  have zero : b ≠ 0 := by rintro rfl; exact absurd h (by decide)
  have one : b ≠ 1 := by rintro rfl; exact absurd h (by decide)
  rw [patternOf, if_neg zero, if_neg one]
  split
  · rw [numOf_of_le (by omega)]
    rfl
  · rfl

theorem levelOf_eq (v : U16) : levelOf v = min v.toNat 16384 := by
  simp [levelOf, clampTo, Config.unity]

theorem levelClamps_iff (v : U16) : levelClamps v = true ↔ 16384 < v.toNat := by
  simp [levelClamps, beyond, Config.unity]

end

/-! #### What POSITION_CFG entries stand for -/

section
variable {s : State} {index : U16} {e : PositionEntry}

theorem judgePositionCfg_index (h : 32 ≤ index.toNat) : s.judgePositionCfg index e = s.refuse .badIndex := by
  rw [State.judgePositionCfg, numOf_of_le h]

theorem judgePositionCfg_value (h : index.toNat < 32)
    (hr : 2 < e.recordMode.toNat ∨ 2 < e.talkClass.toNat ∨ 1 < e.autoHold.toNat) :
    s.judgePositionCfg index e = s.refuse .badValue := by
  unfold State.judgePositionCfg
  rw [numOf_of_lt h]
  obtain h | h | h := hr
  · rw [recordModeOf_eq_none.2 h]
  · rw [talkClassOf_eq_none.2 h]
    cases recordModeOf e.recordMode <;> rfl
  · rw [flagOf_eq_none h]
    cases recordModeOf e.recordMode <;> cases talkClassOf e.talkClass <;> rfl

theorem judgePositionCfg_reference (h : index.toNat < 32)
    (hr : ¬ (2 < e.recordMode.toNat ∨ 2 < e.talkClass.toNat ∨ 1 < e.autoHold.toNat))
    (hb : 7 < e.ringSpeaker.toNat ∨ 3 < e.ringTone.toNat) : s.judgePositionCfg index e = s.refuse .badIndex := by
  simp only [not_or] at hr
  obtain ⟨hm, hc, ha⟩ := hr
  obtain ⟨m, hm⟩ := Option.ne_none_iff_exists'.1 fun he => hm (recordModeOf_eq_none.1 he)
  obtain ⟨c, hc⟩ := Option.ne_none_iff_exists'.1 fun he => hc (talkClassOf_eq_none.1 he)
  obtain ⟨a, ha⟩ := exists_flag_code ha
  unfold State.judgePositionCfg
  rw [numOf_of_lt h]
  simp only [hm, hc, ha]
  obtain h | h := hb
  · rw [numOf_of_le (n := 8) h]
  · rw [numOf_of_le (n := 4) h]
    cases numOf 8 e.ringSpeaker.toNat <;> rfl

/-- The configuration that an entry stands for. -/
structure PositionEntryMeans (e : PositionEntry) (cfg : PositionCfg) : Prop where
  mode : e.recordMode.toNat = cfg.recordMode.code
  talk : e.talkClass.toNat = talkClassCode cfg.talkClass
  hold : e.autoHold.toNat = if cfg.autoHold then 1 else 0
  duck : cfg.duck = min e.duck.toNat 16384
  speaker : e.ringSpeaker.toNat = cfg.ringSpeaker.val
  tone : e.ringTone.toNat = cfg.ringTone.val
  volumes : cfg.volumes = e.volumes.map (fun v => min v.toNat 16384)

theorem judgePositionCfg_means {p : PosNo} {cfg : PositionCfg} (hi : index.toNat = p.val) (m : PositionEntryMeans e cfg) :
    s.judgePositionCfg index e =
      (s.storePositionCfg p cfg).accept (levelClamps e.duck || e.volumes.toList.any levelClamps) := by
  have levels : e.volumes.map levelOf = cfg.volumes := m.volumes ▸ congrArg (e.volumes.map ·) (funext levelOf_eq)
  unfold State.judgePositionCfg
  simp only [numOf_eq_val hi, recordModeOf_code m.mode, talkClassOf_code m.talk, flagOf_code m.hold,
    numOf_eq_val m.speaker, numOf_eq_val m.tone, levels, levelOf_eq, ← m.duck]

end

/-! #### Re-resolution of many targets (R140, R141) -/

section
variable {s : State} {x : Target}

/-- What a part of R141 does: it brings the changes of the kind `P` to their new needs. -/
def passes (P : NeedChange → Prop) (f : State → NeedChange → State) : Prop :=
  ∀ (s : State) (c : NeedChange) (x : Target), (c.target = x ∧ P c → (f s c).keptNeed x = c.new) ∧
    (¬ (c.target = x ∧ P c) → (f s c).keptNeed x = s.keptNeed x)

theorem passes_stop : passes (fun c => c.old ≠ .none ∧ c.new = .none) State.passStop := by
  intro s c x
  unfold State.passStop
  constructor
  · rintro ⟨rfl, hc⟩
    rw [if_pos hc, noLongerNeeds_keptNeed, State.setKeptNeed_keptNeed_eq, if_pos rfl, hc.2]
  · intro h
    split
    · next hc => rw [noLongerNeeds_keptNeed, State.setKeptNeed_keptNeed_eq, if_neg fun e => h ⟨e, hc⟩]
    · rfl

theorem passes_rank :
    passes (fun c => (c.old = .best ∧ c.new = .mandatory) ∨ (c.old = .mandatory ∧ c.new = .best)) State.passRank := by
  rintro s ⟨y, old, new⟩ x
  cases old <;> cases new <;>
    simp +contextual [State.passRank, rankChange_keptNeed, State.setKeptNeed_keptNeed_eq]

theorem passes_start : passes (fun c => c.old = .none ∧ c.new ≠ .none) State.passStart := by
  rintro s ⟨y, old, new⟩ x
  cases old <;> cases new <;>
    simp +contextual [State.passStart, needsRecording_keptNeed, State.setKeptNeed_keptNeed_eq]

/-- The changes of a trigger: for each target its kept need and the need found. -/
def State.changeOf (s : State) (t : Target) : NeedChange := { target := t, old := s.keptNeed t, new := s.needNow t }

theorem foldl_passes {P : NeedChange → Prop} {f : State → NeedChange → State} (hf : passes P f) (ts : List Target) (u : State) :
    (x ∈ ts ∧ P (s.changeOf x) → ((ts.map s.changeOf).foldl f u).keptNeed x = s.needNow x) ∧
    (¬ (x ∈ ts ∧ P (s.changeOf x)) → ((ts.map s.changeOf).foldl f u).keptNeed x = u.keptNeed x) := by
  induction ts generalizing u with
  | nil => simp
  | cons y ys ih =>
    obtain ⟨changed, kept⟩ := hf u (s.changeOf y) x
    obtain ⟨later, not⟩ := ih (f u (s.changeOf y))
    rw [List.map_cons, List.foldl_cons]
    by_cases hys : x ∈ ys ∧ P (s.changeOf x)
    · exact ⟨fun _ => later hys, fun h => absurd ⟨List.mem_cons_of_mem _ hys.1, hys.2⟩ h⟩
    rw [not hys]
    constructor
    · rintro ⟨hx, hp⟩
      obtain rfl : x = y := (List.mem_cons.1 hx).resolve_right fun h => hys ⟨h, hp⟩
      exact changed ⟨rfl, hp⟩
    · exact fun h => kept fun ⟨he, hp⟩ => h (by
        obtain rfl : y = x := he
        exact ⟨List.mem_cons_self, hp⟩)

theorem reResolve_eq (s : State) (ts : List Target) : s.reResolve ts =
    (ts.map s.changeOf).foldl State.passStart ((ts.map s.changeOf).foldl State.passRank
      ((ts.map s.changeOf).foldl State.passStop s)) := rfl

/-- R140, R141: a trigger leaves each of its targets with the need found, and every other target with the need kept. -/
theorem reResolve_needs (s : State) (ts : List Target) (x : Target) :
    (s.reResolve ts).keptNeed x = if x ∈ ts then s.needNow x else s.keptNeed x := by
  obtain ⟨stop, stop'⟩ := foldl_passes (s := s) (x := x) passes_stop ts s
  obtain ⟨rank, rank'⟩ := foldl_passes (s := s) (x := x) passes_rank ts ((ts.map s.changeOf).foldl State.passStop s)
  obtain ⟨start, start'⟩ := foldl_passes (s := s) (x := x) passes_start ts
    ((ts.map s.changeOf).foldl State.passRank ((ts.map s.changeOf).foldl State.passStop s))
  rw [reResolve_eq]
  split
  · next hx =>
    simp only [hx, true_and, State.changeOf] at stop stop' rank rank' start start'
    cases hold : s.keptNeed x <;> cases hnew : s.needNow x <;> simp_all
  · next hx =>
    rw [start' fun h => hx h.1, rank' fun h => hx h.1, stop' fun h => hx h.1]

theorem needNow_group_congr {t : State} {g : GroupNo} (group : t.group g = s.group g)
    (modes : ∀ e ∈ (s.group g).talkers, t.recordMode e.pos = s.recordMode e.pos) :
    t.needNow (.group g) = s.needNow (.group g) := by
  have same : ((s.group g).talkers.map (·.pos)).map t.recordMode = ((s.group g).talkers.map (·.pos)).map s.recordMode := by
    rw [List.map_map, List.map_map]
    exact List.map_congr_left modes
  unfold State.needNow State.groupPolicy State.groupPolicyOf
  simp only [group]
  cases h : (s.group g).talkers with
  | nil => rfl
  | cons e es => simp only [← h, same]

theorem needNow_line_congr {t : State} {l : LineNo} (conns : t.lineConns l = s.lineConns l) (side : t.lineSide l = s.lineSide l)
    (modes : ∀ c ∈ s.lineConns l, t.recordMode c.pos = s.recordMode c.pos) (demand : t.demand l = s.demand l) :
    t.needNow (.line l) = s.needNow (.line l) := by
  have same : (t.parties l).map t.recordMode = (s.parties l).map s.recordMode := by
    rw [State.parties, State.parties, conns, List.map_map, List.map_map]
    exact List.map_congr_left modes
  simp only [State.needNow, State.linePolicy, conns, side, same, demand]

/-- R140: re-resolution changes nothing that a need reads. -/
theorem reResolve_needNow (s : State) (ts : List Target) (x : Target) : (s.reResolve ts).needNow x = s.needNow x := by
  have only := does_reResolve_only s ts
  cases x with
  | line l => exact only.needNow l
  | group g =>
    refine needNow_group_congr (by rw [State.group, only.gtu]; rfl) fun e _ => ?_
    rw [recordMode_of_psc only.psc]

end

/-! #### A change of record_mode (R27, R140) -/

section
variable {s : State} {p : PosNo} {cfg : PositionCfg}

/-- R27: the configuration stored. -/
def State.positioned (s : State) (p : PosNo) (cfg : PositionCfg) : State := s.setPosition p { s.position p with cfg := cfg }

theorem storePositionCfg_same (h : cfg.recordMode = (s.position p).cfg.recordMode) :
    s.storePositionCfg p cfg = s.positioned p cfg :=
  if_neg fun hn => hn h.symm

theorem storePositionCfg_changed (h : cfg.recordMode ≠ (s.position p).cfg.recordMode) :
    s.storePositionCfg p cfg = (s.positioned p cfg).reResolvePosition p :=
  if_pos (Ne.symm h)

theorem positioned_recordMode {q : PosNo} (h : q ≠ p ∨ cfg.recordMode = (s.position p).cfg.recordMode) :
    (s.positioned p cfg).recordMode q = s.recordMode q := by
  unfold State.recordMode State.positioned
  rw [State.setPosition_position_eq]
  split
  · next he =>
    obtain rfl : p = q := he
    exact h.resolve_left fun hn => hn rfl
  · rfl

/-- R136, R138: a need reads the record_modes of its own parties alone. -/
theorem positioned_needNow {x : Target} (line : ∀ l, x = .line l → ∀ c ∈ s.lineConns l,
      c.pos ≠ p ∨ cfg.recordMode = (s.position p).cfg.recordMode)
    (group : ∀ g, x = .group g → ∀ e ∈ (s.group g).talkers, e.pos ≠ p ∨ cfg.recordMode = (s.position p).cfg.recordMode) :
    (s.positioned p cfg).needNow x = s.needNow x := by
  cases x with
  | line l =>
    exact needNow_line_congr rfl (lineSide_congr rfl rfl rfl rfl rfl l) (fun c hc => positioned_recordMode (line l rfl c hc)) rfl
  | group g => exact needNow_group_congr rfl fun e he => positioned_recordMode (group g rfl e he)

/-- R140: a taken write leaves the needs settled. -/
theorem storePositionCfg_settled (h : s.needsSettled) : (s.storePositionCfg p cfg).needsSettled := by
  have kept (x : Target) : (s.positioned p cfg).keptNeed x = s.keptNeed x := State.setPosition_keptNeed s p _ x
  intro x
  by_cases hm : cfg.recordMode = (s.position p).cfg.recordMode
  · rw [storePositionCfg_same hm, kept, h x, positioned_needNow (fun _ _ _ _ => .inr hm) fun _ _ _ _ => .inr hm]
  rw [storePositionCfg_changed hm, State.reResolvePosition, reResolve_needs, reResolve_needNow]
  split
  · rfl
  · next hx =>
    simp only [List.mem_append, List.mem_map, List.mem_filter, List.mem_finRange, true_and, not_or, not_exists] at hx
    obtain ⟨lines, groups⟩ := hx
    rw [kept, h x, positioned_needNow]
    · rintro l rfl c hc
      refine .inl fun hp => lines l ⟨List.any_eq_true.2 ⟨c, hc, decide_eq_true hp⟩, rfl⟩
    · rintro g rfl e he
      exact .inl fun hp => groups g ⟨List.any_eq_true.2 ⟨e, he, decide_eq_true hp⟩, rfl⟩

/-- The footprint of a taken write on what is not PSC's. -/
theorem does_storePositionCfg_after (s : State) (p : PosNo) (cfg : PositionCfg) :
    Does recordingOnly (s.positioned p cfg) (s.storePositionCfg p cfg) := by
  by_cases h : cfg.recordMode = (s.position p).cfg.recordMode
  · rw [storePositionCfg_same h]
    exact .refl
  · rw [storePositionCfg_changed h]
    exact does_reResolve_only _ _

end

/-! #### KEY_MAP and LAMP_STYLE -/

section
variable {s : State} {index : U16} {e : KeyEntry}

theorem judgeKeyMap_index (h : 1536 ≤ index.toNat) : s.judgeKeyMap index e = s.refuse .badIndex := by
  rw [State.judgeKeyMap, numOf_of_le h]

theorem judgeKeyMap_value (h : index.toNat < 1536) (hv : 9 < e.action.toNat ∨ 2 < e.colour.toNat) :
    s.judgeKeyMap index e = s.refuse .badValue := by
  unfold State.judgeKeyMap
  rw [numOf_of_lt h]
  obtain h | h := hv
  · rw [keyActionOf_eq_none.2 h]
  · rw [colourOf_eq_none.2 h]
    cases keyActionOf e.action e.target <;> rfl

theorem judgeKeyMap_target (h : index.toNat < 1536) (hc : e.colour.toNat ≤ 2)
    (ht : (e.action.toNat = 1 ∧ 512 ≤ e.target.toNat) ∨ (e.action.toNat = 6 ∧ 64 ≤ e.target.toNat) ∨
      (e.action.toNat = 7 ∧ 8 ≤ e.target.toNat)) : s.judgeKeyMap index e = s.refuse .badIndex := by
  obtain ⟨c, hc⟩ := Option.ne_none_iff_exists'.1 fun he => absurd (colourOf_eq_none.1 he) (Nat.not_lt.2 hc)
  unfold State.judgeKeyMap
  rw [numOf_of_lt h, keyActionOf_beyond ht, hc]

theorem judgeKeyMap_means {i : Fin 1536} {x : Key} (hi : index.toNat = i.val) (hc : e.colour.toNat = x.colour.code)
    (ha : keyActionOf e.action e.target = some (some x.action)) :
    s.judgeKeyMap index e = ({ s with psc := { s.psc with keyMap := s.psc.keyMap.set i x } } : State).accept false := by
  unfold State.judgeKeyMap
  rw [numOf_eq_val hi, ha, colourOf_code hc]

end

section
variable {s : State} {index : U16} {e : LampEntry}

theorem judgeLampStyle_index (h : 16 ≤ index.toNat) : s.judgeLampStyle index e = s.refuse .badIndex := by
  rw [State.judgeLampStyle, numOf_of_le h]

theorem judgeLampStyle_value (h : index.toNat < 16)
    (hv : 3 < e.colour.toNat ∨ (1 < e.pattern.toNat ∧ e.pattern.toNat < 16) ∨ 31 < e.pattern.toNat) :
    s.judgeLampStyle index e = s.refuse .badValue := by
  unfold State.judgeLampStyle
  rw [numOf_of_lt h]
  obtain h | h := hv
  · rw [styleColourOf_eq_none h]
  · rw [patternOf_eq_none h]
    cases styleColourOf e.colour <;> rfl

theorem styleColourOf_bytes {x : LampStyle} (h : [e.colour, e.pattern] = x.bytes) : styleColourOf e.colour = some x.colour := by
  obtain ⟨colour, pattern⟩ := x
  cases colour with
  | fixed c => cases c <;> cases pattern <;> simp [LampStyle.bytes, byte1, Colour.code] at h <;> rw [h.1] <;> rfl
  | key => cases pattern <;> simp [LampStyle.bytes, byte1] at h <;> rw [h.1] <;> rfl

theorem patternOf_bytes {x : LampStyle} (h : [e.colour, e.pattern] = x.bytes) : patternOf e.pattern = some x.pattern := by
  obtain ⟨colour, pattern⟩ := x
  have pat : [e.pattern] = (match pattern with
      | .off => byte1 0
      | .steady => byte1 1
      | .follow n => byte1 (16 + n.val)) := by
    cases colour <;> cases pattern <;> exact (List.cons.inj h).2
  cases pattern with
  | off => rw [List.cons.inj pat |>.1]; rfl
  | steady => rw [List.cons.inj pat |>.1]; rfl
  | follow n =>
    have num : e.pattern.toNat = 16 + n.val := by
      rw [List.cons.inj pat |>.1, BitVec.toNat_ofNat]
      omega
    have zero : e.pattern ≠ 0 := by intro hz; rw [hz] at num; exact absurd num (by simp; omega)
    have one : e.pattern ≠ 1 := by intro hz; rw [hz] at num; exact absurd num (by simp; omega)
    rw [patternOf, if_neg zero, if_neg one, if_pos (by omega), numOf_eq_val (i := n) (by omega)]
    rfl

theorem judgeLampStyle_means {n : Fin 16} {x : LampStyle} (hi : index.toNat = n.val) (h : [e.colour, e.pattern] = x.bytes) :
    s.judgeLampStyle index e = ({ s with psc := { s.psc with lampStyle := s.psc.lampStyle.set n x } } : State).accept false := by
  unfold State.judgeLampStyle
  rw [numOf_eq_val hi, styleColourOf_bytes h, patternOf_bytes h]

end

/-- Settles O45: each table's checks in their order, then what its entry stands for. -/
theorem writeConsoleTables : Obligations.WriteConsoleTables := by
  intro tag index s sv
  refine ⟨fun e => ?_, fun e => ?_, fun e => ?_⟩
  · have judged := exec_writePositionCfg sv tag index e
    intro i refused reserved
    refine ⟨fun h => ?_, fun h hr => ?_, fun h hr hb => ?_, fun p cfg hi hm ht ha hd hs hn hv => ?_⟩
    · exact judged.trans (by rw [judgePositionCfg_index h]; rfl)
    · exact judged.trans (by rw [judgePositionCfg_value h hr]; rfl)
    · exact judged.trans (by rw [judgePositionCfg_reference h hr hb]; rfl)
    rw [judgePositionCfg_means hi ⟨hm, ht, ha, hd, hs, hn, hv⟩] at judged
    intro answer
    have code : (if (levelClamps e.duck || e.volumes.toList.any levelClamps) = true then ResultCode.okClamped else .ok) = answer :=
      if_congr (by simp only [Bool.or_eq_true, List.any_eq_true, levelClamps_iff]) rfl rfl
    have taken : exec i s = .next ((s.storePositionCfg p cfg).respond 2 tag answer []) := by rw [← code]; exact judged
    have after := does_storePositionCfg_after s p cfg
    have positions (q : PosNo) : (s.storePositionCfg p cfg).position q = (s.positioned p cfg).position q := by
      rw [State.position, after.psc]
      rfl
    refine ⟨fun h => by rw [taken, storePositionCfg_same h]; rfl, _, taken, ?_, fun q hq => ?_, after.lif, after.lnc,
      (storePositionCfg_calm s p cfg).cxm, after.cdu, after.mix, after.gtu, fun h => storePositionCfg_settled h⟩
    · exact (positions p).trans (State.setPosition_position_self s p _)
    · exact (positions q).trans (State.setPosition_position_ne s _ (Ne.symm hq))
  · have judged := exec_writeKeyMap sv tag index e
    intro i refused
    refine ⟨fun h => ?_, fun h hv => ?_, fun h hc ht => ?_, fun p k x hi hc ha => ?_⟩
    · exact judged.trans (by rw [judgeKeyMap_index h]; rfl)
    · exact judged.trans (by rw [judgeKeyMap_value h hv]; rfl)
    · exact judged.trans (by rw [judgeKeyMap_target h hc ht]; rfl)
    · have action : keyActionOf e.action e.target = some (some x.action) := by
        cases hx : x.action <;> simp only [hx] at ha <;> simp [keyActionOf, ha, numOf_val]
      exact judged.trans (by rw [judgeKeyMap_means (i := keyIndex p k) hi hc action]; rfl)
  · have judged := exec_writeLampStyle sv tag index e
    intro i refused
    refine ⟨fun h => ?_, fun h hv => ?_, fun n x hi hx => ?_⟩
    · exact judged.trans (by rw [judgeLampStyle_index h]; rfl)
    · exact judged.trans (by rw [judgeLampStyle_value h hv]; rfl)
    · exact judged.trans (by rw [judgeLampStyle_means hi hx]; rfl)

end Sys2Proof.Machine

/-! ### Writes of a speaker assignment (R32, R33, R70) -/

namespace Sys2Proof.Machine

/-! #### The checks of R32 -/

section
variable {s : State} {index : U16} {e : AssignEntry}

theorem assignOf_eq_none {b : Byte} {target : U16} : assignOf b target = none ↔ 2 < b.toNat := by
  unfold assignOf
  split
  all_goals
    simp only [reduceCtorEq, false_iff, true_iff, imp_false] at *
    omega

/-- R32: a target beyond the range of its kind. -/
theorem assignOf_beyond {b : Byte} {target : U16} (h : (b = 1 ∧ 512 ≤ target.toNat) ∨ (b = 2 ∧ 64 ≤ target.toNat)) :
    assignOf b target = some none := by
  unfold assignOf
  obtain ⟨rfl, ht⟩ | ⟨rfl, ht⟩ := h
  · rw [numOf_of_le ht]
    rfl
  · rw [numOf_of_le (n := 64) ht]
    rfl

theorem judgeSpeakerAssign_index (h : 256 ≤ index.toNat) : s.judgeSpeakerAssign index e = s.refuse .badIndex := by
  rw [State.judgeSpeakerAssign, numOf_of_le h]

theorem judgeSpeakerAssign_value (h : index.toNat < 256) (hk : 2 < e.kind.toNat) :
    s.judgeSpeakerAssign index e = s.refuse .badValue := by
  rw [State.judgeSpeakerAssign, numOf_of_lt h, assignOf_eq_none.2 hk]

theorem judgeSpeakerAssign_target (h : index.toNat < 256)
    (ht : (e.kind = 1 ∧ 512 ≤ e.target.toNat) ∨ (e.kind = 2 ∧ 64 ≤ e.target.toNat)) :
    s.judgeSpeakerAssign index e = s.refuse .badIndex := by
  rw [State.judgeSpeakerAssign, numOf_of_lt h, assignOf_beyond ht]

theorem judgeSpeakerAssign_means {i : Fin 256} {a : Assign} (hi : index.toNat = i.val)
    (ha : assignOf e.kind e.target = some (some a)) : s.judgeSpeakerAssign index e =
      if s.assignFull i a = true then s.refuse .busy
      else if s.psc.assigns[i] = a then s.accept false
      else (s.changeAssign i a).accept false := by
  unfold State.judgeSpeakerAssign
  rw [numOf_eq_val hi, ha]

theorem assignFull_iff {i : Fin 256} {a : Assign} : s.assignFull i a = true ↔
    ∃ l : LineNo, a = .line l ∧ s.psc.assigns[i] ≠ a ∧ 16 ≤ (s.psc.assigns.toList.filter (fun x => x = a)).length := by
  cases a with
  | none => simp [State.assignFull]
  | group g => simp [State.assignFull]
  | line l =>
    simp only [State.assignFull, State.assignments, Bool.and_eq_true, decide_eq_true_eq, Assign.line.injEq, exists_eq_left']
    exact and_congr_right' decide_eq_true_iff

end

/-! #### A change of the assignment (R33) -/

section
variable {s : State} {p : PosNo} {c : SpkNo} {a : Assign}

/-- R70: one request makes the monitors that are called for at its places. -/
theorem makeMonitors_conns (s : State) (places : List (PosNo × SpkNo)) :
    (s.makeMonitors places).cxm.conns = s.cxm.conns ++ places.filterMap s.monitorRecord := by
  unfold State.makeMonitors
  dsimp only
  split
  · next h => rw [List.isEmpty_iff.1 h, List.append_nil]
  · exact (does_notify_parts _ _ _).conns

theorem monitorRecord_off (h : s.mga.phase ≠ .running ∨ s.online p = false) : s.monitorRecord (p, c) = none := by
  by_cases ha : ∃ l, s.assign p c = .line l
  · obtain ⟨l, ha⟩ := ha
    rw [monitorRecord_eq_some ha, if_neg]
    rintro ⟨run, on, -⟩
    exact h.elim (fun h => h run) fun h => Bool.false_ne_true (h.symm.trans on)
  · exact monitorRecord_eq_none fun l hl => ha ⟨l, hl⟩

/-- R33: the place without the monitor of its old line. -/
def State.vacated (s : State) (p : PosNo) (c : SpkNo) : State :=
  match s.assign p c with
  | .line _ => s.removeConns (fun x => decide (x.pos = p) && decide (x.place = Place.spk c)) .release
  | _ => s

/-- R33: the assignment stored. -/
def State.reassigned (s : State) (p : PosNo) (c : SpkNo) (a : Assign) : State :=
  { s with psc := { s.psc with assigns := s.psc.assigns.set (assignIndex p c) a } }

theorem vacated_eq (h : ∀ l, s.assign p c ≠ .line l) : s.vacated p c = s := by
  unfold State.vacated
  split
  · next l hl => exact absurd hl (h l)
  · rfl

theorem vacated_line {l : LineNo} (h : s.assign p c = .line l) :
    s.vacated p c = s.removeConns (fun x => decide (x.pos = p) && decide (x.place = Place.spk c)) .release := by
  unfold State.vacated
  rw [h]

theorem assignPos_assignIndex (p : PosNo) (c : SpkNo) : assignPos (assignIndex p c) = p := Fin.ext (by
  show (8 * p.val + c.val) / 8 = p.val
  omega)

theorem assignSpk_assignIndex (p : PosNo) (c : SpkNo) : assignSpk (assignIndex p c) = c := Fin.ext (by
  show (8 * p.val + c.val) % 8 = c.val
  omega)

theorem changeAssign_eq (s : State) (p : PosNo) (c : SpkNo) (a : Assign) :
    s.changeAssign (assignIndex p c) a = ((s.vacated p c).reassigned p c a).makeMonitors [(p, c)] := by
  have old : s.psc.assigns[assignIndex p c] = s.assign p c := rfl
  unfold State.changeAssign
  dsimp only
  rw [assignPos_assignIndex, assignSpk_assignIndex, old]
  cases h : s.assign p c with
  | none => rw [vacated_eq fun l hl => by rw [h] at hl; cases hl]; rfl
  | group g => rw [vacated_eq fun l hl => by rw [h] at hl; cases hl]; rfl
  | line l => rw [vacated_line h]; rfl

theorem reassigned_assign : (s.reassigned p c a).assign p c = a := by
  simp [State.reassigned, State.assign]

theorem reassigned_same (h : s.assign p c = a) : s.reassigned p c a = s := by
  subst h
  simp [State.reassigned, State.assign]

/-- The footprint of the change on what is not the assignment. -/
theorem does_vacated (s : State) (p : PosNo) (c : SpkNo) : Does (callsOn fun _ => True) s (s.vacated p c) := by
  unfold State.vacated
  split
  · exact does_removeAny (calls_callsOn _) s _ _
  · exact .refl

theorem does_monitor (s : State) (places : List (PosNo × SpkNo)) : Does (callsOn fun _ => True) s (s.makeMonitors places) :=
  does_makeAny (calls_callsOn _) s places

/-- R33: a change of the assignment of a place touches the lines that its monitors are on alone. -/
theorem vacated_other {l : LineNo} (law : s.connectionsLawful) (h : s.assign p c ≠ .line l) :
    (s.vacated p c).line l = s.line l := by
  by_cases ho : ∃ l', s.assign p c = .line l'
  · obtain ⟨l', ho⟩ := ho
    rw [vacated_line ho]
    refine (does_removeConns (calls_callsOn (· ≠ l)) s _ _ fun x hx hg => ?_).line l fun hn => hn rfl
    simp only [Bool.and_eq_true, decide_eq_true_eq] at hg
    obtain ⟨rfl, hp⟩ := hg
    exact fun he => h (he ▸ spkAssigned_of_lawful law x hx c hp)
  · rw [vacated_eq fun l' hl => ho ⟨l', hl⟩]

theorem vacated_conns (s : State) (p : PosNo) (c : SpkNo) : (s.vacated p c).cxm.conns = match s.assign p c with
    | .line _ => s.cxm.conns.filter (fun x => ¬ (x.pos = p ∧ x.place = .spk c))
    | _ => s.cxm.conns := by
  cases h : s.assign p c with
  | none => rw [vacated_eq fun l hl => by rw [h] at hl; cases hl]
  | group g => rw [vacated_eq fun l hl => by rw [h] at hl; cases hl]
  | line l =>
    rw [vacated_line h, removeConns_conns]
    refine List.filter_congr fun x _ => ?_
    rw [← Bool.decide_and, decide_not]

theorem changeAssign_conns (s : State) (p : PosNo) (c : SpkNo) (a : Assign) :
    (s.changeAssign (assignIndex p c) a).cxm.conns =
      (s.vacated p c).cxm.conns ++ (((s.vacated p c).reassigned p c a).monitorRecord (p, c)).toList := by
  rw [changeAssign_eq, makeMonitors_conns, List.filterMap_cons]
  cases ((s.vacated p c).reassigned p c a).monitorRecord (p, c) <;> rfl

theorem changeAssign_still (hold : ∀ l, s.assign p c ≠ .line l) (ha : ∀ l, a ≠ .line l) :
    s.changeAssign (assignIndex p c) a = s.reassigned p c a := by
  have none : (s.reassigned p c a).monitorRecord (p, c) = none :=
    monitorRecord_eq_none fun l hl => ha l (reassigned_assign.symm.trans hl)
  rw [changeAssign_eq, vacated_eq hold, State.makeMonitors, List.filterMap_cons, none]
  rfl

end

/-- Settles O46: the checks of R32, then the old monitor's removal, the storing and the new monitor. -/
theorem writeSpeakerAssignMovesTheMonitor : Obligations.WriteSpeakerAssignMovesTheMonitor := by
  intro tag index e s sv
  have judged := exec_writeSpeakerAssign sv tag index e
  intro i refused
  refine ⟨fun h => ?_, fun h hk => ?_, fun h ht => ?_, fun p c a hi ha => ?_⟩
  · exact judged.trans (by rw [judgeSpeakerAssign_index h]; rfl)
  · exact judged.trans (by rw [judgeSpeakerAssign_value h hk]; rfl)
  · exact judged.trans (by rw [judgeSpeakerAssign_target h ht]; rfl)
  have code : assignOf e.kind e.target = some (some a) := by
    cases a with
    | none => rw [ha]; rfl
    | line l => rw [ha.1, assignOf]; simp [numOf_eq_val ha.2]
    | group g => rw [ha.1, assignOf]; simp [numOf_eq_val ha.2]
  rw [judgeSpeakerAssign_means (i := assignIndex p c) hi code] at judged
  intro old stored full
  have isFull : s.assignFull (assignIndex p c) a = true ↔ full := assignFull_iff
  have taken (hf : ¬ full) (ho : old ≠ a) :
      exec i s = .next ((s.changeAssign (assignIndex p c) a).respond 2 tag .ok []) :=
    judged.trans (by rw [if_neg fun h => hf (isFull.1 h), if_neg (show ¬ s.psc.assigns[assignIndex p c] = a from ho)]; rfl)
  have repeated (ho : old = a) : exec i s = .next (s.respond 2 tag .ok []) := by
    have room : ¬ s.assignFull (assignIndex p c) a = true := fun h => by
      obtain ⟨l, -, hn, -⟩ := isFull.1 h
      exact hn ho
    exact judged.trans (by rw [if_neg room, if_pos (show s.psc.assigns[assignIndex p c] = a from ho)]; rfl)
  refine ⟨fun hf => ?_, repeated, fun hf hold hnew => ?_, fun hf ho => ?_⟩
  · exact judged.trans (by rw [if_pos (isFull.2 hf)]; rfl)
  · by_cases ho : old = a
    · rw [repeated ho, show stored = s from reassigned_same ho]
    · rw [taken hf ho, changeAssign_still hold hnew]
      rfl
  intro rest
  have vac := does_vacated s p c
  let v := (s.vacated p c).reassigned p c a
  have mon : Does (callsOn fun _ => True) v (s.changeAssign (assignIndex p c) a) := by
    rw [changeAssign_eq]
    exact does_monitor _ _
  have conns : (s.changeAssign (assignIndex p c) a).cxm.conns = rest ++ (v.monitorRecord (p, c)).toList :=
    (changeAssign_conns s p c a).trans (congrArg (· ++ _) (vacated_conns s p c))
  have none (h : v.monitorRecord (p, c) = none) : (s.changeAssign (assignIndex p c) a).cxm.conns = rest := by
    rw [conns, h]
    exact List.append_nil rest
  have phase : v.mga.phase = s.mga.phase := vac.phase
  have online : v.online p = s.online p := vac.online p
  have psc : v.psc = stored.psc := by
    show ({ (s.vacated p c).psc with assigns := (s.vacated p c).psc.assigns.set (assignIndex p c) a } : Psc) = _
    rw [vac.psc]
  refine ⟨_, taken hf ho, mon.psc.trans psc, ?_, mon.lif.trans vac.lif, mon.cdu.trans vac.cdu, mon.mix.trans vac.mix,
    mon.gtu.trans vac.gtu, fun h => ?_, fun l hl ph on law => ?_⟩
  · show (s.changeAssign (assignIndex p c) a).mga.responses ++ _ = _
    rw [mon.mga.same.responses, mon.mga.same.overrun,
      show v.mga.responses = s.mga.responses from vac.mga.same.responses,
      show v.mga.overrun = s.mga.overrun from vac.mga.same.overrun]
  · refine none ?_
    obtain h | h | h := h
    · exact monitorRecord_eq_none fun l hl => h l (reassigned_assign.symm.trans hl)
    · exact monitorRecord_off (.inl fun hr => by rw [phase, h] at hr; cases hr)
    · exact monitorRecord_off (.inr (online.trans h))
  · subst hl
    have line : v.line l = s.line l := vacated_other law ho
    have due := monitorRecord_eq_some (s := v) (p := p) (c := c) (l := l) reassigned_assign
    rw [phase, online, line] at due
    refine ⟨fun hs => none (due.trans (if_neg ?_)), fun hd hn free => ?_⟩
    · rintro ⟨-, -, hd, hn, -⟩
      exact hs.elim hd hn
    · have here : v.cxm.conns = rest := vacated_conns s p c
      refine conns.trans ?_
      rw [due, if_pos ⟨ph, on, hd, hn, by rw [here]; exact free⟩, show v.cdu.clock = s.cdu.clock from vac.clock]
      rfl

end Sys2Proof.Machine

/-! ### Line requests that take effect (R37, R38, R55, R60 to R64) -/

namespace Sys2Proof.Machine

/-! #### Reports of a line that a handset comes to (R9, R10, R13) -/

section
variable {s : State} {l : LineNo}

theorem totalsNow_unheld_pos {c : Conn} (hc : c ∈ s.cxm.conns) (hl : c.line = l) (hu : c.place.isUnheld = true) :
    0 < (s.totalsNow l).unheld :=
  List.length_pos_of_mem (List.mem_filter.2 ⟨mem_lineConns.2 ⟨hc, hl⟩, hu⟩)

theorem Totals.sum_pos_of_unheld {n : Totals} (h : 0 < n.unheld) : 0 < n.sum := by
  unfold Totals.sum
  omega

theorem Totals.allHeld_of_unheld {n : Totals} (h : 0 < n.unheld) : n.allHeld = false := by
  simp [Totals.allHeld, Nat.pos_iff_ne_zero.1 h]

/-- R13: the report of a line in use that has lost its last connection. -/
theorem report_last (run : s.running = true) (hw : (s.line l).cfg.kind.isWire = true) (ho : 0 < (s.line l).totals.sum)
    (hn : s.lineConns l = [])
    (hs : (s.line l).state = .callingOut ∨ (s.line l).state = .active ∨ (s.line l).state = .held) :
    ((s.report l).line l).state = if offHook (s.line l).far then .ringingIn else .idle := by
  rw [report_wire run hw]
  obtain ⟨cause, he⟩ := connectionEvent_last (s := s.setLine l { s.line l with totals := s.totalsNow l }) (l := l)
    (by simpa using hs) ho (totalsNow_sum_eq_zero.2 hn)
  rw [he, clearLine_line]
  simp [LineRec.enter]

variable (hu : 0 < (s.totalsNow l).unheld)
include hu

/-- R12, R13: the report of a line that had connections and has an unheld one leaves its state, but for HELD. -/
theorem report_kept (ho : 0 < (s.line l).totals.sum) (hs : (s.line l).state ≠ .held) :
    ((s.report l).line l).state = (s.line l).state := by
  have first : (s.line l).totals.sum ≠ 0 := Nat.pos_iff_ne_zero.1 ho
  have last : (s.totalsNow l).sum ≠ 0 := Nat.pos_iff_ne_zero.1 (Totals.sum_pos_of_unheld hu)
  have held := Totals.allHeld_of_unheld hu
  rw [report_eq]
  unfold State.connectionEvent
  cases h : (s.line l).state
  case held => exact absurd h hs
  all_goals split <;> simp [h, first, last, held]

variable (run : s.running = true) (hw : (s.line l).cfg.kind.isWire = true)
include run hw

/-- R13: the report of a HELD line that gets an unheld connection. -/
theorem report_retrieved (hs : (s.line l).state = .held) (ho : (s.line l).totals.allHeld = true) :
    ((s.report l).line l).state = .active := by
  have last : (s.totalsNow l).sum ≠ 0 := Nat.pos_iff_ne_zero.1 (Totals.sum_pos_of_unheld hu)
  rw [report_wire run hw]
  unfold State.connectionEvent
  simp only [State.setLine_line_self, hs, ho, last, hu, decide_false, decide_true, Bool.and_false, Bool.true_or,
    Bool.and_true, if_true, if_false, Bool.false_eq_true, moveLine_line]
  rfl

/-- R9: the report of the first connection, a handset's, of an IDLE line. -/
theorem report_seized (hs : (s.line l).state = .idle) (ho : (s.line l).totals.sum = 0) :
    (s.report l).line l = ({ s.line l with totals := s.totalsNow l } : LineRec).enter
      (if (s.line l).cfg.kind = .ard then .callingOut else .active) := by
  have first := Totals.sum_pos_of_unheld hu
  have some : (s.totalsNow l).unheld + (s.totalsNow l).held ≠ 0 := by omega
  rw [report_wire run hw]
  unfold State.connectionEvent
  simp only [State.setLine_line_self, hs, ho, first, some, decide_true, Bool.and_true, Bool.not_true, if_false,
    Bool.false_eq_true]
  split <;> rw [moveLine_line, State.setLine_line_self]

/-- R10: the report of the first connection of a line that the far end calls. -/
theorem report_answered (hs : (s.line l).state = .ringingIn ∨ (s.line l).state = .unanswered)
    (ho : (s.line l).totals.sum = 0) :
    (s.report l).line l = ({ s.line l with totals := s.totalsNow l } : LineRec).enter .active := by
  have first := Totals.sum_pos_of_unheld hu
  rw [report_wire run hw]
  unfold State.connectionEvent
  obtain hs | hs := hs <;>
    simp only [State.setLine_line_self, hs, ho, first, decide_true, Bool.and_true, if_true, moveLine_line]

end

/-! #### The notifications of a request (R55) -/

section
variable {s : State} {l : LineNo}

theorem notify_line_reports (s : State) (rs ns : List LineNo) (l : LineNo) :
    (s.notify rs ns).line l = (rs.foldl State.report s).line l :=
  (does_noticeLines_only _ ns).line l id

/-- The reports of two lines do not meet. -/
theorem notify_line_first (s : State) (ns : List LineNo) {x : LineNo} (h : x ≠ l) :
    (s.notify [l, x] ns).line l = (s.report l).line l := by
  rw [notify_line_reports]
  exact (does_report_only (s.report l) x).line l fun he => h he.symm

theorem notify_line_second (s : State) (ns : List LineNo) {x : LineNo} (h : x ≠ l) :
    (s.notify [l, x] ns).line x = (s.report x).line x := by
  have told := does_report_only s l
  rw [notify_line_reports]
  exact report_line_congr (told.line x h) (lineConns_congr _ _ told.conns) told.running

theorem clearDemands_demand (ns : List LineNo) (s : State) (l : LineNo) : (ns.foldl State.clearDemand s).demand l =
    if l ∈ ns ∧ s.lineConns l = [] then false else s.demand l := by
  induction ns generalizing s with
  | nil => simp
  | cons x ns ih =>
    have conns : (s.clearDemand x).lineConns l = s.lineConns l :=
      lineConns_congr _ _ (congrArg Cxm.conns (calm_clearDemand s x).cxm)
    have one : (s.clearDemand x).demand l = if l = x ∧ s.lineConns l = [] then false else s.demand l := by
      unfold State.clearDemand
      by_cases e : l = x
      · subst e
        by_cases hn : s.lineConns l = [] <;> simp [hn]
      · split
        · simp [e, State.setDemand_demand_ne _ _ (Ne.symm e)]
        · simp [e]
    rw [List.foldl_cons, ih, conns, one]
    by_cases e : l = x
    · subst e
      by_cases hn : s.lineConns l = [] <;> simp [hn]
    · simp [e]

/-- R137: the demand flags after the notices of a request. -/
theorem notify_demand_of (s : State) (rs ns : List LineNo) (l : LineNo) : (s.notify rs ns).demand l =
    if l ∈ ns ∧ s.lineConns l = [] then false else s.demand l := by
  have told : Does noticeParts s (rs.foldl State.report s) := Does.foldl _ _ (fun s x _ => does_report s x trivial) s
  have kept : (rs.foldl State.report s).demand l = s.demand l :=
    (Does.foldl (K := fun k => ∃ x, k = .line x) _ rs (fun s x _ => does_report s x ⟨x, rfl⟩) s).demand l (by simp)
  unfold State.notify State.noticeLines
  rw [(does_reResolve_only _ _).demand l, clearDemands_demand, lineConns_congr _ _ told.conns, kept]

theorem notify_lineConns_of (s : State) (rs ns : List LineNo) (l : LineNo) : (s.notify rs ns).lineConns l = s.lineConns l :=
  lineConns_congr _ _ (does_notify_parts s rs ns).conns

theorem bridge_congr {t : State} (h : t.lineConns l = s.lineConns l) : t.bridge l = s.bridge l := by
  unfold State.bridge
  rw [h]

end

/-! #### What the handset carried (R38) -/

section
variable {u : State} {p : PosNo} {d : Conn}

/-- R38: the table after a displacement of `d`. -/
def displacedTable (keep : Bool) (table : List Conn) (d : Conn) : List Conn :=
  if keep then table.map (fun x => if x = d then { d with place := .hold } else x) else table.filter (fun x => x ≠ d)

theorem displace_conns : (u.displace p d).cxm.conns = displacedTable (u.displacedHeld p) u.cxm.conns d := by
  unfold State.displace displacedTable
  split
  · simp [State.connEvent, State.changeConn]
  · rw [dropConns_conns]
    simp

theorem does_displace_line : Does (callsOn (· = d.line)) u (u.displace p d) := by
  unfold State.displace
  exact Does.ite _ ((does_setConns trivial u _).trans (does_raiseRunning _ _))
    (does_dropConns trivial u _ _ fun c _ hg => congrArg Conn.line (of_decide_eq_true hg))

variable (hd : d ∈ u.cxm.conns)
include hd

theorem displace_held (keep : u.displacedHeld p = true) : { d with place := .hold } ∈ (u.displace p d).cxm.conns := by
  rw [displace_conns, displacedTable, if_pos keep]
  exact List.mem_map.2 ⟨d, hd, if_pos rfl⟩

theorem displace_privacy_left (hu : d.place.isHandset = true) (h : (u.displace p d).bridge d.line = []) :
    (u.displace p d).cxm.privacy[d.line] = false := by
  cases keep : u.displacedHeld p
  · rw [State.displace, if_neg (by simp [keep])] at h ⊢
    exact dropConns_privacy_left _ h ⟨d, hd, by simp, hu, rfl⟩
  · exact absurd h (List.ne_nil_of_mem ((mem_bridge _ _).2 ⟨displace_held hd keep, rfl, rfl⟩))

omit hd in
theorem displace_privacy_kept (h : (u.displace p d).bridge d.line ≠ []) :
    (u.displace p d).cxm.privacy[d.line] = u.cxm.privacy[d.line] := by
  cases keep : u.displacedHeld p
  · rw [State.displace, if_neg (by simp [keep])] at h ⊢
    exact dropConns_privacy_kept _ h
  · rw [State.displace, if_pos keep]
    simp [State.connEvent, State.changeConn]

theorem displace_released (h : (u.displace p d).lineConns d.line = []) : u.displacedHeld p = false := by
  cases keep : u.displacedHeld p
  · rfl
  · exact absurd h (List.ne_nil_of_mem (mem_lineConns.2 ⟨displace_held hd keep, rfl⟩))

end

/-! #### The end of a line request -/

/-- What the end of a line request on `l` makes of the state `u` that the request itself left. -/
structure Finished (u : State) (p : PosNo) (l : LineNo) (carried : Option Conn) (t : State) : Prop where
  does : Does (callsOn fun x => x = l ∨ ∃ d, carried = some d ∧ x = d.line) u t
  line : t.line l = (u.report l).line l
  reported : t.reported l
  privacy : t.cxm.privacy[l] = u.cxm.privacy[l]
  conns : t.cxm.conns = carried.elim u.cxm.conns (displacedTable (u.displacedHeld p) u.cxm.conns)

/-- What it makes of the line of the displaced record `d`. -/
structure Displaced (u : State) (d : Conn) (t : State) : Prop where
  left : t.bridge d.line = [] → t.cxm.privacy[d.line] = false
  kept : t.bridge d.line ≠ [] → t.cxm.privacy[d.line] = u.cxm.privacy[d.line]
  cleared : t.lineConns d.line = [] → t.demand d.line = false
  demand : t.lineConns d.line ≠ [] → t.demand d.line = u.demand d.line
  last : (u.line d.line).cfg.kind.isWire = true → t.lineConns d.line = [] →
    (u.line d.line).state = .callingOut ∨ (u.line d.line).state = .active ∨ (u.line d.line).state = .held →
    (t.line d.line).state = if offHook (u.line d.line).far then .ringingIn else .idle
  active : (u.line d.line).cfg.kind.isWire = true → t.lineConns d.line ≠ [] → (u.line d.line).state = .active →
    (t.line d.line).state = if (t.totalsNow d.line).allHeld then .held else .active
  calling : t.lineConns d.line ≠ [] → (u.line d.line).state = .callingOut → (t.line d.line).state = .callingOut

section
variable {u : State} {p : PosNo} {l : LineNo} {carried : Option Conn} {changed : Bool} {d : Conn}

/-- The notices of a line request that displaces. -/
def displaceNotices (u : State) (p : PosNo) (l : LineNo) (d : Conn) (changed : Bool) : List LineNo :=
  ((if changed then [l] else []) ++ (if !u.displacedHeld p then [d.line] else [])).foldl (fun acc x => insertLine x acc) []

theorem finishRequest_some : u.finishRequest p l (some d) changed =
    (u.displace p d).notify [l, d.line] (displaceNotices u p l d changed) := rfl

theorem mem_displaceNotices {x : LineNo} (h : x ∈ displaceNotices u p l d changed) : x = l ∨ x = d.line := by
  rw [displaceNotices, mem_foldl_insertLine] at h
  cases changed <;> cases hk : u.displacedHeld p <;> simp_all

theorem displaceNotices_released (h : u.displacedHeld p = false) : d.line ∈ displaceNotices u p l d changed := by
  rw [displaceNotices, mem_foldl_insertLine]
  simp [h]

theorem finishRequest_finished (hd : ∀ d, carried = some d → d.line ≠ l) :
    Finished u p l carried (u.finishRequest p l carried changed) := by
  cases carried with
  | none =>
    have cxm : (u.finishRequest p l none changed).cxm = u.cxm := (calm_notify u _ _).cxm
    refine ⟨?_, notify_line_reports u [l] _ l, notify_reported u [l] _ l (by simp), by rw [cxm],
      congrArg Cxm.conns cxm⟩
    refine does_notify trivial u _ _ (fun x hx => .inl (List.mem_singleton.1 hx)) fun x hx => .inl ?_
    cases changed
    · cases hx
    · exact List.mem_singleton.1 hx
  | some d =>
    have other : d.line ≠ l := hd d rfl
    have shift : Does (callsOn (· = d.line)) u (u.displace p d) := does_displace_line
    rw [finishRequest_some]
    refine ⟨?_, ?_, notify_reported _ [l, d.line] _ l (by simp), ?_, ?_⟩
    · refine (shift.mono fun k hk => ?_).trans (does_notify trivial _ _ _ (fun x hx => ?_) fun x hx => ?_)
      · cases k <;> first | exact .inr ⟨d, rfl, hk⟩ | exact hk
      · simp only [List.mem_cons, List.not_mem_nil, or_false] at hx
        exact hx.imp_right fun hx => ⟨d, rfl, hx⟩
      · exact (mem_displaceNotices hx).imp_right fun hx => ⟨d, rfl, hx⟩
    · rw [notify_line_first _ _ other]
      exact report_line_congr (shift.line l fun he => other he.symm) (displace_lineConns_ne u p d l other) shift.running
    · rw [(calm_notify _ _ _).cxm]
      exact shift.privacy l fun he => other he.symm
    · rw [(calm_notify _ _ _).cxm]
      exact displace_conns

theorem finishRequest_displaced (run : u.running = true) (hd : d ∈ u.cxm.conns) (hu : d.place.isUnheld = true)
    (hl : d.line ≠ l) (rep : u.reported d.line) : Displaced u d (u.finishRequest p l (some d) changed) := by
  let v := u.displace p d
  let ns := displaceNotices u p l d changed
  have conns : (v.notify [l, d.line] ns).lineConns d.line = v.lineConns d.line := notify_lineConns_of v _ _ _
  have cxm : (v.notify [l, d.line] ns).cxm = v.cxm := (calm_notify v _ _).cxm
  have shift : Does tableOnly u v := does_displace_table u p d
  have line : v.line d.line = u.line d.line := shift.line d.line id
  have told : (v.notify [l, d.line] ns).line d.line = (v.report d.line).line d.line := notify_line_second v ns hl
  have demand := notify_demand_of v [l, d.line] ns d.line
  have old : (v.line d.line).totals = u.totalsNow d.line := by rw [line]; exact rep
  have was : 0 < (u.totalsNow d.line).unheld := totalsNow_unheld_pos hd rfl hu
  have run : v.running = true := shift.running.trans run
  have bridge : (v.notify [l, d.line] ns).bridge d.line = v.bridge d.line := bridge_congr conns
  rw [finishRequest_some]
  constructor
  · rw [bridge, cxm]
    exact displace_privacy_left hd (isHandset_iff.2 (.inl hu))
  · rw [bridge, cxm]
    exact displace_privacy_kept
  · rw [conns, demand]
    exact fun hn => if_pos ⟨displaceNotices_released (displace_released hd hn), hn⟩
  · rw [conns, demand]
    exact fun hn => (if_neg fun h => hn h.2).trans (shift.demand d.line)
  · rw [conns, told]
    intro hw hn hs
    rw [report_last run (by rwa [line]) (by rw [old]; exact Totals.sum_pos_of_unheld was) hn (by rwa [line]), line]
  · rw [conns, told, totalsNow_congr v _ conns]
    intro hw hn hs
    exact report_active run (by rwa [line]) (by rwa [line]) (by rw [old]; exact Totals.allHeld_of_unheld was) hn
  · rw [conns, told]
    intro hn hs
    exact report_calling (by rwa [line]) hn

end

end Sys2Proof.Machine

/-! ### Line requests for a line that has handsets (O33) -/

namespace Sys2Proof.Machine

/-! #### The laws of the table (R51) -/

section
variable {s : State} {c d : Conn}

/-- R51: at HL, at HR and at a speaker place a position has one record. -/
theorem conn_eq_of_place (law : s.connectionsLawful) (hc : c ∈ s.cxm.conns) (hd : d ∈ s.cxm.conns) (hp : c.pos = d.pos)
    (hx : c.place = d.place) (hold : c.place ≠ .hold) : c = d := by
  obtain ⟨places, -⟩ := law
  have : Std.Symm fun c d : Conn => c.pos = d.pos → c.place = d.place → c.place = .hold :=
    ⟨fun a b h hp hx => hx.trans (h hp.symm hx.symm)⟩
  by_contra hne
  exact hold (places.forall hc hd hne hp hx)

theorem conns_nodup (law : s.connectionsLawful) : s.cxm.conns.Nodup := by
  obtain ⟨places, handsets, -⟩ := law
  refine (places.and handsets).imp fun {c d} ⟨place, handset⟩ he => ?_
  subst he
  have hold := place rfl rfl
  exact Bool.false_ne_true ((handset rfl rfl (by rw [hold]; rfl)).symm.trans (by rw [hold]; rfl))

/-- R37: a position whose handset carries another line has no record of line `l` there. -/
theorem connOn_none_of_carries {p : PosNo} {x : Place} {l : LineNo} (law : s.connectionsLawful) (hx : x ≠ .hold)
    (hd : s.connAt p x = some d) (hl : d.line ≠ l) : s.connOn p l x = none := by
  obtain ⟨hd, hp, hplace⟩ := connAt_spec hd
  refine connOn_eq_none fun c hc hcp hcl hcx => ?_
  have same : c = d := conn_eq_of_place law hc hd (hcp.trans hp.symm) (hcx.trans hplace.symm) (by rw [hcx]; exact hx)
  exact hl (same ▸ hcl)

theorem connOn_none_of_free {p : PosNo} {x : Place} (l : LineNo) (h : s.connAt p x = none) : s.connOn p l x = none := by
  have free := List.find?_eq_none.1 h
  refine connOn_eq_none fun c hc hp _ hx => free c hc ?_
  simp [hp, hx]

theorem handsetPlace_ne_hold (a : Handset) : handsetPlace a ≠ .hold := by cases a <;> simp [handsetPlace]

end

/-! #### Hold slots (R28) -/

section
variable {s : State} {p : PosNo} {c c' : Conn}

/-- R28: whether a record takes a hold slot of `p`. -/
def Conn.holdsFor (p : PosNo) (c : Conn) : Bool := decide (c.pos = p) && c.place.isHold

theorem holdSlots_eq (s : State) (p : PosNo) : s.holdSlots p = s.cxm.conns.countP (Conn.holdsFor p) :=
  List.countP_eq_length_filter.symm

theorem holdsFor_of_place {x : Place} (hc : c.place = x) (hx : x.isHold = false) : c.holdsFor p = false := by
  rw [Conn.holdsFor, hc, hx, Bool.and_false]

theorem handsetPlace_isHold (a : Handset) : (handsetPlace a).isHold = false := by cases a <;> rfl

/-- A record that changes its place in the table, between two places that are counted alike. -/
theorem map_countP (f : Conn → Bool) (table : List Conn) (h : f c' = f c) :
    (table.map (fun x => if x = c then c' else x)).countP f = table.countP f := by
  rw [List.countP_map]
  refine List.countP_congr fun x _ => ?_
  by_cases hx : x = c <;> simp [hx, h]

/-- A record that is no longer counted after its change of place. -/
theorem map_countP_left (f : Conn → Bool) {table : List Conn} (dup : table.Nodup) (hc : c ∈ table) (was : f c = true)
    (h : f c' = false) : (table.map (fun x => if x = c then c' else x)).countP f = table.countP f - 1 := by
  have stays : table.countP (f ∘ fun x => if x = c then c' else x) = table.countP (fun x => f x && x != c) := by
    refine List.countP_congr fun x _ => ?_
    by_cases hx : x = c <;> simp [hx, h]
  rw [List.countP_map, stays, ← List.countP_filter, ← dup.erase_eq_filter, List.countP_erase, if_pos ⟨hc, was⟩]

theorem displacedTable_eq (u : State) (p : PosNo) (table : List Conn) (d : Conn) :
    displacedTable (u.displacedHeld p) table d = if (u.position p).cfg.autoHold = true ∧ u.holdSlots p < 8
      then table.map (fun x => if x = d then { d with place := .hold } else x) else table.filter (fun x => x ≠ d) := by
  simp only [displacedTable, State.displacedHeld, Bool.and_eq_true, decide_eq_true_eq, Config.holdRoom]

end

/-! #### What a request itself makes of the state (R62 to R64) -/

/-- The footprint of a request on `l` before its displacement. -/
def requestOn (l : LineNo) : Touch → Prop
  | .conns => True
  | .recording => True
  | .privacy x => x = l
  | _ => False

/-- The state `u` of an admitted line request on `l`, when what the handset carried is still to be displaced. -/
structure Taken (s : State) (l : LineNo) (u : State) : Prop where
  does : Does (requestOn l) s u
  elsewhere : ∀ x, x ≠ l → u.lineConns x = s.lineConns x
  unheld : 0 < (u.totalsNow l).unheld

section
variable {s u : State} {l x : LineNo}

theorem Taken.line (h : Taken s l u) (x : LineNo) : u.line x = s.line x := h.does.line x id

theorem Taken.reported (h : Taken s l u) (hx : x ≠ l) (rep : s.reported x) : u.reported x := by
  rw [State.reported, h.line x, totalsNow_congr s x (h.elsewhere x hx)]
  exact rep

theorem Taken.mem (h : Taken s l u) {d : Conn} (hd : d ∈ s.cxm.conns) (hl : d.line ≠ l) : d ∈ u.cxm.conns := by
  have here : d ∈ s.lineConns d.line := mem_lineConns.2 ⟨hd, rfl⟩
  rw [← h.elsewhere _ hl] at here
  exact (mem_lineConns.1 here).1

end

section
variable {s : State} {p : PosNo} {a : Handset} {c : Conn}

/-- R63: the record `c` brought to handset `a` in its place. -/
def State.brought (s : State) (a : Handset) (c : Conn) (kind : ConnectKind) (cause : ConnectCause) : State :=
  (s.changeConn c { c with place := handsetPlace a }).connEvent kind { c with place := handsetPlace a } cause

variable (kind : ConnectKind) (cause : ConnectCause)

theorem bringConn_eq : s.bringConn p a c kind cause =
    (s.brought a c kind cause).finishRequest p c.line (s.connAt p (handsetPlace a)) false := rfl

theorem does_brought : Does tableOnly s (s.brought a c kind cause) :=
  (does_changeConn s c _).trans (does_raiseRunning _ _)

theorem brought_conns : (s.brought a c kind cause).cxm.conns =
    s.cxm.conns.map (fun x => if x = c then { c with place := handsetPlace a } else x) := by
  simp [State.brought, State.connEvent, State.changeConn]

theorem brought_privacy : (s.brought a c kind cause).cxm.privacy = s.cxm.privacy := by
  simp [State.brought, State.connEvent, State.changeConn]

theorem brought_taken (hc : c ∈ s.cxm.conns) : Taken s c.line (s.brought a c kind cause) := by
  have conns : (s.brought a c kind cause).cxm.conns = (s.changeConn c { c with place := handsetPlace a }).cxm.conns :=
    brought_conns kind cause
  refine ⟨(does_setConns trivial s _).trans (does_raiseRunning _ _), fun x hx => ?_, ?_⟩
  · rw [lineConns_congr _ _ conns]
    exact changeConn_lineConns_ne s x rfl (Ne.symm hx)
  · refine totalsNow_unheld_pos (c := { c with place := handsetPlace a }) ?_ rfl (handsetPlace_isUnheld a)
    rw [conns]
    exact changeConn_mem hc

/-- R63: a move between handsets leaves the totals of the line. -/
theorem brought_reported (hu : c.place.isUnheld = true) (rep : s.reported c.line) :
    (s.brought a c kind cause).reported c.line := by
  have kept (f : Place → Bool) (hf : f (handsetPlace a) = f c.place) :
      (((s.brought a c kind cause).lineConns c.line).filter (fun x => f x.place)).length =
        ((s.lineConns c.line).filter (fun x => f x.place)).length := by
    simp only [State.lineConns, List.filter_filter, ← List.countP_eq_length_filter, brought_conns]
    exact map_countP _ _ (by simp [hf])
  have totals : (s.brought a c kind cause).totalsNow c.line = s.totalsNow c.line := by
    have hold : c.place.isHold = false := by cases h : c.place <;> simp_all [Place.isUnheld, Place.isHold]
    simp only [State.totalsNow, State.monitors]
    rw [kept Place.isUnheld (by rw [hu, handsetPlace_isUnheld]), kept Place.isHold (by rw [hold, handsetPlace_isHold]),
      kept (fun x => !x.isHandset) (by rw [handsetPlace_isHandset, isHandset_iff.2 (.inl hu)])]
  rw [State.reported, totals, (does_brought kind cause).line c.line id]
  exact rep

theorem brought_holdSlots_move (hc : c.place.isHold = false) : (s.brought a c kind cause).holdSlots p = s.holdSlots p := by
  rw [holdSlots_eq, holdSlots_eq, brought_conns]
  refine map_countP _ _ ?_
  rw [holdsFor_of_place rfl hc, holdsFor_of_place rfl (handsetPlace_isHold a)]

theorem brought_holdSlots_retrieve (law : s.connectionsLawful) (mem : c ∈ s.cxm.conns) (hp : c.pos = p)
    (hc : c.place = .hold) : (s.brought a c kind cause).holdSlots p = s.holdSlots p - 1 := by
  rw [holdSlots_eq, holdSlots_eq, brought_conns]
  refine map_countP_left _ (conns_nodup law) mem ?_ (holdsFor_of_place rfl (handsetPlace_isHold a))
  simp [Conn.holdsFor, hp, hc, Place.isHold]

end

section
variable {s t : State} {p : PosNo} {a : Handset} {l : LineNo} {held : Conn}

/-- R64: the held record `held` taken by handset `a`. -/
def State.pickedUp (s : State) (p : PosNo) (a : Handset) (l : LineNo) (held : Conn) : State :=
  (({ s with cxm := { s.cxm with conns := s.cxm.conns.erase held ++ [s.newConn p a l] } }).connEvent
    .removed held .pickup).connEvent .added (s.newConn p a l) .pickup

theorem pickup_eq : s.pickup p a l held =
    (s.pickedUp p a l held).finishRequest p l (s.connAt p (handsetPlace a)) true := rfl

theorem does_pickedUp : Does (requestOn l) s (s.pickedUp p a l held) :=
  ((does_setConns trivial s _).trans (does_raiseRunning _ _)).trans (does_raiseRunning _ _)

theorem pickedUp_conns : (s.pickedUp p a l held).cxm.conns = s.cxm.conns.erase held ++ [s.newConn p a l] := by
  simp [State.pickedUp, State.connEvent]

theorem pickedUp_privacy : (s.pickedUp p a l held).cxm.privacy = s.cxm.privacy := by
  simp [State.pickedUp, State.connEvent]

theorem pickedUp_taken (hl : held.line = l) : Taken s l (s.pickedUp p a l held) := by
  refine ⟨does_pickedUp, fun x hx => ?_, ?_⟩
  · have other : held ∉ s.cxm.conns.filter (fun c => c.line = x) := fun h =>
      hx ((mem_lineConns.1 h).2.symm.trans hl)
    have new : ¬ (s.newConn p a l).line = x := Ne.symm hx
    simp only [State.lineConns, pickedUp_conns, List.filter_append, ← List.erase_filter, List.erase_of_not_mem other]
    simp [new]
  · refine totalsNow_unheld_pos (c := s.newConn p a l) ?_ rfl (handsetPlace_isUnheld a)
    rw [pickedUp_conns]
    exact List.mem_append_right _ (List.mem_singleton_self _)

theorem pickedUp_holdSlots (h : held.pos ≠ p) : (s.pickedUp p a l held).holdSlots p = s.holdSlots p := by
  have other : held.holdsFor p = false := by simp [Conn.holdsFor, h]
  have new : (s.newConn p a l).holdsFor p = false := holdsFor_of_place rfl (handsetPlace_isHold a)
  rw [holdSlots_eq, holdSlots_eq, pickedUp_conns, List.countP_append, List.countP_erase, List.countP_singleton]
  simp [other, new]

/-- The state that admission answers: the recording check alone has touched it. -/
structure Admitted (s t : State) : Prop where
  does : Does recordingOnly s t
  cxm : t.cxm = s.cxm

theorem admission_admitted {gone : Option Conn} (h : s.admission p l gone = .ok t) : Admitted s t :=
  ⟨does_admission trivial p l gone h, (calm_admission p l gone h).cxm⟩

theorem Admitted.onRequest (h : Admitted s t) (l : LineNo) : Does (requestOn l) s t :=
  h.does.mono fun k hk => by cases k <;> first | exact hk | exact hk.elim

theorem Admitted.connAt (h : Admitted s t) (x : Place) : t.connAt p x = s.connAt p x := by
  simp only [State.connAt, h.cxm]

theorem Admitted.newConn (h : Admitted s t) : t.newConn p a l = s.newConn p a l := by
  simp only [State.newConn, h.does.now]

theorem Admitted.holdSlots (h : Admitted s t) : t.holdSlots p = s.holdSlots p := by
  simp only [State.holdSlots, h.cxm]

theorem Taken.admitted {u : State} (h : Admitted s t) (k : Taken t l u) : Taken s l u :=
  ⟨(h.onRequest l).trans k.does, fun x hx => (k.elsewhere x hx).trans (lineConns_congr _ _ (by rw [h.cxm])), k.unheld⟩

end

/-! #### The cases of a line request (R37) -/

section
variable {s : State} {p : PosNo} {a : Handset} {l : LineNo} {k : KeyNo} {c : Conn}

section
variable (on : s.online p = true)
include on

theorem lineRequest_ignored (h : (s.connOn p l (handsetPlace a)).isSome = true) : s.lineRequest p a l k = s := by
  unfold State.lineRequest State.classify
  rw [on, if_pos h]
  rfl

theorem lineRequest_move (hn : s.connOn p l (handsetPlace a) = none)
    (hc : s.connOn p l (handsetPlace (otherHandset a)) = some c) :
    s.lineRequest p a l k = s.bringConn p a c .moved .move := by
  unfold State.lineRequest State.classify
  rw [on, hn, hc]
  rfl

theorem lineRequest_retrieve (hn : s.connOn p l (handsetPlace a) = none)
    (ho : s.connOn p l (handsetPlace (otherHandset a)) = none) (hc : s.connOn p l .hold = some c) :
    s.lineRequest p a l k = s.bringConn p a c .retrieved .retrieve := by
  unfold State.lineRequest State.classify
  rw [on, hn, ho, hc]
  rfl

end

/-- R37: the record that a pickup of line `l` by `p` takes. -/
structure Pickable (s : State) (p : PosNo) (l : LineNo) (c : Conn) : Prop where
  strange : s.strange p l
  free : ∀ x ∈ s.cxm.conns, x.line = l → x.place.isUnheld = false
  head : (s.bridge l).head? = some c

theorem Pickable.mem (h : Pickable s p l c) : c ∈ s.cxm.conns ∧ c.line = l ∧ c.place.isHandset = true :=
  (mem_bridge s l).1 (List.mem_of_head? h.head)

theorem Pickable.pos (h : Pickable s p l c) : c.pos ≠ p := fun hp => by
  obtain ⟨hc, hl, hh⟩ := h.mem
  exact Bool.false_ne_true ((h.strange c hc hp hl).symm.trans hh)

theorem Pickable.isHold (h : Pickable s p l c) : c.place.isHold = true := by
  obtain ⟨hc, hl, hh⟩ := h.mem
  have held := h.free c hc hl
  exact isHold_iff.2 ((isHandset_iff.1 hh).resolve_left (by rw [held]; exact Bool.false_ne_true))

theorem Pickable.pickable (h : Pickable s p l c) : s.pickable p l = some c := by
  have none : (s.bridge l).any (fun c => c.place.isUnheld) = false := by
    refine List.any_eq_false.2 fun x hx => ?_
    obtain ⟨hx, hl, -⟩ := (mem_bridge s l).1 hx
    rw [h.free x hx hl]
    exact Bool.false_ne_true
  obtain ⟨rest, hb⟩ := List.head?_eq_some_iff.1 h.head
  unfold State.pickable
  rw [none, if_neg Bool.false_ne_true, hb]
  exact List.find?_cons_of_pos (by simp [h.isHold, h.pos])

theorem lineRequest_pickup (on : s.online p = true) (h : Pickable s p l c) {t : State}
    (ha : s.admission p l (some c) = .ok t) : s.lineRequest p a l k = t.pickup p a l c := by
  unfold State.lineRequest
  rw [on, classify_strange h.strange, h.pickable]
  simp only [ha, Bool.not_true, Bool.false_eq_true, if_false]

theorem lineRequest_pickup_denied (on : s.online p = true) (h : Pickable s p l c) {r : DenyReason}
    (ha : s.admission p l (some c) = .error r) : s.lineRequest p a l k = s.deny p k r (.line l) := by
  unfold State.lineRequest
  rw [on, classify_strange h.strange, h.pickable]
  simp only [ha, Bool.not_true, Bool.false_eq_true, if_false]

theorem privateFrom_of_open (h : s.cxm.privacy[l] = false) : s.privateFrom l p = false :=
  privateFrom_eq_false fun q hq => by
    obtain ⟨-, flag⟩ := (share_exclusive_iff s l).1 ⟨q, hq⟩
    exact absurd (h.symm.trans flag) Bool.false_ne_true

theorem sum_pos_of_mem (rep : s.reported l) (hc : c ∈ s.cxm.conns) (hl : c.line = l) : 0 < (s.line l).totals.sum := by
  rw [show (s.line l).totals = s.totalsNow l from rep]
  exact totalsNow_sum_pos.2 (List.ne_nil_of_mem (mem_lineConns.2 ⟨hc, hl⟩))

end

/-! #### The line of a request -/

section
variable {s u t : State} {p : PosNo} {l : LineNo} {carried : Option Conn}

/-- R13: a HELD line gets a handset. -/
theorem Finished.active (h : Finished u p l carried t) (taken : Taken s l u) (run : s.running = true)
    (hw : (s.line l).cfg.kind.isWire = true) (hs : (s.line l).state = .held) (ho : (s.line l).totals.allHeld = true) :
    (t.line l).state = .active := by
  rw [h.line]
  exact report_retrieved taken.unheld (taken.does.running.trans run) (by rwa [taken.line]) (by rwa [taken.line])
    (by rwa [taken.line])

theorem Finished.stays (h : Finished u p l carried t) (taken : Taken s l u) (ho : 0 < (s.line l).totals.sum)
    (hs : (s.line l).state ≠ .held) : (t.line l).state = (s.line l).state := by
  rw [h.line, report_kept taken.unheld (by rwa [taken.line]) (by rwa [taken.line]), taken.line]

/-- The footprint of a request on `l` to its end. -/
theorem Finished.whole (h : Finished u p l carried t) (taken : Taken s l u) :
    Does (callsOn fun x => x = l ∨ ∃ d, carried = some d ∧ x = d.line) s t := by
  refine (taken.does.mono fun k hk => ?_).trans h.does
  cases k <;> first | exact hk | exact .inl hk | exact hk.elim

end

end Sys2Proof.Machine

namespace Sys2Proof.Machine

section
variable {s : State} {p : PosNo} {a : Handset} {l : LineNo} {k : KeyNo} {c : Conn}

/-- R63: a move is one change of the table and the end of the request. -/
theorem lineRequest_moved (on : s.online p = true) (hn : s.connOn p l (handsetPlace a) = none)
    (hc : s.connOn p l (handsetPlace (otherHandset a)) = some c) : s.lineRequest p a l k =
      (s.brought a c .moved .move).finishRequest p l (s.connAt p (handsetPlace a)) false := by
  obtain ⟨-, -, line, -⟩ := connOn_spec hc
  rw [lineRequest_move on hn hc, bringConn_eq, line]

theorem lineRequest_retrieved (on : s.online p = true) (hn : s.connOn p l (handsetPlace a) = none)
    (ho : s.connOn p l (handsetPlace (otherHandset a)) = none) (hc : s.connOn p l .hold = some c) : s.lineRequest p a l k =
      (s.brought a c .retrieved .retrieve).finishRequest p l (s.connAt p (handsetPlace a)) false := by
  obtain ⟨-, -, line, -⟩ := connOn_spec hc
  rw [lineRequest_retrieve on hn ho hc, bringConn_eq, line]

/-- R60, R61, R64: a pickup that admission lets pass. -/
theorem lineRequest_pickedUp (on : s.online p = true) (pick : Pickable s p l c)
    (hw : (s.line l).cfg.kind.isWire = true) (hf : (s.line l).state ≠ .fault) (hp : s.cxm.privacy[l] = false)
    (hr : s.linePolicyWith l p (some c) ≠ .mandatory ∨ (s.boundChan (.line l)).isSome = true ∨ s.allocatable.isSome = true) :
    ∃ u : State, Taken s l u ∧ u.cxm.conns = s.cxm.conns.erase c ++ [s.newConn p a l] ∧ u.cxm.privacy = s.cxm.privacy ∧
      u.holdSlots p = s.holdSlots p ∧
      s.lineRequest p a l k = u.finishRequest p l (s.connAt p (handsetPlace a)) true := by
  obtain ⟨-, line, -⟩ := pick.mem
  obtain ⟨t, pass, -⟩ := admission_passes hw hf (privateFrom_of_open hp) (.inl rfl) hr
  have admitted := admission_admitted pass
  refine ⟨t.pickedUp p a l c, (pickedUp_taken line).admitted admitted, ?_, ?_, ?_, ?_⟩
  · rw [pickedUp_conns, admitted.cxm, admitted.newConn]
  · rw [pickedUp_privacy, admitted.cxm]
  · rw [pickedUp_holdSlots pick.pos, admitted.holdSlots]
  · rw [lineRequest_pickup on pick pass, pickup_eq, admitted.connAt]

end

/-- Settles O33: each request is one change of the table, then the displacement and the reports. -/
theorem lineRequestMovesRetrievesPicksUp : Obligations.LineRequestMovesRetrievesPicksUp := by
  intro p a l k s sw on
  have run := sw.running
  rw [exec_lineRequest sw.1 run]
  have next {t : State} (h : s.lineRequest p a l k = t) :
      (.next (s.lineRequest p a l k) : Host.Outcome State Fault Refusal) = .next t := congrArg _ h
  refine ⟨fun hc => next (lineRequest_ignored on hc), fun law rep free => ?_, fun d law rep hd hl => ?_,
    fun d strange held head hw hf => ?_⟩
  · have here : s.connOn p l (handsetPlace a) = none := connOn_none_of_free l free
    refine ⟨fun c hc => next ?_, fun c ho hc => ?_, fun d strange held head hw hf hp hr => ?_⟩
    · obtain ⟨-, pos, line, place⟩ := connOn_spec hc
      have same : (s.brought a c .moved .move).reported c.line :=
        brought_reported .moved .move (by rw [place]; exact handsetPlace_isUnheld _) (rep _)
      rw [lineRequest_move on here hc, bringConn_eq, free]
      exact (report_same same).trans ((connEvent_eq (s := s.changeConn c _) run _ _ _).trans (by rw [pos, line]; rfl))
    · obtain ⟨mem, -, rfl, -⟩ := connOn_spec hc
      let u := s.brought a c .retrieved .retrieve
      have brought : Does tableOnly s u := does_brought _ _
      have taken : Taken s c.line u := brought_taken _ _ mem
      have told : Does (recordOf c.line) u (u.report c.line) := does_report_only _ _
      have fin : Finished u p c.line none (u.report c.line) := finishRequest_finished (changed := false) (by simp)
      have whole := fin.whole taken
      refine ⟨_, next ?_, fin.conns.trans (brought_conns _ _), ?_, told.prs.trans brought.prs,
        told.rcu.trans brought.rcu, fin.active taken run, fin.stays taken (sum_pos_of_mem (rep _) mem rfl),
        fun x hx => (told.line x hx).trans (taken.line x), whole.lif, whole.psc, whole.cdu, whole.mix, whole.gtu⟩
      · rw [lineRequest_retrieved on here ho hc, free]
        rfl
      · rw [(calm_report _ _).cxm, brought_privacy]
    · obtain ⟨u, taken, conns, privacy, -, eq⟩ := lineRequest_pickedUp (a := a) (k := k) on ⟨strange, held, head⟩ hw hf hp hr
      rw [free] at eq
      have fin : Finished u p l none (u.finishRequest p l none true) := finishRequest_finished (by simp)
      have cxm : (u.finishRequest p l none true).cxm = u.cxm := (calm_notify u [l] [l]).cxm
      have whole := fin.whole taken
      exact ⟨_, next eq, fin.conns.trans conns, by rw [cxm, privacy], fin.active taken run hw,
        fun x hx => whole.line x (by simp [callsOn, hx]), whole.lif, whole.psc, whole.cdu, whole.mix, whole.gtu⟩
  · obtain ⟨mem, -, place⟩ := connAt_spec hd
    have unheld : d.place.isUnheld = true := by rw [place]; exact handsetPlace_isUnheld a
    have here : s.connOn p l (handsetPlace a) = none := connOn_none_of_carries law (handsetPlace_ne_hold a) hd hl
    intro brought displaced
    have shifted {u : State} {changed : Bool} (taken : Taken s l u) (flag : u.cxm.privacy = s.cxm.privacy)
        (used : 0 < (s.line l).totals.sum) :
        displaced (u.finishRequest p l (some d) changed) u.cxm.conns (u.holdSlots p) := by
      have fin := finishRequest_finished (u := u) (p := p) (carried := some d) (changed := changed)
        fun x hx => Option.some.inj hx ▸ hl
      have left := finishRequest_displaced (p := p) (changed := changed) (taken.does.running.trans run) (taken.mem mem hl)
        unheld hl (taken.reported hl (rep _))
      have whole := fin.whole taken
      have line := taken.line d.line
      have psc : u.position p = s.position p := congrArg (fun x : Psc => x.positions[p]) taken.does.psc
      refine ⟨?_, fin.privacy.trans (by rw [flag]), left.left, fun h => (left.kept h).trans (by rw [flag]),
        left.cleared, fun h => (left.demand h).trans (taken.does.demand d.line),
        fun hw => ⟨fun hn hs => ?_, fun hn => ⟨fun hs => ?_, fun hs => ?_⟩⟩, fin.active taken run,
        fin.stays taken used, fun x hx hxd => ⟨?_, ?_⟩, whole.lif, whole.psc, whole.cdu, whole.mix, whole.gtu⟩
      · rw [fin.conns, Option.elim_some, displacedTable_eq, psc]
      · rw [left.last (by rwa [line]) hn (by rwa [line]), line]
      · exact left.active (by rwa [line]) hn (by rwa [line])
      · exact left.calling hn (by rwa [line])
      · exact whole.line x (by simp [callsOn, hx, hxd])
      · exact whole.privacy x (by simp [callsOn, hx, hxd])
    have bring {c : Conn} {x : Place} (kind : ConnectKind) (cause : ConnectCause) (hc : s.connOn p l x = some c) :
        displaced ((s.brought a c kind cause).finishRequest p l (some d) false) (brought c)
          ((s.brought a c kind cause).holdSlots p) := by
      obtain ⟨cm, -, line, -⟩ := connOn_spec hc
      have both := shifted (changed := false) (line ▸ brought_taken (a := a) kind cause cm) (brought_privacy kind cause)
        (sum_pos_of_mem (rep l) cm line)
      rwa [brought_conns] at both
    refine ⟨fun c hc => ?_, fun c ho hc => ?_, fun c strange held head hw hf hp hr => ?_⟩
    · obtain ⟨-, -, -, cp⟩ := connOn_spec hc
      have done := bring .moved .move hc
      rw [brought_holdSlots_move _ _ (by rw [cp]; exact handsetPlace_isHold _)] at done
      exact ⟨_, next (by rw [lineRequest_moved on here hc, hd]), done⟩
    · obtain ⟨cm, cpos, -, cp⟩ := connOn_spec hc
      have done := bring .retrieved .retrieve hc
      rw [brought_holdSlots_retrieve _ _ law cm cpos cp] at done
      exact ⟨_, next (by rw [lineRequest_retrieved on here ho hc, hd]), done⟩
    · have pick : Pickable s p l c := ⟨strange, held, head⟩
      obtain ⟨cm, line, -⟩ := pick.mem
      obtain ⟨u, taken, conns, privacy, slots, eq⟩ := lineRequest_pickedUp (a := a) (k := k) on pick hw hf hp hr
      have done := shifted (changed := true) taken privacy (sum_pos_of_mem (rep l) cm line)
      rw [conns, slots] at done
      exact ⟨_, next (by rw [eq, hd]), done⟩
  · intro denied
    have pick : Pickable s p l d := ⟨strange, held, head⟩
    have deny {r : DenyReason} (ha : s.admission p l (some d) = .error r) : s.lineRequest p a l k = denied r := by
      rw [lineRequest_pickup_denied on pick ha, deny_eq run, if_pos on]
    refine ⟨fun q hs hq => next (deny (admission_private hw hf (privateFrom_eq_true hs hq))), fun hs hm hn ha => next (deny ?_)⟩
    exact admission_noRecorder hw hf (privateFrom_eq_false fun q hq => absurd hq (hs q)) (.inl rfl) hm hn ha

end Sys2Proof.Machine

/-! ### Line requests that connect (O32) -/

namespace Sys2Proof.Machine

/-! #### The new record and the flag of privacy_default (R57, R62) -/

section
variable {s : State} {p : PosNo} {a : Handset} {l : LineNo}

/-- R62: the record of an admitted connect in the table, with the flag that privacy_default sets. -/
def State.connected (s : State) (p : PosNo) (a : Handset) (l : LineNo) : State :=
  ((s.addConn (s.newConn p a l)).connEvent .added (s.newConn p a l) .connect).defaultPrivacy (s.newConn p a l)
    (s.bridge l).isEmpty

theorem connect_eq : s.connect p a l =
    (s.connected p a l).finishRequest p l (s.connAt p (handsetPlace a)) true := rfl

theorem does_added : Does tableOnly s ((s.addConn (s.newConn p a l)).connEvent .added (s.newConn p a l) .connect) :=
  (does_setConns trivial s _).trans (does_raiseRunning _ _)

theorem does_connected_table : Does tableOnly s (s.connected p a l) :=
  does_added.trans ((does_defaultPrivacy_flags _ _ _).mono fun k hk => by cases k <;> first | exact hk | exact hk.elim)

theorem does_connected : Does (requestOn l) s (s.connected p a l) := by
  unfold State.connected State.defaultPrivacy
  exact ((does_setConns trivial s _).trans (does_raiseRunning _ _)).trans
    (Does.ite _ (((Update.privacy _ l true).does (K := requestOn l) rfl).trans (does_raiseRunning _ _)) .refl)

theorem connected_conns : (s.connected p a l).cxm.conns = s.cxm.conns ++ [s.newConn p a l] := by
  unfold State.connected
  rw [(does_defaultPrivacy_flags _ _ _).conns]
  simp [State.connEvent, State.addConn]

theorem connected_privacy : (s.connected p a l).cxm.privacy[l] =
    (s.cxm.privacy[l] || ((s.bridge l).isEmpty && (s.line l).cfg.privacyDefault)) := by
  have line : (((s.addConn (s.newConn p a l)).connEvent .added (s.newConn p a l) .connect).line l) = s.line l :=
    does_added.line l id
  unfold State.connected State.defaultPrivacy
  rw [show (s.newConn p a l).line = l from rfl, line]
  split
  · next h => simp [h, State.connEvent, State.setPrivacy]
  · next h => simp [Bool.eq_false_iff.2 h, State.connEvent, State.addConn]

theorem newConn_mem_connected : s.newConn p a l ∈ (s.connected p a l).cxm.conns := by
  rw [connected_conns]
  exact List.mem_append_right _ (List.mem_singleton_self _)

theorem connected_lineConns : (s.connected p a l).lineConns l = s.lineConns l ++ [s.newConn p a l] := by
  simp [State.lineConns, connected_conns, State.newConn]

theorem connected_taken : Taken s l (s.connected p a l) := by
  refine ⟨does_connected, fun x hx => ?_, totalsNow_unheld_pos newConn_mem_connected rfl (handsetPlace_isUnheld a)⟩
  simp [State.lineConns, connected_conns, State.newConn, Ne.symm hx]

theorem connected_holdSlots : (s.connected p a l).holdSlots p = s.holdSlots p := by
  have new : (s.newConn p a l).holdsFor p = false := holdsFor_of_place rfl (handsetPlace_isHold a)
  rw [holdSlots_eq, holdSlots_eq, connected_conns, List.countP_append, List.countP_singleton]
  simp [new]

/-- R38: a displacement does not touch the new record, which is on another line. -/
theorem displacedTable_append (keep : Bool) (table : List Conn) {d new : Conn} (h : new ≠ d) :
    displacedTable keep (table ++ [new]) d = displacedTable keep table d ++ [new] := by
  unfold displacedTable
  split <;> simp [h]

end

/-! #### The recording of the line (R61, R140) -/

section
variable {s t : State} {p : PosNo} {a : Handset} {l : LineNo}

/-- R140, R141: a notice that finds the need as it was kept changes nothing. -/
theorem noticeLines_still (hc : s.lineConns l ≠ []) (h : s.keptNeed (.line l) = s.needNow (.line l)) :
    s.noticeLines [l] = s := by
  have demand : s.clearDemand l = s := if_neg (by simpa using hc)
  unfold State.noticeLines
  simp only [List.foldl_cons, List.foldl_nil, List.map_cons, List.map_nil, demand, State.reResolve]
  cases hn : s.needNow (.line l) <;> simp [State.passStop, State.passRank, State.passStart, h, hn]

/-- R136: a line with the side NEVER is never recorded. -/
theorem linePolicyWith_never {gone : Option Conn} (h : (s.lineSide l).1 = .never) :
    s.linePolicyWith l p gone = .never := by
  simp [State.linePolicyWith, h, resolveLine]

theorem needNow_never (h : (s.lineSide l).1 = .never) : s.needNow (.line l) = .none := by
  simp [State.needNow, State.linePolicy, h, resolveLine, PolicyCode.need]

theorem recordingCheck_still {x : Target} {policy : PolicyCode} (h : policy ≠ .mandatory) :
    s.recordingCheck x policy = some s := if_pos h

/-- R61, R152: the recording check takes the lowest STOPPED channel. -/
theorem recordingCheck_binds {x : Target} {c : ChanNo} (hb : s.boundChan x = none) (ha : s.allocatable = some c) :
    s.recordingCheck x .mandatory = some ((s.bindTo c x .admission).setKeptNeed x .mandatory) := by
  simp [State.recordingCheck, State.ask, hb, ha]

theorem bindTo_chan (s : State) (c : ChanNo) (x : Target) (cause : RecordCause) : (s.bindTo c x cause).chan c =
    { s.chan c with
      state := if s.chanReady c then .recording else .suspended
      target := some x
      segment := (s.chan c).segment + 1 } := by
  unfold State.bindTo
  rw [State.raiseRunning_chan]
  exact State.setChan_chan_self s c _

/-- R136, R142: the need of the line once the record is made is that of the policy that admission judged. -/
theorem connected_need (admitted : Admitted s t) : ((t.connected p a l).report l).needNow (.line l) =
    (s.linePolicyWith l p none).need := by
  have made : Does tableOnly t (t.connected p a l) := does_connected_table
  have told : Does (recordOf l) (t.connected p a l) ((t.connected p a l).report l) := does_report_only _ _
  have conns : ((t.connected p a l).report l).lineConns l = s.lineConns l ++ [t.newConn p a l] := by
    rw [lineConns_congr _ _ told.conns, connected_lineConns, lineConns_congr s l (by rw [admitted.cxm])]
  have side : ((t.connected p a l).report l).lineSide l = s.lineSide l := by
    rw [told.lineSide, made.lineSide, admitted.does.lineSide]
  have demand : ((t.connected p a l).report l).demand l = s.demand l := by
    rw [told.demand l, made.demand l, admitted.does.demand l]
  have modes : ((t.connected p a l).report l).recordMode = s.recordMode := by
    funext q
    simp only [State.recordMode, State.position, told.psc, made.psc, admitted.does.psc]
  have some : (s.lineConns l ++ [t.newConn p a l]).isEmpty = false := by simp
  simp only [State.needNow, State.linePolicy, State.linePolicyWith, State.parties, conns, side, demand, modes, some]
  simp [State.newConn]

/-- R140: with its need settled by admission, the connect re-resolves nothing. -/
theorem connected_recording (admitted : Admitted s t)
    (h : t.keptNeed (.line l) = (s.linePolicyWith l p none).need) :
    ((t.connected p a l).notify [l] [l]).rcu = t.rcu ∧ ((t.connected p a l).notify [l] [l]).prs = t.prs := by
  have made : Does tableOnly t (t.connected p a l) := does_connected_table
  have told : Does (recordOf l) (t.connected p a l) ((t.connected p a l).report l) := does_report_only _ _
  have prs : ((t.connected p a l).report l).prs = t.prs := told.prs.trans made.prs
  have kept : ((t.connected p a l).report l).keptNeed (.line l) = t.keptNeed (.line l) :=
    congrArg (fun x : Prs => x.lineNeed[l]) prs
  have some : ((t.connected p a l).report l).lineConns l ≠ [] := by
    rw [lineConns_congr _ _ told.conns, connected_lineConns]
    simp
  rw [notify_one, noticeLines_still some (by rw [kept, h, connected_need admitted])]
  exact ⟨told.rcu.trans made.rcu, prs⟩

end

/-! #### The state that the line moves to (R9, R10) -/

theorem timerStart_ne_expired (n : Nat) : Timer.start n ≠ .expired := by
  unfold Timer.start
  split <;> simp

/-- Settles O32: admission may bind a channel; then the record is made, the displacement follows and the line is
reported. -/
theorem lineRequestConnects : Obligations.LineRequestConnects := by
  intro p a l k s sw on law rep needs strange bridged hw hd hf hp room hr new carried keep
  have run := sw.running
  obtain ⟨t, pass, check⟩ := admission_passes (gone := none) hw hf hp (.inr room) hr
  have admitted := admission_admitted pass
  have connects : s.classify p a l = .connect := classify_connect strange <| by
    by_cases h : ∃ d ∈ s.cxm.conns, d.line = l ∧ d.place.isUnheld = true
    · exact .inr h
    · exact .inl fun c hc hl => Bool.eq_false_iff.2 fun hh => h (bridged c hc hl hh)
  have taken : Taken s l (t.connected p a l) := connected_taken.admitted admitted
  have other (d : Conn) (hd : carried = some d) : d.line ≠ l := fun hl => by
    obtain ⟨mem, pos, place⟩ := connAt_spec hd
    exact Bool.false_ne_true ((strange d mem pos hl).symm.trans (by rw [place]; exact handsetPlace_isHandset a))
  let u := t.connected p a l
  let f := u.finishRequest p l carried true
  have fin : Finished u p l carried f := finishRequest_finished other
  have whole := fin.whole taken
  have eq : exec (.lineRequest p a l k) s = .next f := by
    rw [exec_lineRequest sw.1 run, lineRequest_connect on connects, pass]
    exact congrArg _ (connect_eq.trans (by rw [admitted.connAt]))
  have line : u.line l = s.line l := taken.line l
  have urun : u.running = true := taken.does.running.trans run
  have uw : (u.line l).cfg.kind.isWire = true := by rw [line]; exact hw
  have unconnected (h : s.lineConns l = []) : (u.line l).totals.sum = 0 := by
    rw [line, rep l]
    exact totalsNow_sum_eq_zero.2 h
  have seized (hs : (s.line l).state = .idle) (hn : s.lineConns l = []) : f.line l =
      ({ s.line l with totals := u.totalsNow l } : LineRec).enter
        (if (s.line l).cfg.kind = .ard then .callingOut else .active) := by
    rw [fin.line, report_seized taken.unheld urun uw (by rw [line]; exact hs) (unconnected hn), line]
  have alone (free : carried = none) : f = (t.connected p a l).notify [l] [l] := by
    simp only [f, free]
    rfl
  have frun : f.mga.phase = .running := whole.phase.trans sw.2
  refine ⟨f, eq, ?_, ?_, whole.cfg l, whole.lineFar l, fin.reported, fun hs hn hk => ?_, fun hs hn hk => ?_,
    fun hs hn => ?_, fun hs hn => ?_, fun x hx ho => ?_, whole.lif, whole.psc, whole.cdu, whole.mix, whole.gtu,
    fun free never => ?_, fun c hm hb ha free => ?_⟩
  · have keeps : u.displacedHeld p = keep := by
      simp only [State.displacedHeld, State.position, taken.does.psc, u, connected_holdSlots, admitted.holdSlots]
      rfl
    have added : u.cxm.conns = s.cxm.conns ++ [new] := by
      rw [connected_conns, admitted.cxm, admitted.newConn]
      rfl
    rw [fin.conns, added]
    cases hcar : carried with
    | none => rfl
    | some d =>
      rw [Option.elim_some, displacedTable_append _ _ fun he => other d hcar (congrArg Conn.line he.symm), keeps]
      rfl
  · rw [fin.privacy, connected_privacy, admitted.cxm, admitted.does.line l id,
      bridge_congr (lineConns_congr s l (by rw [admitted.cxm]))]
  · have now := seized hs hn
    rw [if_pos hk] at now
    have state : (f.line l).state = .callingOut := by rw [now]; rfl
    have answer : (f.line l).answer = Timer.start ((s.line l).cfg.answerTimeout * 100) := by rw [now]; rfl
    refine ⟨state, ?_, ?_⟩
    · rw [outSignal_noBurst frun (by rw [now]; rfl), if_neg fun h => timerStart_ne_expired _ (answer.symm.trans h.2), state]
      rfl
    · rw [answer]
      simp [Timer.start]
  · have now := seized hs hn
    rw [if_neg (by rw [hk]; decide)] at now
    have state : (f.line l).state = .active := by rw [now]; rfl
    refine ⟨state, fun hq => ?_⟩
    rw [outSignal_quiet frun (.inl (by rw [now]; exact hq)) (by rw [state]; decide), state]
    rfl
  · rw [fin.line, report_answered taken.unheld urun uw (by rw [line]; exact hs) (unconnected hn)]
    exact ⟨rfl, rfl, rfl⟩
  · refine fin.stays taken ?_ fun hh => ?_
    · rw [rep l]
      exact totalsNow_sum_pos.2 hn
    · obtain hs | hs := hs <;> rw [hs] at hh <;> cases hh
  · have away : ¬ (x = l ∨ ∃ d, carried = some d ∧ x = d.line) := fun h =>
      h.elim hx fun ⟨d, hc, hl⟩ => ho d hc hl
    exact ⟨whole.line x away, whole.privacy x away, whole.demand x away⟩
  · have policy : s.linePolicyWith l p none = .never := linePolicyWith_never never
    rw [policy, recordingCheck_still (by decide)] at check
    obtain rfl : s = t := Option.some.inj check
    have still := connected_recording (p := p) (a := a) (l := l) admitted (by rw [needs, needNow_never never, policy]; rfl)
    rwa [alone free]
  · rw [hm, recordingCheck_binds hb ha] at check
    have bound : t = (s.bindTo c (.line l) .admission).setKeptNeed (.line l) .mandatory := (Option.some.inj check).symm
    have kept : t.keptNeed (.line l) = .mandatory := by rw [bound, State.setKeptNeed_keptNeed_eq, if_pos rfl]
    obtain ⟨rcu, -⟩ := connected_recording (p := p) (a := a) (l := l) admitted (by rw [kept, hm]; rfl)
    have chan : f.chan c = t.chan c := by
      rw [alone free]
      exact congrArg (fun x : Rcu => x.chans[c]) rcu
    rw [chan, bound, State.setKeptNeed_chan, bindTo_chan]
    exact ⟨rfl, rfl, rfl⟩

end Sys2Proof.Machine

namespace Sys2Proof.Machine

/-! ### Speaker talk (O38) -/

section
variable {s : State} {p : PosNo} {c : SpkNo}

/-- R71: a speaker_talk value finds no record where the position has none at the speaker place. -/
theorem speakerTalk_still (h : s.connAt p (.spk c) = none) (talk : Bool) : s.speakerTalk p c talk = s := by
  have here (x : Conn) (hx : x ∈ s.cxm.conns) : Conn.setTalk p c talk x = x :=
    if_neg fun at_place => List.find?_eq_none.1 h x hx (by simpa using at_place)
  have same : s.cxm.conns.map (Conn.setTalk p c talk) = s.cxm.conns :=
    (List.map_congr_left here).trans (List.map_id _)
  unfold State.speakerTalk
  rw [same]

end

/-- Settles O38: the record at the place takes the value, and a place without a record leaves the table as it is. -/
theorem speakerTalkTakesTheValue : Obligations.SpeakerTalkTakesTheValue := by
  intro p c talk s sw set
  have taken := exec_speakerTalkSet sw.1 sw.running p c talk
  exact ⟨taken, fun none => taken.trans (congrArg _ (speakerTalk_still none talk))⟩

end Sys2Proof.Machine

namespace Sys2Proof.Machine

/-! ### O5: the laws of the connection table and of privacy -/

/-! #### Operations that leave connections, flags and assignments alone -/

/-- R17, R25: a line on which no connection may stand. -/
def State.outOfUse (s : State) (l : LineNo) : Prop := (s.line l).state = .fault ∨ (s.line l).state = .disabled

/-- The connection table, the privacy flags and the speaker assignments are as before, and no line has come to FAULT or
DISABLED. -/
structure Undisturbed (s t : State) : Prop where
  cxm : t.cxm = s.cxm
  assigns : t.psc.assigns = s.psc.assigns
  inUse : ∀ l, t.outOfUse l → s.outOfUse l

section
variable {s t u : State}

theorem outOfUse_congr {l : LineNo} (h : (t.line l).state = (s.line l).state) : t.outOfUse l ↔ s.outOfUse l := by
  unfold State.outOfUse
  rw [h]

theorem Undisturbed.refl (s : State) : Undisturbed s s := ⟨rfl, rfl, fun _ => id⟩

theorem Undisturbed.trans (h : Undisturbed s t) (k : Undisturbed t u) : Undisturbed s u :=
  ⟨k.cxm.trans h.cxm, k.assigns.trans h.assigns, fun l hl => h.inUse l (k.inUse l hl)⟩

theorem Undisturbed.ite {a b : State} (p : Prop) [Decidable p] (h : Undisturbed s a) (k : Undisturbed s b) :
    Undisturbed s (if p then a else b) := by
  split
  · exact h
  · exact k

theorem Undisturbed.foldl {α : Type} (f : State → α → State) (h : ∀ s a, Undisturbed s (f s a)) (l : List α) (s : State) :
    Undisturbed s (l.foldl f s) := by
  induction l generalizing s with
  | nil => exact .refl s
  | cons a l ih => exact (h s a).trans (ih _)

theorem Undisturbed.of_states (cxm : t.cxm = s.cxm) (assigns : t.psc.assigns = s.psc.assigns)
    (h : ∀ l, (t.line l).state = (s.line l).state) : Undisturbed s t :=
  ⟨cxm, assigns, fun l => (outOfUse_congr (h l)).1⟩

theorem Undisturbed.of_eq (cxm : t.cxm = s.cxm) (assigns : t.psc.assigns = s.psc.assigns) (lnc : t.lnc = s.lnc) :
    Undisturbed s t :=
  .of_states cxm assigns fun l => by simp only [State.line, lnc]

/-- A line's record with another state is written only where that state lets connections stand. -/
theorem undisturbed_setLine (s : State) (l : LineNo) (r : LineRec)
    (h : r.state = (s.line l).state ∨ r.state ≠ .fault ∧ r.state ≠ .disabled) : Undisturbed s (s.setLine l r) := by
  refine ⟨rfl, rfl, fun x hx => ?_⟩
  by_cases e : l = x
  · subst e
    rw [State.outOfUse, State.setLine_line_self] at hx
    obtain h | ⟨hf, hd⟩ := h
    · rwa [h] at hx
    · exact (hx.elim hf hd).elim
  · rwa [State.outOfUse, State.setLine_line_ne _ _ e] at hx

theorem undisturbed_raise (s : State) (o : Occurrence) : Undisturbed s (s.raise o) :=
  .of_eq (State.raise_cxm s o) (by rw [State.raise_psc]) (State.raise_lnc s o)

theorem undisturbed_raiseRunning (s : State) (o : Occurrence) : Undisturbed s (s.raiseRunning o) := by
  unfold State.raiseRunning
  exact .ite _ (undisturbed_raise s o) (.refl s)

theorem undisturbed_setPosition (s : State) (p : PosNo) (r : PositionRec) : Undisturbed s (s.setPosition p r) :=
  .of_eq rfl rfl rfl

/-- The footprint of what touches neither the connection table nor PSC nor the state of a line. -/
def apart : Touch → Prop
  | .psc => False
  | .conns => False
  | .privacy _ => False
  | .line _ => False
  | _ => True

theorem Does.undisturbed (h : Does apart s t) : Undisturbed s t :=
  h.keeps Undisturbed .refl .trans undisturbed_raise fun k s t hk hu => by
    cases hu
    case psc => exact hk.elim
    case conns => exact hk.elim
    case privacy => exact hk.elim
    case enter => exact hk.elim
    case timers => exact hk.elim
    case totals => exact hk.elim
    case need => exact .of_eq (by simp) (by simp) (by simp)
    case burst l b => exact undisturbed_setLine s l _ (.inl rfl)
    case far l f => exact undisturbed_setLine s l _ (.inl rfl)
    case bursts es => exact .of_states rfl rfl fun l => by simp [State.endBursts, State.line, endBurst_state]
    case ticks => exact .of_states rfl rfl fun l => by simp [State.line, LineRec.tick]
    all_goals exact .of_eq rfl rfl rfl

theorem undisturbed_deny (s : State) (p : PosNo) (k : KeyNo) (r : DenyReason) (x : DenyTarget) :
    Undisturbed s (s.deny p k r x) := by
  unfold State.deny
  exact .trans (.ite _ (undisturbed_setPosition s p _) (.refl s)) (undisturbed_raiseRunning _ _)

/-! #### Lines that change state -/

theorem undisturbed_moveLine (s : State) (l : LineNo) {new : LineState} (c : LineCause) (hf : new ≠ .fault)
    (hd : new ≠ .disabled) : Undisturbed s (s.moveLine l new c) :=
  (undisturbed_setLine s l _ (.inr ⟨hf, hd⟩)).trans (undisturbed_raiseRunning _ _)

theorem undisturbed_clearLine (s : State) (l : LineNo) (c : LineCause) : Undisturbed s (s.clearLine l c) :=
  undisturbed_moveLine s l c (by split <;> simp) (by split <;> simp)

/-- R7: no report brings a line to FAULT or DISABLED. -/
theorem undisturbed_connectionEvent (s : State) (l : LineNo) (old new : Totals) :
    Undisturbed s (s.connectionEvent l old new) := by
  have move {x : LineState} (c : LineCause) (hf : x ≠ .fault) (hd : x ≠ .disabled) : Undisturbed s (s.moveLine l x c) :=
    undisturbed_moveLine s l c hf hd
  have answered : Undisturbed s (s.moveLine l .active .answered) := move _ (by simp) (by simp)
  have clear (c : LineCause) : Undisturbed s (s.clearLine l c) := undisturbed_clearLine s l c
  unfold State.connectionEvent
  simp only
  split
  · exact .ite _ (.refl s) (.ite _ (move _ (by simp) (by simp)) (.ite _ (move _ (by simp) (by simp)) (move _ (by simp) (by simp))))
  · exact .ite _ answered (.refl s)
  · exact .ite _ answered (.refl s)
  · exact .ite _ (clear _) (.refl s)
  · exact .ite _ (clear _) (.ite _ (move _ (by simp) (by simp)) (.refl s))
  · exact .ite _ (clear _) (.ite _ (move _ (by simp) (by simp)) (.refl s))
  · exact .refl s
  · exact .refl s

theorem undisturbed_report (s : State) (l : LineNo) : Undisturbed s (s.report l) := by
  have totals : Undisturbed s (s.setLine l { s.line l with totals := s.totalsNow l }) :=
    undisturbed_setLine s l _ (.inl rfl)
  rw [report_eq]
  exact .ite _ (totals.trans (undisturbed_connectionEvent _ l _ _)) totals

theorem undisturbed_notify (s : State) (rs ns : List LineNo) : Undisturbed s (s.notify rs ns) :=
  (Undisturbed.foldl _ undisturbed_report rs s).trans (does_noticeLines (K := apart) trivial _ ns fun _ _ => trivial).undisturbed

theorem undisturbed_farGone (s : State) (l : LineNo) : Undisturbed s (s.farGone l) := by
  unfold State.farGone
  exact .ite _ (undisturbed_moveLine s l _ (by simp) (by simp)) (undisturbed_setLine s l _ (.inl rfl))

theorem undisturbed_farAnswer (s : State) (l : LineNo) : Undisturbed s (s.farAnswer l) := by
  unfold State.farAnswer
  exact .ite _ (.refl s) (undisturbed_moveLine s l _ (by split <;> simp) (by split <;> simp))

theorem undisturbed_ringExpiry (s : State) (l : LineNo) : Undisturbed s (s.ringExpiry l) := by
  unfold State.ringExpiry
  exact .ite _ (undisturbed_moveLine s l _ (by simp) (by simp)) (.refl s)

theorem undisturbed_hangExpiry (s : State) (l : LineNo) : Undisturbed s (s.hangExpiry l) := by
  unfold State.hangExpiry
  exact .ite _ (undisturbed_moveLine s l _ (by simp) (by simp)) (.refl s)

/-! #### Talk groups and positions -/

theorem undisturbed_storeEnabled (s : State) (g : GroupNo) (on : Bool) : Undisturbed s (s.storeEnabled g on) := by
  have put : Does apart s (s.setGroupCfg g { (s.group g).cfg with enabled := on }) := does_setGroup trivial s g _
  have legs (new : LineState) (hf : new ≠ .fault) (hd : new ≠ .disabled) (ls : List LineNo) (t : State) :
      Undisturbed t (ls.foldl (fun s l => s.moveLine l new .group) t) :=
    .foldl _ (fun t l => undisturbed_moveLine t l _ hf hd) ls t
  unfold State.storeEnabled
  refine .ite _ put.undisturbed (.ite _ (put.undisturbed.trans (legs .active (by simp) (by simp) _ _)) (put.undisturbed.trans ?_))
  have emptied (t : State) (r : GroupRec) (ts ws : List TalkEntry) :
      Does apart t (ws.foldl (fun s e => s.talkEvent .removed g e (some .disabled) true)
        (ts.foldl (fun s e => s.talkEvent .removed g e (some .disabled) false) (t.setGroup g r))) :=
    ((does_setGroup trivial t g r).trans (does_raises _ _ _)).trans (does_raises _ _ _)
  exact (emptied _ _ _ _).undisturbed.trans (legs .idle (by simp) (by simp) _ _)

theorem undisturbed_storeGroupCfg (s : State) (g : GroupNo) (cfg : GroupCfg) : Undisturbed s (s.storeGroupCfg g cfg) := by
  have stored (t : State) (h : Does apart s t) (n : Nat) (code : PolicyCode) :
      Undisturbed s (((t.limitChanged g n).storeRecordCode g code).storeEnabled g cfg.enabled) :=
    ((h.trans (does_limitChanged trivial trivial t g n)).trans (does_setGroup trivial _ g _)).undisturbed.trans
      (undisturbed_storeEnabled _ g _)
  unfold State.storeGroupCfg
  exact .ite _ ((stored _ (does_setGroup trivial s g _) _ _).trans (does_noticeGroups (K := apart) trivial _ _).undisturbed)
    (stored _ (does_setGroup trivial s g _) _ _)

theorem undisturbed_talkRequest (s : State) (p : PosNo) (g : GroupNo) (c : TalkClass) (k : KeyNo) :
    Undisturbed s (s.talkRequest p g c k) := by
  have refused (o : Occurrence) (r : DenyReason) : Undisturbed s ((s.raiseRunning o).deny p k r (.group g)) :=
    (undisturbed_raiseRunning s o).trans (undisturbed_deny _ _ _ _ _)
  unfold State.talkRequest
  refine .ite _ (refused _ _) (.ite _ (.refl s) ?_)
  split
  · exact refused _ _
  · next h =>
    exact Does.undisturbed ((((does_recordingCheck trivial _ _ h).trans (does_placeTalk trivial _ _ _)).trans
      (does_dropLate trivial trivial _ _ _)).trans (does_noticeGroups trivial _ _))

theorem undisturbed_talkKeyDown (s : State) (p : PosNo) (k : KeyNo) (g : GroupNo) : Undisturbed s (s.talkKeyDown p k g) :=
  (undisturbed_setPosition s p _).trans (undisturbed_talkRequest _ _ _ _ _)

theorem undisturbed_storePositionCfg (s : State) (p : PosNo) (cfg : PositionCfg) :
    Undisturbed s (s.storePositionCfg p cfg) := by
  unfold State.storePositionCfg
  exact .ite _ ((undisturbed_setPosition s p _).trans (does_reResolve (K := apart) trivial _ _).undisturbed)
    (undisturbed_setPosition s p _)

end

end Sys2Proof.Machine

namespace Sys2Proof.Machine

/-! #### The laws of a list of records (R51) -/

/-- R52: whether a record is among the handset connections of line `l`. -/
def Conn.onBridge (l : LineNo) (c : Conn) : Bool := decide (c.line = l) && c.place.isHandset

/-- R51: the laws of a table of records, where `assign` are the speaker assignments and no connection may stand on the lines
`out`. The bound on a line's speaker connections follows from those on its assignments (`monitors_le_assignments`). -/
structure TableLawful (assign : PosNo → SpkNo → Assign) (out : LineNo → Prop) (cs : List Conn) : Prop where
  places : cs.Pairwise (fun c d => c.pos = d.pos → c.place = d.place → c.place = .hold)
  handsets : cs.Pairwise (fun c d => c.pos = d.pos → c.line = d.line → c.place.isHandset = true → d.place.isHandset = false)
  assigned : ∀ c ∈ cs, ∀ k : SpkNo, c.place = .spk k → assign c.pos k = .line c.line
  bridges : ∀ l, cs.countP (Conn.onBridge l) ≤ Config.bridgeRoom
  inUse : ∀ c ∈ cs, ¬ out c.line
  holds : ∀ p, cs.countP (Conn.holdsFor p) ≤ Config.holdRoom

section
variable {assign : PosNo → SpkNo → Assign} {out : LineNo → Prop} {cs ds : List Conn} {c d : Conn}

theorem TableLawful.nil : TableLawful assign out [] where
  places := .nil
  handsets := .nil
  assigned _ h := absurd h List.not_mem_nil
  bridges _ := Nat.zero_le _
  inUse _ h := absurd h List.not_mem_nil
  holds _ := Nat.zero_le _

theorem TableLawful.sublist (h : TableLawful assign out ds) (sub : cs.Sublist ds) : TableLawful assign out cs where
  places := h.places.sublist sub
  handsets := h.handsets.sublist sub
  assigned c hc := h.assigned c (sub.subset hc)
  bridges l := sub.countP_le.trans (h.bridges l)
  inUse c hc := h.inUse c (sub.subset hc)
  holds p := sub.countP_le.trans (h.holds p)

/-- The laws do not depend on the order of the records. -/
theorem TableLawful.perm (h : TableLawful assign out cs) (p : cs.Perm ds) : TableLawful assign out ds where
  places := h.places.perm p fun {c d} hcd hp hx => hx.trans (hcd hp.symm hx.symm)
  handsets := h.handsets.perm p fun {c d} hcd hp hl hh => by
    by_contra hc
    exact Bool.false_ne_true ((hcd hp.symm hl.symm (by simpa using hc)).symm.trans hh)
  assigned c hc := h.assigned c (p.mem_iff.2 hc)
  bridges l := (p.countP_eq _).symm.trans_le (h.bridges l)
  inUse c hc := h.inUse c (p.mem_iff.2 hc)
  holds q := (p.countP_eq _).symm.trans_le (h.holds q)

theorem TableLawful.mono {out' : LineNo → Prop} (h : TableLawful assign out cs) (le : ∀ l, out' l → out l) :
    TableLawful assign out' cs :=
  { h with inUse := fun c hc ho => h.inUse c hc (le _ ho) }

theorem TableLawful.nodup (h : TableLawful assign out cs) : cs.Nodup := by
  refine (h.places.and h.handsets).imp fun {c d} ⟨place, handset⟩ he => ?_
  subst he
  have hold := place rfl rfl
  exact Bool.false_ne_true ((handset rfl rfl (by rw [hold]; rfl)).symm.trans (by rw [hold]; rfl))

theorem onBridge_iff {l : LineNo} : c.onBridge l = true ↔ c.line = l ∧ c.place.isHandset = true := by
  simp only [Conn.onBridge, Bool.and_eq_true, decide_eq_true_eq]

theorem holdsFor_iff {p : PosNo} : c.holdsFor p = true ↔ c.pos = p ∧ c.place = .hold := by
  simp only [Conn.holdsFor, Bool.and_eq_true, decide_eq_true_eq, isHold_iff]

/-- A record of a handset joins the table. -/
theorem TableLawful.cons_handset (h : TableLawful assign out cs) (hh : c.place.isHandset = true)
    (free : ∀ x ∈ cs, x.pos = c.pos → x.place = c.place → c.place = .hold)
    (alone : ∀ x ∈ cs, x.pos = c.pos → x.line = c.line → x.place.isHandset = false)
    (room : cs.countP (Conn.onBridge c.line) < Config.bridgeRoom) (inUse : ¬ out c.line)
    (slot : c.place = .hold → cs.countP (Conn.holdsFor c.pos) < Config.holdRoom) : TableLawful assign out (c :: cs) where
  places := List.pairwise_cons.2 ⟨fun x hx hp he => free x hx hp.symm he.symm, h.places⟩
  handsets := List.pairwise_cons.2 ⟨fun x hx hp hl _ => alone x hx hp.symm hl.symm, h.handsets⟩
  assigned := List.forall_mem_cons.2 ⟨fun k hk => by rw [hk] at hh; exact absurd hh Bool.false_ne_true, h.assigned⟩
  bridges l := by
    rw [List.countP_cons]
    split
    · next hc => obtain ⟨rfl, -⟩ := onBridge_iff.1 hc; exact room
    · exact h.bridges l
  inUse := List.forall_mem_cons.2 ⟨inUse, h.inUse⟩
  holds p := by
    rw [List.countP_cons]
    split
    · next hc => obtain ⟨rfl, hold⟩ := holdsFor_iff.1 hc; exact slot hold
    · exact h.holds p

/-- A record of a speaker joins the table. -/
theorem TableLawful.cons_speaker (h : TableLawful assign out cs) {k : SpkNo} (hk : c.place = .spk k)
    (ha : assign c.pos k = .line c.line) (free : ∀ x ∈ cs, x.pos = c.pos → x.place ≠ c.place) (inUse : ¬ out c.line) :
    TableLawful assign out (c :: cs) where
  places := List.pairwise_cons.2 ⟨fun x hx hp he => absurd he.symm (free x hx hp.symm), h.places⟩
  handsets := List.pairwise_cons.2 ⟨fun x hx _ _ hh => by rw [hk] at hh; exact absurd hh Bool.false_ne_true, h.handsets⟩
  assigned := List.forall_mem_cons.2 ⟨fun j hj => by rwa [← Place.spk.inj (hk.symm.trans hj)], h.assigned⟩
  bridges l := by
    rw [List.countP_cons_of_neg fun hc => by
      obtain ⟨-, hh⟩ := onBridge_iff.1 hc; rw [hk] at hh; exact Bool.false_ne_true hh]
    exact h.bridges l
  inUse := List.forall_mem_cons.2 ⟨inUse, h.inUse⟩
  holds p := by
    rw [List.countP_cons_of_neg fun hc => by obtain ⟨-, hh⟩ := holdsFor_iff.1 hc; rw [hk] at hh; cases hh]
    exact h.holds p

/-- What the laws say of a record among the others of its table. -/
theorem TableLawful.apart (h : TableLawful assign out (c :: cs)) :
    (∀ x ∈ cs, x.pos = c.pos → x.place = c.place → c.place = .hold) ∧
      (c.place.isHandset = true → ∀ x ∈ cs, x.pos = c.pos → x.line = c.line → x.place.isHandset = false) :=
  ⟨fun _ hx hp he => List.rel_of_pairwise_cons h.places hx hp.symm he.symm,
    fun hh _ hx hp hl => List.rel_of_pairwise_cons h.handsets hx hp.symm hl.symm hh⟩

theorem TableLawful.room (h : TableLawful assign out (c :: cs)) (hh : c.place.isHandset = true) :
    cs.countP (Conn.onBridge c.line) < Config.bridgeRoom := by
  have le := h.bridges c.line
  rwa [List.countP_cons_of_pos (onBridge_iff.2 ⟨rfl, hh⟩)] at le

/-- The table with its record `c` first. -/
theorem TableLawful.front (h : TableLawful assign out cs) (hc : c ∈ cs) : TableLawful assign out (c :: cs.erase c) :=
  h.perm (List.perm_cons_erase hc)

/-- A handset record takes another place: an unheld one that no record of the position has, or HOLD with a slot free. -/
theorem TableLawful.replace (h : TableLawful assign out (c :: cs)) (hh : c.place.isHandset = true) {x : Place}
    (hx : x.isHandset = true) (free : ∀ y ∈ cs, y.pos = c.pos → y.place = x → x = .hold)
    (slot : x = .hold → cs.countP (Conn.holdsFor c.pos) < Config.holdRoom) :
    TableLawful assign out ({ c with place := x } :: cs) :=
  (h.sublist (List.sublist_cons_self c cs)).cons_handset hx free (h.apart.2 hh) (h.room hh)
    (h.inUse c (List.mem_cons_self)) slot

theorem map_replace_of_notMem {c' : Conn} (h : c ∉ cs) : cs.map (fun x => if x = c then c' else x) = cs :=
  (List.map_congr_left fun x hx => if_neg fun e : x = c => h (e ▸ hx)).trans (List.map_id' cs)

theorem map_replace_perm {c' : Conn} (dup : cs.Nodup) (hc : c ∈ cs) :
    (cs.map (fun x => if x = c then c' else x)).Perm (c' :: cs.erase c) := by
  refine ((List.perm_cons_erase hc).map _).trans ?_
  rw [List.map_cons, if_pos rfl, map_replace_of_notMem (dup.not_mem_erase)]

end

/-! #### The laws of the table in a state -/

/-- R51: the laws of the connection table but for the number of assignments of a line. -/
def State.tableLawful (s : State) : Prop := TableLawful s.assign s.outOfUse s.cxm.conns

/-- R32: at most 16 assignments name a line. -/
def State.assignsFit (s : State) : Prop := ∀ l, s.assignments l ≤ Config.assignRoom

section
variable {s t : State}

theorem bridge_length (s : State) (l : LineNo) : (s.bridge l).length = s.cxm.conns.countP (Conn.onBridge l) := by
  rw [State.bridge, State.lineConns, List.filter_filter, ← List.countP_eq_length_filter]
  exact List.countP_congr fun c _ => by simp [Conn.onBridge, and_comm]

/-- The place of a speaker record among the assignments. -/
def Conn.assignSlot (c : Conn) : Option (Fin 256) :=
  match c.place with
  | .spk k => some (assignIndex c.pos k)
  | _ => none

theorem assigns_toList (v : Vector Assign 256) : v.toList = (List.finRange 256).map fun i => v[i] :=
  List.ext_getElem (by simp) fun i _ _ => by simp

theorem mem_monitors {l : LineNo} {c : Conn} : c ∈ s.monitors l ↔ c ∈ s.cxm.conns ∧ c.line = l ∧ ∃ k, c.place = .spk k := by
  have speaker : (!c.place.isHandset) = true ↔ ∃ k, c.place = .spk k := by cases c.place <;> simp [Place.isHandset]
  rw [State.monitors, List.mem_filter, mem_lineConns, speaker, and_assoc]

theorem assignIndex_inj {p q : PosNo} {j k : SpkNo} (h : assignIndex p j = assignIndex q k) : p = q ∧ j = k := by
  have pos := congrArg assignPos h
  have spk := congrArg assignSpk h
  rw [assignPos_assignIndex, assignPos_assignIndex] at pos
  rw [assignSpk_assignIndex, assignSpk_assignIndex] at spk
  exact ⟨pos, spk⟩

/-- R32, R51: each speaker connection of a line has an assignment of its own. -/
theorem monitors_le_assignments (law : s.tableLawful) (l : LineNo) : (s.monitors l).length ≤ s.assignments l := by
  have own : ((s.monitors l).map Conn.assignSlot).Nodup := by
    refine List.pairwise_map.2 (((law.places.and law.nodup).sublist (List.filter_sublist.trans List.filter_sublist)).imp_of_mem ?_)
    rintro c d hc hd ⟨place, -⟩ he
    obtain ⟨-, -, j, hj⟩ := mem_monitors.1 hc
    obtain ⟨-, -, k, hk⟩ := mem_monitors.1 hd
    simp only [Conn.assignSlot, hj, hk, Option.some.injEq] at he
    obtain ⟨hp, rfl⟩ := assignIndex_inj he
    have hold := place hp (hj.trans hk.symm)
    rw [hj] at hold
    cases hold
  have named : (s.monitors l).map Conn.assignSlot ⊆
      ((List.finRange 256).filter fun i => s.psc.assigns[i] = .line l).map some := by
    intro x hx
    obtain ⟨c, hc, rfl⟩ := List.mem_map.1 hx
    obtain ⟨mem, rfl, k, hk⟩ := mem_monitors.1 hc
    refine List.mem_map.2 ⟨assignIndex c.pos k, List.mem_filter.2 ⟨List.mem_finRange _, ?_⟩, by simp only [Conn.assignSlot, hk]⟩
    exact decide_eq_true (law.assigned c mem k hk)
  have le := (List.subperm_of_subset own named).length_le
  rw [List.length_map, List.length_map] at le
  rwa [State.assignments, assigns_toList, List.filter_map, List.length_map]

theorem connectionsLawful_iff : s.connectionsLawful ↔ s.tableLawful ∧ s.assignsFit := by
  constructor
  · rintro ⟨places, handsets, assigned, lines, out, holds⟩
    refine ⟨⟨places, handsets, assigned, fun l => ?_, fun c hc ho => ?_, fun p => ?_⟩, fun l => (lines l).2.2⟩
    · rw [← bridge_length]; exact (lines l).1
    · exact List.ne_nil_of_mem (mem_lineConns.2 ⟨hc, rfl⟩) (out c.line ho)
    · rw [← holdSlots_eq]; exact holds p
  · rintro ⟨law, fit⟩
    refine ⟨law.places, law.handsets, law.assigned, fun l => ⟨?_, (monitors_le_assignments law l).trans (fit l), fit l⟩,
      fun l ho => ?_, fun p => ?_⟩
    · rw [bridge_length]; exact law.bridges l
    · exact filter_line_eq_nil l fun c hc he => law.inUse c hc (he ▸ ho)
    · rw [holdSlots_eq]; exact law.holds p

end

end Sys2Proof.Machine

namespace Sys2Proof.Machine

/-! #### What upholds the laws -/

/-- The speaker assignments are as before, and the laws of the table and of privacy hold if they held before. -/
structure Upholds (s t : State) : Prop where
  assigns : t.psc.assigns = s.psc.assigns
  table : s.tableLawful → t.tableLawful
  privacy : s.privacyLawful → t.privacyLawful

section
variable {s t u : State}

theorem Upholds.refl (s : State) : Upholds s s := ⟨rfl, id, id⟩

theorem Upholds.trans (h : Upholds s t) (k : Upholds t u) : Upholds s u :=
  ⟨k.assigns.trans h.assigns, fun hs => k.table (h.table hs), fun hs => k.privacy (h.privacy hs)⟩

theorem Upholds.ite {a b : State} (p : Prop) [Decidable p] (h : Upholds s a) (k : Upholds s b) :
    Upholds s (if p then a else b) := by
  split
  · exact h
  · exact k

theorem Upholds.foldl {α : Type} (f : State → α → State) (h : ∀ s a, Upholds s (f s a)) (l : List α) (s : State) :
    Upholds s (l.foldl f s) := by
  induction l generalizing s with
  | nil => exact .refl s
  | cons a l ih => exact (h s a).trans (ih _)

theorem assign_congr (h : t.psc.assigns = s.psc.assigns) : t.assign = s.assign := by
  funext p c
  simp only [State.assign, h]

/-- The laws of a table among the assignments and the lines of an earlier state. -/
theorem tableLawful_of (assigns : t.psc.assigns = s.psc.assigns) (inUse : ∀ l, t.outOfUse l → s.outOfUse l)
    (h : TableLawful s.assign s.outOfUse t.cxm.conns) : t.tableLawful := by
  unfold State.tableLawful
  rw [assign_congr assigns]
  exact h.mono inUse

theorem bridge_of_conns (h : t.cxm.conns = s.cxm.conns) (l : LineNo) : t.bridge l = s.bridge l :=
  bridge_congr (lineConns_congr s l h)

/-- R57: a change of the table that leaves each line its number of handset connections. -/
theorem privacyLawful_of_counts (flags : t.cxm.privacy = s.cxm.privacy)
    (h : ∀ l, t.cxm.conns.countP (Conn.onBridge l) = s.cxm.conns.countP (Conn.onBridge l)) (law : s.privacyLawful) :
    t.privacyLawful := fun l hp => by
  rw [bridge_length, h l, ← bridge_length]
  exact law l (by rwa [flags] at hp)

theorem privacyLawful_congr (h : t.cxm = s.cxm) (law : s.privacyLawful) : t.privacyLawful :=
  privacyLawful_of_counts (congrArg Cxm.privacy h) (fun l => by rw [h]) law

theorem Undisturbed.upholds (h : Undisturbed s t) : Upholds s t where
  assigns := h.assigns
  table law := tableLawful_of h.assigns h.inUse (by rw [h.cxm]; exact law)
  privacy := privacyLawful_congr h.cxm

/-- A change of the connection table and of the flags alone. -/
theorem Does.upholds (h : Does tableOnly s t) (table : s.tableLawful → TableLawful s.assign s.outOfUse t.cxm.conns)
    (privacy : s.privacyLawful → t.privacyLawful) : Upholds s t where
  assigns := by rw [h.psc]
  table law := tableLawful_of (by rw [h.psc]) (fun l hl => by rwa [State.outOfUse, h.line l id] at hl) (table law)
  privacy := privacy

theorem upholds_setLine (s : State) (l : LineNo) (r : LineRec)
    (h : r.state = (s.line l).state ∨ r.state ≠ .fault ∧ r.state ≠ .disabled) : Upholds s (s.setLine l r) :=
  (undisturbed_setLine s l r h).upholds

theorem upholds_moveLine (s : State) (l : LineNo) {new : LineState} (c : LineCause) (hf : new ≠ .fault)
    (hd : new ≠ .disabled) : Upholds s (s.moveLine l new c) :=
  (undisturbed_moveLine s l c hf hd).upholds

end

/-! #### Removals (R57, R66, R67) -/

section
variable {s : State} {l : LineNo} {gone : Conn → Bool} (cause : ConnectCause)

theorem foldl_leavePrivacy_unset (cs : List Conn) {s : State} (h : s.cxm.privacy[l] = false) :
    (cs.foldl State.leavePrivacy s).cxm.privacy[l] = false := by
  by_cases hb : s.bridge l = []
  · exact foldl_leavePrivacy_left hb (.inr h)
  · rw [foldl_leavePrivacy_kept cs hb, h]

/-- R57: a removal sets no privacy flag. -/
theorem dropConns_privacy_unset (h : s.cxm.privacy[l] = false) : (s.dropConns gone cause).cxm.privacy[l] = false :=
  foldl_leavePrivacy_unset _ ((removedEvents_privacy cause _ _ l).trans h)

/-- R57: a line whose flag stays keeps its one handset connection. -/
theorem dropConns_privacyLawful (law : s.privacyLawful) : (s.dropConns gone cause).privacyLawful := by
  intro l hp
  have was : s.cxm.privacy[l] = true := by
    by_contra hn
    rw [dropConns_privacy_unset cause (by simpa using hn)] at hp
    cases hp
  have sub : (s.dropConns gone cause).bridge l = (s.bridge l).filter (fun c => !gone c) := by
    simp only [State.bridge, dropConns_lineConns, List.filter_filter, Bool.and_comm]
  obtain ⟨c, hc⟩ := List.length_eq_one_iff.1 (law l was)
  cases hg : gone c
  · rw [sub, hc]
    simp [hg]
  · have left : (s.dropConns gone cause).bridge l = [] := by rw [sub, hc]; simp [hg]
    obtain ⟨mem, hl, hh⟩ := (mem_bridge s l).1 (hc ▸ List.mem_singleton_self c)
    rw [dropConns_privacy_left cause left ⟨c, mem, hg, hh, hl⟩] at hp
    cases hp

theorem upholds_dropConns (s : State) (gone : Conn → Bool) : Upholds s (s.dropConns gone cause) :=
  (does_dropConns_table s gone cause).upholds
    (fun law => by rw [dropConns_conns]; exact law.sublist List.filter_sublist) (dropConns_privacyLawful cause)

theorem upholds_removeConns (s : State) (gone : Conn → Bool) : Upholds s (s.removeConns gone cause) := by
  unfold State.removeConns
  exact .ite _ (.refl s) ((upholds_dropConns cause s gone).trans (undisturbed_notify _ _ _).upholds)

/-- R17, R22: a line goes out of use together with its connections. -/
theorem upholds_moveLine_removeLine (s : State) (l : LineNo) (new : LineState) (c : LineCause) :
    Upholds s ((s.moveLine l new c).removeLine l cause) := by
  have move : Does (recordOf l) s (s.moveLine l new c) := does_moveLine_only s l new c
  have remove : Does (callsOn (· = l)) (s.moveLine l new c) ((s.moveLine l new c).removeLine l cause) :=
    does_removeLine_only cause
  refine ⟨by rw [remove.psc, move.psc], fun law => ?_, fun law => ?_⟩
  · have kept : TableLawful s.assign s.outOfUse (s.cxm.conns.filter (fun c => c.line ≠ l)) := law.sublist List.filter_sublist
    unfold State.tableLawful
    rw [removeLine_conns, move.conns, assign_congr (s := s) (by rw [remove.psc, move.psc])]
    refine { kept with inUse := fun x hx ho => kept.inUse x hx ?_ }
    have other : x.line ≠ l := of_decide_eq_true (List.mem_filter.1 hx).2
    rwa [State.outOfUse, remove.line x.line other, move.line x.line other] at ho
  · refine (upholds_removeConns cause _ _).privacy (privacyLawful_congr ?_ law)
    simp only [State.moveLine, State.raiseRunning_cxm, State.setLine_cxm]

theorem upholds_enterFault (s : State) (l : LineNo) (c : LineCause) : Upholds s (s.enterFault l c) :=
  upholds_moveLine_removeLine _ s l _ c

end

/-! #### Standing monitors (R33, R70) -/

section
variable {s : State}

/-- R70: a monitor that is called for finds its place empty and its line in use. -/
theorem monitorRecord_spec {pc : PosNo × SpkNo} {c : Conn} (h : s.monitorRecord pc = some c) :
    c.pos = pc.1 ∧ c.place = .spk pc.2 ∧ ¬ s.outOfUse c.line ∧ ∀ x ∈ s.cxm.conns, x.pos = pc.1 → x.place ≠ .spk pc.2 := by
  rw [monitorRecord_eq_some (monitorRecord_line h)] at h
  split at h
  · next due =>
    obtain ⟨-, -, enabled, sound, free⟩ := due
    have record := Option.some.inj h
    exact ⟨by rw [← record], by rw [← record], fun ho => ho.elim sound enabled, free⟩
  · cases h

theorem monitors_lawful (law : s.tableLawful) {places : List (PosNo × SpkNo)} (dup : places.Nodup) :
    TableLawful s.assign s.outOfUse (places.filterMap s.monitorRecord ++ s.cxm.conns) := by
  induction places with
  | nil => exact law
  | cons pc places ih =>
    obtain ⟨fresh, dup⟩ := List.nodup_cons.1 dup
    rw [List.filterMap_cons]
    split
    · exact ih dup
    · next c hc =>
      obtain ⟨pos, place, used, free⟩ := monitorRecord_spec hc
      have assigned := monitorRecord_line hc
      refine (ih dup).cons_speaker place (by rwa [pos]) (fun x hx hp he => ?_) used
      rw [pos] at hp
      rw [place] at he
      obtain hx | hx := List.mem_append.1 hx
      · obtain ⟨pc', hpc, hrec⟩ := List.mem_filterMap.1 hx
        obtain ⟨pos', place', -⟩ := monitorRecord_spec hrec
        have same : pc' = pc := Prod.ext (pos'.symm.trans hp) (Place.spk.inj (place'.symm.trans he))
        exact fresh (same ▸ hpc)
      · exact free x hx hp he

/-- R50: a speaker record is on no bridge. -/
theorem monitors_countP (s : State) (places : List (PosNo × SpkNo)) (l : LineNo) :
    (places.filterMap s.monitorRecord).countP (Conn.onBridge l) = 0 := by
  refine List.countP_eq_zero.2 fun c hc hb => ?_
  obtain ⟨pc, -, hrec⟩ := List.mem_filterMap.1 hc
  obtain ⟨-, place, -⟩ := monitorRecord_spec hrec
  obtain ⟨-, handset⟩ := onBridge_iff.1 hb
  rw [place] at handset
  exact Bool.false_ne_true handset

theorem upholds_makeMonitors (s : State) {places : List (PosNo × SpkNo)} (dup : places.Nodup) :
    Upholds s (s.makeMonitors places) := by
  have joined : Upholds s { s with cxm := { s.cxm with conns := s.cxm.conns ++ places.filterMap s.monitorRecord } } :=
    (does_setConns trivial s _).upholds (fun law => (monitors_lawful law dup).perm List.perm_append_comm)
      (privacyLawful_of_counts rfl fun l => by rw [List.countP_append, monitors_countP, Nat.add_zero])
  unfold State.makeMonitors
  exact .ite _ (.refl s) (joined.trans (undisturbed_notify _ _ _).upholds)

theorem speakerPlaces_nodup : speakerPlaces.Nodup := by
  refine (List.nodup_finRange 256).map fun i j h => ?_
  simp only [Prod.mk.injEq, Fin.ext_iff] at h
  omega

theorem upholds_makeLineMonitors (s : State) (l : LineNo) : Upholds s (s.makeLineMonitors l) :=
  upholds_makeMonitors s (speakerPlaces_nodup.filter _)

theorem upholds_makePositionMonitors (s : State) (p : PosNo) : Upholds s (s.makePositionMonitors p) :=
  upholds_makeMonitors s ((List.nodup_finRange 8).map fun _ _ h => (Prod.ext_iff.1 h).2)

theorem upholds_makeAllMonitors (s : State) : Upholds s s.makeAllMonitors := .foldl _ upholds_makeLineMonitors _ s

theorem upholds_clearLineConns (s : State) (l : LineNo) (c : ConnectCause) : Upholds s (s.clearLineConns l c) := by
  unfold State.clearLineConns
  exact .ite _ (.refl s) ((upholds_removeConns c s _).trans (upholds_makeLineMonitors _ l))

end

end Sys2Proof.Machine

namespace Sys2Proof.Machine

/-! #### Line requests (R37, R38, R60 to R64) -/

/-- R62: the handset record `c` may join the records `rest`, once what its handset carried has left. -/
structure Joins (assign : PosNo → SpkNo → Assign) (out : LineNo → Prop) (c : Conn) (rest : List Conn) : Prop where
  law : TableLawful assign out rest
  unheld : c.place.isUnheld = true
  alone : ∀ x ∈ rest, x.pos = c.pos → x.line = c.line → x.place.isHandset = false
  room : rest.countP (Conn.onBridge c.line) < Config.bridgeRoom
  inUse : ¬ out c.line

section
variable {assign : PosNo → SpkNo → Assign} {out : LineNo → Prop} {c d : Conn} {rest table : List Conn}

theorem Joins.handset (h : Joins assign out c rest) : c.place.isHandset = true := isHandset_iff.2 (.inl h.unheld)

theorem Joins.not_hold (h : Joins assign out c rest) : c.place ≠ .hold := fun e => by
  have unheld := h.unheld
  rw [e] at unheld
  cases unheld

theorem Joins.sublist (h : Joins assign out c rest) (sub : table.Sublist rest) : Joins assign out c table :=
  ⟨h.law.sublist sub, h.unheld, fun x hx => h.alone x (sub.subset hx), sub.countP_le.trans_lt h.room, h.inUse⟩

/-- A handset that carries nothing takes the record. -/
theorem Joins.lawful (h : Joins assign out c rest) (free : ∀ x ∈ rest, x.pos = c.pos → x.place ≠ c.place) :
    TableLawful assign out (c :: rest) :=
  h.law.cons_handset h.handset (fun x hx hp he => absurd he (free x hx hp)) h.alone h.room h.inUse
    fun hold => absurd hold h.not_hold

theorem displacedTable_perm (keep : Bool) (p : table.Perm rest) :
    (displacedTable keep table d).Perm (displacedTable keep rest d) := by
  unfold displacedTable
  split
  · exact p.map _
  · exact p.filter _

/-- R38: what the handset carried is held, if a slot is free, or released. -/
theorem Joins.displaced (h : Joins assign out c rest) {keep : Bool} (hd : d ∈ rest) (hp : d.pos = c.pos)
    (hx : d.place = c.place) (slot : keep = true → rest.countP (Conn.holdsFor c.pos) < Config.holdRoom) :
    TableLawful assign out (displacedTable keep (c :: rest) d) := by
  have handset : d.place.isHandset = true := by rw [hx]; exact h.handset
  have other : d.line ≠ c.line := fun e => by
    rw [h.alone d hd hp e] at handset
    cases handset
  have ne : c ≠ d := fun e => other (congrArg Conn.line e.symm)
  have front : TableLawful assign out (d :: rest.erase d) := h.law.front hd
  have left : Joins assign out c (rest.erase d) := h.sublist List.erase_sublist
  have free : ∀ x ∈ rest.erase d, x.pos = c.pos → x.place ≠ c.place := fun x hm hxp hxc =>
    h.not_hold (hx.symm.trans (front.apart.1 x hm (hxp.trans hp.symm) (hxc.trans hx.symm)))
  unfold displacedTable
  split
  · next hk =>
    have held : TableLawful assign out ({ d with place := .hold } :: rest.erase d) :=
      front.replace handset rfl (fun _ _ _ _ => rfl) fun _ => by
        rw [hp]; exact (List.erase_sublist.countP_le).trans_lt (slot hk)
    have joins : Joins assign out c ({ d with place := .hold } :: rest.erase d) :=
      ⟨held, h.unheld, List.forall_mem_cons.2 ⟨fun _ hl => absurd hl other, left.alone⟩,
        (List.countP_cons_of_neg (a := { d with place := .hold }) fun e => other (onBridge_iff.1 e).1).trans_lt left.room, h.inUse⟩
    refine (joins.lawful (List.forall_mem_cons.2 ⟨fun _ e => h.not_hold e.symm, free⟩)).perm ?_
    rw [List.map_cons, if_neg ne]
    exact ((map_replace_perm h.law.nodup hd).cons c).symm
  · have same : rest.filter (fun x => x ≠ d) = rest.erase d := by
      rw [h.law.nodup.erase_eq_filter]
      exact List.filter_congr fun x _ => Bool.eq_iff_iff.2 (by simp)
    rw [List.filter_cons_of_pos (by simpa using ne), same]
    exact left.lawful free

end

end Sys2Proof.Machine

namespace Sys2Proof.Machine

section
variable {s t u : State} {p : PosNo} {a : Handset} {l : LineNo} {c d : Conn}

/-- R37: what a request that is a move or a retrieve takes. -/
structure Takeable (s : State) (p : PosNo) (a : Handset) (l : LineNo) (c : Conn) : Prop where
  mem : c ∈ s.cxm.conns
  pos : c.pos = p
  line : c.line = l
  handset : c.place.isHandset = true
  elsewhere : c.place ≠ handsetPlace a

theorem otherHandset_place (a : Handset) : handsetPlace (otherHandset a) ≠ handsetPlace a := by
  cases a <;> simp [handsetPlace, otherHandset]

/-- R50: a handset record lies with one of the two handsets or on HOLD. -/
theorem handset_places (a : Handset) {x : Place} (h : x.isHandset = true) :
    x = handsetPlace a ∨ x = handsetPlace (otherHandset a) ∨ x = .hold := by
  cases x with
  | left => cases a; exacts [.inl rfl, .inr (.inl rfl)]
  | right => cases a; exacts [.inr (.inl rfl), .inl rfl]
  | hold => exact .inr (.inr rfl)
  | spk k => cases h

theorem classify_moves (h : s.classify p a l = .move c ∨ s.classify p a l = .retrieve c) : Takeable s p a l c := by
  unfold State.classify at h
  split at h
  · obtain h | h := h <;> cases h
  split at h
  · next d hd =>
    obtain ⟨mem, pos, line, place⟩ := connOn_spec hd
    obtain rfl : d = c := by obtain h | h := h <;> cases h; rfl
    exact ⟨mem, pos, line, by rw [place]; exact handsetPlace_isHandset _, by rw [place]; exact otherHandset_place a⟩
  split at h
  · next d hd =>
    obtain ⟨mem, pos, line, place⟩ := connOn_spec hd
    obtain rfl : d = c := by obtain h | h := h <;> cases h; rfl
    exact ⟨mem, pos, line, by rw [place]; rfl, by rw [place]; exact (handsetPlace_ne_hold a).symm⟩
  split at h <;> obtain h | h := h <;> cases h

theorem strange_of_connOn (here : s.connOn p l (handsetPlace a) = none)
    (other : s.connOn p l (handsetPlace (otherHandset a)) = none) (hold : s.connOn p l .hold = none) : s.strange p l := by
  have none {x : Place} (h : s.connOn p l x = none) (c : Conn) (hc : c ∈ s.cxm.conns) (hp : c.pos = p) (hl : c.line = l) :
      c.place ≠ x := fun hx => by
    have := List.find?_eq_none.1 h c hc
    simp [hp, hl, hx] at this
  intro c hc hp hl
  by_contra handset
  obtain hx | hx | hx := handset_places a (by simpa using handset)
  · exact none here c hc hp hl hx
  · exact none other c hc hp hl hx
  · exact none hold c hc hp hl hx

theorem classify_adds (h : s.classify p a l = .connect ∨ ∃ c, s.classify p a l = .pickup c) : s.strange p l := by
  unfold State.classify at h
  split at h
  · obtain h | ⟨c, h⟩ := h <;> cases h
  next here =>
  split at h
  · obtain h | ⟨c, h⟩ := h <;> cases h
  next other =>
  split at h
  · obtain h | ⟨c, h⟩ := h <;> cases h
  next hold => exact strange_of_connOn (by simpa using here) other hold

theorem classify_pickup (h : s.classify p a l = .pickup c) : c ∈ s.bridge l ∧ c.pos ≠ p := by
  rw [classify_strange (classify_adds (.inr ⟨c, h⟩))] at h
  split at h
  · next d hd =>
    obtain rfl := LineCase.pickup.inj h
    unfold State.pickable at hd
    split at hd
    · cases hd
    · have found := List.find?_some hd
      simp only [Bool.and_eq_true, decide_eq_true_eq] at found
      exact ⟨List.mem_of_find?_eq_some hd, found.2⟩
  · cases h

/-- R60: what an admitted request has passed. -/
theorem admission_ok {gone : Option Conn} (h : s.admission p l gone = .ok t) : (s.line l).cfg.kind ≠ .unused ∧
    (s.line l).state ≠ .fault ∧ s.privateFrom l p = false ∧ (gone = none → (s.bridge l).length < Config.bridgeRoom) := by
  have passes {r : DenyReason} (hr : s.admission p l gone = .error r) : False := by rw [hr] at h; cases h
  have unused : (s.line l).cfg.kind ≠ .unused := fun hk => passes (admission_unused hk)
  have wire : (s.line l).cfg.kind.isWire = true := by
    cases hk : (s.line l).cfg.kind with
    | ard => rfl
    | mrd => rfl
    | unused => exact absurd hk unused
    | hootLeg => exact (passes (admission_hootLeg hk)).elim
  have sound : (s.line l).state ≠ .fault := fun hf => passes (admission_fault wire hf)
  refine ⟨unused, sound, ?_, ?_⟩
  · by_contra hp
    exact passes (admission_private wire sound (by simpa using hp))
  · rintro rfl
    exact Nat.lt_of_not_le fun full => passes (admission_bridgeFull wire sound full)

/-! The table after a line request. -/

/-- R38, R55: the end of a line request, after the record `c` of handset `a` has joined the records `rest`. -/
theorem finishRequest_tableLawful {rest : List Conn} {changed : Bool} (taken : Does (requestOn l) s u)
    (joins : Joins s.assign s.outOfUse c rest) (perm : u.cxm.conns.Perm (c :: rest)) (hp : c.pos = p)
    (hx : c.place = handsetPlace a) (sub : rest ⊆ s.cxm.conns)
    (carried : ∀ x ∈ s.cxm.conns, x.pos = p → x.place = handsetPlace a → x ∈ rest) :
    (u.finishRequest p l (s.connAt p (handsetPlace a)) changed).tableLawful := by
  have lawful {v : State} (psc : v.psc = s.psc) (line : ∀ x, v.line x = s.line x)
      (h : TableLawful s.assign s.outOfUse v.cxm.conns) : v.tableLawful :=
    tableLawful_of (by rw [psc]) (fun x ho => by rwa [State.outOfUse, line x] at ho) h
  have line (x : LineNo) : u.line x = s.line x := taken.line x id
  unfold State.finishRequest
  split
  · next none =>
    have free (x : Conn) (hm : x ∈ rest) (hxp : x.pos = c.pos) (hxx : x.place = c.place) : False := by
      have := List.find?_eq_none.1 none x (sub hm)
      simp [hxp, hp, hxx, hx] at this
    exact (undisturbed_notify _ _ _).upholds.table
      (lawful taken.psc line ((joins.lawful fun x hm hxp hxx => free x hm hxp hxx).perm perm.symm))
  · next d hd =>
    obtain ⟨mem, pos, place⟩ := connAt_spec hd
    have shift : Does tableOnly u (u.displace p d) := does_displace_table u p d
    refine (undisturbed_notify _ _ _).upholds.table (lawful (shift.psc.trans taken.psc)
      (fun x => (shift.line x id).trans (line x)) ?_)
    rw [displace_conns]
    refine (joins.displaced (carried d mem pos place) (pos.trans hp.symm) (place.trans hx.symm) fun keep => ?_).perm
      (displacedTable_perm _ perm).symm
    have slot : u.holdSlots p < Config.holdRoom := by
      simp only [State.displacedHeld, Bool.and_eq_true, decide_eq_true_eq] at keep
      exact keep.2
    rw [holdSlots_eq, perm.countP_eq, ← hp] at slot
    exact (List.sublist_cons_self c rest).countP_le.trans_lt slot

/-- R63: a move and a retrieve keep the laws of the table. -/
theorem bringConn_tableLawful (law : s.tableLawful) (take : Takeable s p a l c) (kind : ConnectKind) (cause : ConnectCause) :
    (s.bringConn p a c kind cause).tableLawful := by
  obtain ⟨mem, rfl, rfl, handset, elsewhere⟩ := take
  have front := law.front mem
  have joins : Joins s.assign s.outOfUse { c with place := handsetPlace a } (s.cxm.conns.erase c) :=
    ⟨law.sublist List.erase_sublist, handsetPlace_isUnheld a, front.apart.2 handset, front.room handset, law.inUse c mem⟩
  rw [bringConn_eq]
  refine finishRequest_tableLawful (brought_taken kind cause mem).does joins ?_ rfl rfl List.erase_subset
    fun x hx _ hxa => (List.mem_erase_of_ne fun e : x = c => elsewhere (e ▸ hxa)).2 hx
  rw [brought_conns]
  exact map_replace_perm law.nodup mem

/-- R62: the new record of an admitted request on `l` among the records `rest` that stay. -/
theorem newConn_joins {rest : List Conn} (law : s.tableLawful) (hs : s.strange p l) (sub : rest.Sublist s.cxm.conns)
    (room : rest.countP (Conn.onBridge l) < Config.bridgeRoom) (inUse : ¬ s.outOfUse l) :
    Joins s.assign s.outOfUse (s.newConn p a l) rest :=
  ⟨law.sublist sub, handsetPlace_isUnheld a, fun x hx => hs x (sub.subset hx), room, inUse⟩

theorem pickup_tableLawful (law : s.tableLawful) (adm : Admitted s t) (inUse : ¬ s.outOfUse l)
    (hc : s.classify p a l = .pickup c) : (t.pickup p a l c).tableLawful := by
  obtain ⟨here, other⟩ := classify_pickup hc
  obtain ⟨mem, rfl, handset⟩ := (mem_bridge s _).1 here
  have joins : Joins s.assign s.outOfUse (s.newConn p a c.line) (s.cxm.conns.erase c) :=
    newConn_joins law (classify_adds (.inr ⟨c, hc⟩)) List.erase_sublist ((law.front mem).room handset) inUse
  rw [pickup_eq, adm.connAt]
  refine finishRequest_tableLawful ((adm.onRequest _).trans does_pickedUp) joins ?_ rfl rfl List.erase_subset
    fun x hx hxp _ => (List.mem_erase_of_ne fun e : x = c => other (e ▸ hxp)).2 hx
  rw [pickedUp_conns, adm.cxm, adm.newConn]
  exact List.perm_append_comm

theorem connect_tableLawful (law : s.tableLawful) (adm : Admitted s t) (inUse : ¬ s.outOfUse l) (hs : s.strange p l)
    (room : (s.bridge l).length < Config.bridgeRoom) : (t.connect p a l).tableLawful := by
  rw [bridge_length] at room
  rw [connect_eq, adm.connAt]
  refine finishRequest_tableLawful ((adm.onRequest _).trans does_connected)
    (newConn_joins (a := a) law hs (.refl _) room inUse) ?_ rfl rfl (List.Subset.refl _) fun x hx _ _ => hx
  rw [connected_conns, adm.cxm, adm.newConn]
  exact List.perm_append_comm

/-! The flags after a line request. -/

theorem changeConn_privacyLawful {c' : Conn} (hl : c'.line = c.line) (hh : c'.place.isHandset = c.place.isHandset)
    (law : s.privacyLawful) : (s.changeConn c c').privacyLawful :=
  privacyLawful_of_counts (s := s) rfl (fun l => map_countP _ _ (by simp only [Conn.onBridge, hl, hh])) law

theorem finishRequest_privacyLawful {changed : Bool} (law : u.privacyLawful) :
    (u.finishRequest p l (s.connAt p (handsetPlace a)) changed).privacyLawful := by
  unfold State.finishRequest
  split
  · exact (undisturbed_notify _ _ _).upholds.privacy law
  · next d hd =>
    obtain ⟨-, -, place⟩ := connAt_spec hd
    refine (undisturbed_notify _ _ _).upholds.privacy ?_
    unfold State.displace
    split
    · refine (undisturbed_raiseRunning _ _).upholds.privacy (changeConn_privacyLawful rfl ?_ law)
      rw [place, handsetPlace_isHandset]
      rfl
    · exact dropConns_privacyLawful _ law

theorem bringConn_privacyLawful (law : s.privacyLawful) (take : Takeable s p a l c) (kind : ConnectKind)
    (cause : ConnectCause) : (s.bringConn p a c kind cause).privacyLawful := by
  rw [bringConn_eq]
  refine finishRequest_privacyLawful ((undisturbed_raiseRunning _ _).upholds.privacy (changeConn_privacyLawful rfl ?_ law))
  rw [take.handset]
  exact handsetPlace_isHandset a

/-- R64: a pickup puts one handset record for another. -/
theorem pickup_privacyLawful (law : s.privacyLawful) (hc : c ∈ s.bridge l) : (s.pickup p a l c).privacyLawful := by
  obtain ⟨mem, rfl, handset⟩ := (mem_bridge s l).1 hc
  rw [pickup_eq]
  refine finishRequest_privacyLawful (privacyLawful_of_counts pickedUp_privacy (fun x => ?_) law)
  have same : (s.newConn p a c.line).onBridge x = c.onBridge x := by
    rw [Conn.onBridge, Conn.onBridge, handset,
      show (s.newConn p a c.line).place.isHandset = true from handsetPlace_isHandset a]
    rfl
  rw [pickedUp_conns, (List.perm_append_comm).countP_eq, List.singleton_append, List.countP_cons, same,
    ← List.countP_cons, (List.perm_cons_erase mem).countP_eq]

/-- R57, R59: a position without a handset on an EXCLUSIVE line is not let in. -/
theorem open_of_strange (law : s.privacyLawful) (hs : s.strange p l) (shared : s.privateFrom l p = false) :
    s.cxm.privacy[l] = false := by
  by_contra hp
  rw [Bool.not_eq_false] at hp
  obtain ⟨x, hx⟩ := List.length_eq_one_iff.1 (law l hp)
  obtain ⟨mem, line, handset⟩ := (mem_bridge s l).1 (hx ▸ List.mem_singleton_self x)
  have exclusive : s.share l = .exclusive x.pos := by rw [share_one hx, hp]; rfl
  by_cases pos : x.pos = p
  · rw [hs x mem pos line] at handset
    cases handset
  · rw [privateFrom_eq_true exclusive pos] at shared
    cases shared

theorem connect_privacyLawful (law : s.privacyLawful) (isOpen : s.cxm.privacy[l] = false) :
    (s.connect p a l).privacyLawful := by
  rw [connect_eq]
  refine finishRequest_privacyLawful fun x hp => ?_
  by_cases hx : x = l
  · subst hx
    rw [connected_privacy, isOpen, Bool.false_or, Bool.and_eq_true, List.isEmpty_iff] at hp
    rw [State.bridge, connected_lineConns, List.filter_append, show (s.lineConns x).filter _ = [] from hp.1]
    simp [State.newConn, handsetPlace_isHandset]
  · have bridge : (s.connected p a l).bridge x = s.bridge x := bridge_congr (connected_taken.elsewhere x hx)
    rw [bridge]
    exact law x ((does_connected.privacy x hx).symm.trans hp)

/-- R37, R51, R57: a line request upholds the laws, those of the table where the DISABLED lines are those of kind UNUSED. -/
theorem lineRequest_tableLawful (s : State) (p : PosNo) (a : Handset) (l : LineNo) (k : KeyNo) (unused : s.disabledIsUnused)
    (law : s.tableLawful) : (s.lineRequest p a l k).tableLawful := by
  have deny (r : DenyReason) (x : DenyTarget) : (s.deny p k r x).tableLawful := (undisturbed_deny s p k r x).upholds.table law
  have inUse {t : State} {gone : Option Conn} (h : s.admission p l gone = .ok t) : ¬ s.outOfUse l := by
    obtain ⟨kind, sound, -⟩ := admission_ok h
    exact fun ho => ho.elim sound fun hd => kind ((unused l).1 hd)
  unfold State.lineRequest
  split
  · unfold State.lateLineRequest
    split <;> exact deny _ _
  split
  · exact law
  · next c hc => exact bringConn_tableLawful law (classify_moves (.inl hc)) _ _
  · next c hc => exact bringConn_tableLawful law (classify_moves (.inr hc)) _ _
  · next c hc =>
    split
    · exact deny _ _
    · next t ht => exact pickup_tableLawful law (admission_admitted ht) (inUse ht) hc
  · next hc =>
    split
    · exact deny _ _
    · next t ht =>
      obtain ⟨-, -, -, room⟩ := admission_ok ht
      exact connect_tableLawful law (admission_admitted ht) (inUse ht) (classify_adds (.inl hc)) (room rfl)

theorem lineRequest_privacyLawful (s : State) (p : PosNo) (a : Handset) (l : LineNo) (k : KeyNo) (law : s.privacyLawful) :
    (s.lineRequest p a l k).privacyLawful := by
  have deny (r : DenyReason) (x : DenyTarget) : (s.deny p k r x).privacyLawful :=
    (undisturbed_deny s p k r x).upholds.privacy law
  have admitted {t : State} {gone : Option Conn} (h : s.admission p l gone = .ok t) : t.cxm = s.cxm := (admission_admitted h).cxm
  unfold State.lineRequest
  split
  · unfold State.lateLineRequest
    split <;> exact deny _ _
  split
  · exact law
  · next c hc => exact bringConn_privacyLawful law (classify_moves (.inl hc)) _ _
  · next c hc => exact bringConn_privacyLawful law (classify_moves (.inr hc)) _ _
  · next c hc =>
    split
    · exact deny _ _
    · next t ht =>
      refine pickup_privacyLawful (privacyLawful_congr (admitted ht) law) ?_
      rw [bridge_of_conns (congrArg Cxm.conns (admitted ht))]
      exact (classify_pickup hc).1
  · next hc =>
    split
    · exact deny _ _
    · next t ht =>
      obtain ⟨-, -, shared, -⟩ := admission_ok ht
      refine connect_privacyLawful (privacyLawful_congr (admitted ht) law) ?_
      rw [admitted ht]
      exact open_of_strange law (classify_adds (.inl hc)) shared

end

end Sys2Proof.Machine

namespace Sys2Proof.Machine

/-! #### Keys of the Connection Manager (R57, R58, R65, R66, R71) -/

section
variable (s : State) (p : PosNo) (a : Handset) (k : KeyNo)

theorem upholds_deny (r : DenyReason) (x : DenyTarget) : Upholds s (s.deny p k r x) := (undisturbed_deny s p k r x).upholds

theorem upholds_releaseKey : Upholds s (s.releaseKey p a k) := by
  unfold State.releaseKey
  split
  · exact upholds_removeConns _ s _
  · exact upholds_deny s p k _ _

theorem upholds_hookRelease : Upholds s (s.hookRelease p a) := by
  unfold State.hookRelease
  split
  · exact upholds_removeConns _ s _
  · exact .refl s

/-- R65: a handset record goes to HOLD where a slot is free. -/
theorem upholds_putOnHold {s : State} {c : Conn} (mem : c ∈ s.cxm.conns) (handset : c.place.isHandset = true)
    (slot : s.holdSlots c.pos < Config.holdRoom) : Upholds s (s.putOnHold c) := by
  refine Does.upholds does_putOnHold (fun law => ?_) (privacyLawful_of_counts putOnHold_privacy fun l => ?_)
  · rw [putOnHold_conns]
    refine ((law.front mem).replace handset rfl (fun _ _ _ _ => rfl) fun _ => ?_).perm (map_replace_perm law.nodup mem).symm
    rw [holdSlots_eq] at slot
    exact (List.erase_sublist.countP_le).trans_lt slot
  · rw [putOnHold_conns]
    exact map_countP _ _ (by rw [Conn.onBridge, Conn.onBridge, handset]; rfl)

theorem upholds_holdKey : Upholds s (s.holdKey p a k) := by
  unfold State.holdKey
  split
  · exact upholds_deny s p k _ _
  · next c hc =>
    obtain ⟨mem, rfl, place⟩ := connAt_spec hc
    split
    · exact upholds_deny s _ k _ _
    · next room =>
      exact (upholds_putOnHold mem (by rw [place]; exact handsetPlace_isHandset a) (Nat.lt_of_not_le room)).trans
        (undisturbed_notify _ _ _).upholds

/-- R57: a flag is set on a line with one handset connection, or cleared. -/
theorem upholds_setPrivacy (l : LineNo) (b : Bool) (h : b = true → (s.bridge l).length = 1) : Upholds s (s.setPrivacy l b) := by
  refine Does.upholds ((Update.privacy s l b).does trivial) id fun law x hp => ?_
  by_cases hx : l = x
  · subst hx
    exact h (by simpa [State.setPrivacy] using hp)
  · exact law x (by simpa [State.setPrivacy, Fin.val_ne_of_ne hx] using hp)

theorem upholds_privacyKey : Upholds s (s.privacyKey p a k) := by
  unfold State.privacyKey
  split
  · exact upholds_deny s p k _ _
  · next c hc =>
    obtain ⟨mem, -, place⟩ := connAt_spec hc
    have here : c ∈ s.bridge c.line := (mem_bridge s c.line).2 ⟨mem, rfl, by rw [place]; exact handsetPlace_isHandset a⟩
    split
    · next sole =>
      refine (upholds_setPrivacy s c.line true fun _ => ?_).trans (undisturbed_raiseRunning _ _).upholds
      rw [bridge_one (.inl sole) here]
      rfl
    · exact (upholds_setPrivacy s c.line false fun h => by cases h).trans (undisturbed_raiseRunning _ _).upholds
    · exact upholds_deny s p k _ _
    · exact .refl s

theorem setTalk_seat (p : PosNo) (c : SpkNo) (b : Bool) (x : Conn) :
    (Conn.setTalk p c b x).line = x.line ∧ (Conn.setTalk p c b x).pos = x.pos ∧ (Conn.setTalk p c b x).place = x.place := by
  unfold Conn.setTalk
  split <;> exact ⟨rfl, rfl, rfl⟩

/-- The laws of a table read lines, positions and places. -/
theorem TableLawful.map {assign : PosNo → SpkNo → Assign} {out : LineNo → Prop} {cs : List Conn} (h : TableLawful assign out cs)
    {f : Conn → Conn} (hf : ∀ x, (f x).line = x.line ∧ (f x).pos = x.pos ∧ (f x).place = x.place) :
    TableLawful assign out (cs.map f) where
  places := List.pairwise_map.2 (h.places.imp fun {c d} hcd => by
    obtain ⟨-, hp, hx⟩ := hf c; obtain ⟨-, hq, hy⟩ := hf d; rwa [hp, hx, hq, hy])
  handsets := List.pairwise_map.2 (h.handsets.imp fun {c d} hcd => by
    obtain ⟨hl, hp, hx⟩ := hf c; obtain ⟨hm, hq, hy⟩ := hf d; rwa [hl, hp, hx, hm, hq, hy])
  assigned := List.forall_mem_map.2 fun c hc => by obtain ⟨hl, hp, hx⟩ := hf c; rw [hl, hp, hx]; exact h.assigned c hc
  bridges l := by
    rw [List.countP_map, show Conn.onBridge l ∘ f = Conn.onBridge l from funext fun x => by
      obtain ⟨hl, -, hx⟩ := hf x; simp only [Function.comp, Conn.onBridge, hl, hx]]
    exact h.bridges l
  inUse := List.forall_mem_map.2 fun c hc => by obtain ⟨hl, -⟩ := hf c; rw [hl]; exact h.inUse c hc
  holds p := by
    rw [List.countP_map, show Conn.holdsFor p ∘ f = Conn.holdsFor p from funext fun x => by
      obtain ⟨-, hp, hx⟩ := hf x; simp only [Function.comp, Conn.holdsFor, hp, hx]]
    exact h.holds p

theorem upholds_speakerTalk (c : SpkNo) (b : Bool) : Upholds s (s.speakerTalk p c b) := by
  have seat := setTalk_seat p c b
  refine Does.upholds (does_speakerTalk trivial s p c b) (fun law => law.map seat) (privacyLawful_of_counts rfl fun l => ?_)
  show (s.cxm.conns.map (Conn.setTalk p c b)).countP _ = _
  rw [List.countP_map]
  exact List.countP_congr fun x _ => by
    obtain ⟨hl, -, hx⟩ := seat x
    simp only [Function.comp, Conn.onBridge, hl, hx]

end

/-! #### Lines (spec/01) -/

section
variable (s : State) (l : LineNo)

theorem upholds_exitFault (c : LineCause) : Upholds s (s.exitFault l c) := by
  have exit := faultExitState_cases s l
  exact (upholds_moveLine s l c (by obtain h | h | h := exit <;> rw [h] <;> simp)
    (by obtain h | h | h := exit <;> rw [h] <;> simp)).trans (upholds_makeLineMonitors _ l)

theorem upholds_testExit (c : LineCause) : Upholds s (s.testExit l c) := by
  unfold State.testExit
  exact .ite _ (upholds_exitFault s l c) (.refl s)

theorem upholds_startGuard : Upholds s (s.startGuard l) := by
  unfold State.startGuard
  exact .ite _ ((upholds_setLine s l _ (.inl (by rfl))).trans (upholds_testExit _ l _)) (upholds_setLine s l _ (.inl (by rfl)))

theorem upholds_farChange (old : FarSignal) (c : LineCause) : Upholds s (s.farChange l old c) := by
  have fault : Upholds s (s.enterFault l c) := upholds_enterFault s l c
  have cleared (x : LineState) : Upholds s (s.raiseRunning (.farCleared l x)) := (undisturbed_raiseRunning s _).upholds
  have ringing (r : LineRec) (h : r.state = (s.line l).state) : Upholds s (if (s.line l).far = .loss then s.enterFault l c
      else if (s.line l).far = .idle then s.farGone l else s.setLine l r) :=
    .ite _ fault (.ite _ (undisturbed_farGone s l).upholds (upholds_setLine s l r (.inl h)))
  unfold State.farChange
  simp only
  split
  · exact .refl s
  · exact .ite _ (upholds_setLine s l _ (.inl (by rfl))) (.ite _ (upholds_startGuard s l) (.refl s))
  · exact .ite _ fault (.ite _ (upholds_moveLine s l _ (by simp) (by simp)) (.refl s))
  · exact ringing _ rfl
  · exact ringing _ rfl
  · exact .ite _ fault (.ite _ (undisturbed_farAnswer s l).upholds (.refl s))
  · exact .ite _ fault (.ite _ (cleared _) (.refl s))
  · exact .ite _ fault (.ite _ (cleared _) (.refl s))

theorem upholds_farSignal (c : LineCause) (f : FarSignal) : Upholds s (s.farSignal c l f) := by
  have put : Upholds s (s.setLine l { s.line l with far := f }) := upholds_setLine s l _ (.inl (by rfl))
  unfold State.farSignal
  exact .ite _ (.refl s) (.ite _ (put.trans (upholds_farChange _ l _ c)) put)

theorem upholds_answerExpiry : Upholds s (s.answerExpiry l) := by
  unfold State.answerExpiry
  exact .ite _ ((upholds_setLine s l _ (.inl (by rfl))).trans (upholds_clearLineConns _ l _)) (.refl s)

theorem upholds_guardExpiry : Upholds s (s.guardExpiry l) := by
  unfold State.guardExpiry
  exact .ite _ ((upholds_setLine s l _ (.inl (by rfl))).trans (upholds_testExit _ l _)) (.refl s)

theorem upholds_lineExpiries (r : LineRec) : Upholds s (State.lineExpiries r s l) := by
  unfold State.lineExpiries
  refine .trans ?_ (.ite _ (upholds_guardExpiry _ l) (.refl _))
  refine .trans ?_ (.ite _ (undisturbed_hangExpiry _ l).upholds (.refl _))
  refine .trans ?_ (.ite _ (upholds_answerExpiry _ l) (.refl _))
  exact .ite _ (undisturbed_ringExpiry s l).upholds (.refl s)

theorem upholds_lineTimers : Upholds s s.lineTimers :=
  ((Update.ticks s).does (K := apart) trivial).undisturbed.upholds.trans
    (.foldl _ (fun t l => upholds_lineExpiries t l _) _ _)

theorem upholds_evaluate (c : LineCause) : Upholds s (s.evaluate l c) := by
  unfold State.evaluate
  exact .ite _ (upholds_enterFault s l c) (.ite _ (upholds_moveLine s l c (by simp) (by simp))
    (.ite _ (upholds_moveLine s l c (by simp) (by simp)) (.ite _ (upholds_moveLine s l c (by simp) (by simp)) (.refl s))))

theorem upholds_kindChanged (old : LineCfg) : Upholds s (s.kindChanged l old) := by
  unfold State.kindChanged
  refine .ite _ ((upholds_moveLine s l _ (by simp) (by simp)).trans (.ite _ ?_ (.refl _)))
    (.ite _ (upholds_moveLine_removeLine _ s l _ _) (.ite _ (upholds_evaluate s l _) (.refl s)))
  exact (upholds_evaluate _ l _).trans (upholds_makeLineMonitors _ l)

theorem upholds_lineCfgWritten (cfg : LineCfg) : Upholds s (s.lineCfgWritten l cfg) :=
  ((upholds_setLine s l _ (.inl (by rfl))).trans (upholds_kindChanged _ l _)).trans (upholds_testExit _ l _)

theorem upholds_clearFault : Upholds s (s.clearFault l) :=
  (upholds_setLine s l _ (.inl (by rfl))).trans (upholds_testExit _ l _)

end

/-! #### Positions (spec/02) -/

section
variable (s : State) (p : PosNo)

theorem upholds_setPosition (r : PositionRec) : Upholds s (s.setPosition p r) := (undisturbed_setPosition s p r).upholds

theorem upholds_goOnline : Upholds s (s.goOnline p) :=
  ((undisturbed_setPosition s p _).trans (undisturbed_raise _ _)).upholds.trans (upholds_makePositionMonitors _ p)

theorem upholds_goOffline (ps : List PosNo) : Upholds s (s.goOffline ps) :=
  ((upholds_removeConns _ s _).trans (does_talkOffline (K := apart) trivial trivial _ ps).undisturbed.upholds).trans
    (Undisturbed.foldl _ (fun s p => (undisturbed_setPosition s p _).trans (undisturbed_raise _ _)) ps _).upholds

theorem upholds_keyUp (b : Byte) : Upholds s (s.keyUp p b) := by
  have unpress (k : KeyNo) : Upholds s (s.unpress p k) := upholds_setPosition s p _
  unfold State.keyUp
  split
  · refine .ite _ ?_ (.refl s)
    unfold State.keyRelease
    split
    · unfold State.releasePressed
      split
      · exact (unpress _).trans (does_talkRelease (K := apart) trivial trivial _ _ _).undisturbed.upholds
      · exact (unpress _).trans (upholds_speakerTalk _ _ _ _)
    · exact .ite _ (undisturbed_raiseRunning s _).upholds (.refl s)
  · exact .refl s

theorem upholds_hookCell (b v : Byte) : Upholds s (s.hookCell p b v) := by
  unfold State.hookCell
  split
  · exact .refl s
  · refine .ite _ (.refl s) (.ite _ (upholds_setPosition s p _) (.ite _ ?_ (.refl s)))
    unfold State.putDown
    exact .ite _ ((upholds_setPosition s p _).trans (upholds_hookRelease _ _ _)) (upholds_setPosition s p _)

theorem upholds_levelCell (e : Byte) (v : U16) : Upholds s (s.levelCell p e v) := by
  unfold State.levelCell
  split
  · exact .ite _ (upholds_setPosition s p _) (.refl s)
  · exact .refl s

end

/-! #### The shelf hold and hold release (R72, R192, R193) -/

theorem upholds_holdShelf (s : State) : Upholds s s.holdShelf := by
  unfold State.holdShelf
  have emptied : Upholds s s.holdBlocks := ⟨rfl, fun _ => .nil, fun _ l hp => by simp [State.holdBlocks, Cxm.hold] at hp⟩
  have told : Undisturbed s.holdBlocks (({ s.holdBlocks with mga := { s.holdBlocks.mga with phase := .held } } : State).raise
      .switchingHeld) := .of_eq (by simp) (by simp) (by simp)
  exact .ite _ (emptied.trans told.upholds) (.refl s)

theorem upholds_releaseShelf (s : State) : Upholds s s.releaseShelf := by
  unfold State.releaseShelf
  refine .ite _ (.trans ?_ ((Upholds.foldl _ (fun s l => upholds_evaluate s l _) _ _).trans (upholds_makeAllMonitors _)))
    (.refl s)
  exact (Undisturbed.of_eq (by simp) (by simp) (by simp)).upholds

end Sys2Proof.Machine

namespace Sys2Proof.Machine

/-! #### Writes of speaker assignments (R32, R33) -/

section
variable {s : State} {p : PosNo} {c : SpkNo} {a : Assign}

theorem assignIndex_assign (i : Fin 256) : assignIndex (assignPos i) (assignSpk i) = i := Fin.ext (by
  show 8 * (i.val / 8) + i.val % 8 = i.val
  omega)

theorem reassigned_assign_ne {q : PosNo} {j : SpkNo} (h : ¬ (q = p ∧ j = c)) : (s.reassigned p c a).assign q j = s.assign q j := by
  have ne : (assignIndex p c).val ≠ (assignIndex q j).val := fun e => by
    obtain ⟨hp, hc⟩ := assignIndex_inj (Fin.ext e)
    exact h ⟨hp.symm, hc.symm⟩
  simp [State.reassigned, State.assign, ne]

theorem upholds_vacated (s : State) (p : PosNo) (c : SpkNo) : Upholds s (s.vacated p c) := by
  unfold State.vacated
  split
  · exact upholds_removeConns _ s _
  · exact .refl s

/-- R33: the place of a changed assignment carries no connection when the new one is stored. -/
theorem vacated_free (law : s.tableLawful) (x : Conn) (hx : x ∈ (s.vacated p c).cxm.conns) (hp : x.pos = p) :
    x.place ≠ .spk c := fun hc => by
  rw [vacated_conns] at hx
  split at hx
  · have gone := of_decide_eq_true (List.mem_filter.1 hx).2
    exact gone ⟨hp, hc⟩
  · next h => exact h x.line (hp ▸ law.assigned x hx c hc)

theorem reassigned_tableLawful (law : s.tableLawful) : ((s.vacated p c).reassigned p c a).tableLawful := by
  have kept : TableLawful (s.vacated p c).assign (s.vacated p c).outOfUse (s.vacated p c).cxm.conns :=
    (upholds_vacated s p c).table law
  refine { kept with assigned := fun x hx k hk => ?_ }
  rw [reassigned_assign_ne]
  · exact kept.assigned x hx k hk
  · rintro ⟨hp, rfl⟩
    exact vacated_free law x hx hp hk

theorem changeAssign_tableLawful (i : Fin 256) (law : s.tableLawful) : (s.changeAssign i a).tableLawful := by
  rw [← assignIndex_assign i, changeAssign_eq]
  exact (upholds_makeMonitors _ (List.nodup_singleton _)).table (reassigned_tableLawful law)

theorem changeAssign_privacyLawful (i : Fin 256) (law : s.privacyLawful) : (s.changeAssign i a).privacyLawful := by
  rw [← assignIndex_assign i, changeAssign_eq]
  exact (upholds_makeMonitors _ (List.nodup_singleton _)).privacy
    (privacyLawful_congr (s := s.vacated _ _) rfl ((upholds_vacated s _ _).privacy law))

theorem changeAssign_assigns (i : Fin 256) : (s.changeAssign i a).psc.assigns = s.psc.assigns.set i a := by
  rw [← assignIndex_assign i, changeAssign_eq, (upholds_makeMonitors _ (List.nodup_singleton _)).assigns]
  show (s.vacated _ _).psc.assigns.set _ a = _
  rw [(upholds_vacated s _ _).assigns]

theorem assignments_eq (s : State) (l : LineNo) : s.assignments l = s.psc.assigns.toList.countP (fun x => x = .line l) :=
  List.countP_eq_length_filter.symm

/-- R32: a write that is no seventeenth assignment of a line leaves at most 16. -/
theorem changeAssign_assignsFit {i : Fin 256} (room : s.assignFull i a = false) (new : s.psc.assigns[i] ≠ a)
    (fit : s.assignsFit) : (s.changeAssign i a).assignsFit := by
  intro l
  have le : s.assignments l ≤ Config.assignRoom := fit l
  rw [assignments_eq] at le
  have old : s.psc.assigns.toList[i.val]'(by simp) = s.psc.assigns[i] := by simp
  rw [assignments_eq, changeAssign_assigns, Vector.toList_set, List.countP_set (by simp), old]
  by_cases ha : a = .line l
  · subst ha
    have less : s.assignments l < Config.assignRoom := by
      simp only [State.assignFull, Bool.and_eq_false_iff, decide_eq_false_iff_not, not_not, new, false_or] at room
      exact Nat.lt_of_not_le room
    rw [assignments_eq] at less
    simp only [decide_eq_true_eq, new, if_false, if_true]
    omega
  · simp only [decide_eq_true_eq, ha, if_false]
    omega

end
end Sys2Proof.Machine

namespace Sys2Proof.Machine

/-! #### Every operation of a step -/

/-- As `Upholds`, the laws of the table where the DISABLED lines are those of kind UNUSED. -/
structure Obeys (s t : State) : Prop where
  assigns : t.psc.assigns = s.psc.assigns
  table : s.disabledIsUnused → s.tableLawful → t.tableLawful
  privacy : s.privacyLawful → t.privacyLawful

section
variable {s t : State}

theorem Upholds.obeys (h : Upholds s t) : Obeys s t := ⟨h.assigns, fun _ => h.table, h.privacy⟩

theorem Obeys.refl (s : State) : Obeys s s := (Upholds.refl s).obeys

theorem Obeys.of_eq (cxm : t.cxm = s.cxm) (assigns : t.psc.assigns = s.psc.assigns) (lnc : t.lnc = s.lnc) : Obeys s t :=
  (Undisturbed.of_eq cxm assigns lnc).upholds.obeys

theorem Does.obeys (h : Does apart s t) : Obeys s t := h.undisturbed.upholds.obeys

end

theorem lineRequest_obeys (s : State) (p : PosNo) (a : Handset) (l : LineNo) (k : KeyNo) : Obeys s (s.lineRequest p a l k) := by
  refine ⟨?_, lineRequest_tableLawful s p a l k, lineRequest_privacyLawful s p a l k⟩
  have deny (r : DenyReason) (x : DenyTarget) : (s.deny p k r x).psc.assigns = s.psc.assigns := (upholds_deny s p k r x).assigns
  have any : Calls (callsOn fun _ => True) fun _ => True := calls_callsOn _
  unfold State.lineRequest
  split
  · unfold State.lateLineRequest
    split <;> exact deny _ _
  split
  · rfl
  · rw [(does_bringConn any s _ _ _ _ _).psc]
  · rw [(does_bringConn any s _ _ _ _ _).psc]
  · split
    · exact deny _ _
    · next t ht => rw [(does_pickup any t _ _ _ _).psc, (admission_admitted ht).does.psc]
  · split
    · exact deny _ _
    · next t ht => rw [(does_connect any t _ _ _).psc, (admission_admitted ht).does.psc]

theorem keyDown_obeys (s : State) (p : PosNo) (b : Byte) : Obeys s (s.keyDown p b) := by
  have deny (k : KeyNo) (r : DenyReason) (x : DenyTarget) : Obeys s (s.deny p k r x) := (upholds_deny s p k r x).obeys
  have ring (l : LineNo) : Obeys s (s.ringRequest l) := (does_ringRequest (K := apart) trivial s l trivial).obeys
  have talk (k : KeyNo) (g : GroupNo) : Obeys s (s.talkKeyDown p k g) := (undisturbed_talkKeyDown s p k g).upholds.obeys
  unfold State.keyDown
  split
  · next k _ =>
    split
    · unfold State.keyAction
      simp only
      split
      · exact .refl s
      · exact lineRequest_obeys s _ _ _ _
      · exact (upholds_releaseKey s _ _ _).obeys
      · exact (upholds_holdKey s _ _ _).obeys
      · unfold State.ringKey
        split
        · exact deny _ _ _
        · split
          · exact ring _
          · exact deny _ _ _
      · exact (upholds_privacyKey s _ _ _).obeys
      · split
        · exact .refl s
        · exact talk _ _
      · split
        · exact .refl s
        · unfold State.speakerKeyDown
          split
          · exact talk _ _
          · split
            · exact ((upholds_setPosition s _ _).trans (upholds_speakerTalk _ _ _ _)).obeys
            · exact .refl s
          · exact .refl s
      · unfold State.recordKey
        split
        · exact deny _ _ _
        · exact (does_toggleDemand (K := apart) trivial s _ trivial).obeys
      · exact (undisturbed_raiseRunning s _).upholds.obeys
    · exact .refl s
  · exact .refl s

theorem intakeOp_obeys {s t : State} (h : IntakeOp s t) : Obeys s t ∨ ∃ i a, t = s.changeAssign i a := by
  cases h
  case changeAssign i a => exact .inr ⟨i, a, rfl⟩
  all_goals refine .inl ?_
  case lineCfg l cfg => exact (upholds_lineCfgWritten s l cfg).obeys
  case positionCfg p cfg => exact (undisturbed_storePositionCfg s p cfg).upholds.obeys
  case groupCfg g cfg => exact (undisturbed_storeGroupCfg s g cfg).upholds.obeys
  case storeGen n on m x c p => exact (does_storeGen (K := apart) trivial trivial s n on m x c p).obeys
  case policy b _ _ _ =>
    have put : Undisturbed s { s with prs := b } := .of_eq rfl rfl rfl
    exact (put.trans (does_reResolve (K := apart) trivial _ _).undisturbed).upholds.obeys
  case clearClip i => exact (does_clearClip (K := apart) trivial s i).obeys
  case clearFault l _ => exact (upholds_clearFault s l).obeys
  case triggerGen n => exact (does_triggerGen (K := apart) trivial s n).obeys
  case forceRelease l => exact (upholds_clearLineConns s l _).obeys
  case hold => exact (upholds_holdShelf s).obeys
  case release => exact (upholds_releaseShelf s).obeys
  case keyDown p b => exact keyDown_obeys s p b
  case keyUp p b => exact (upholds_keyUp s p b).obeys
  case hookCell p a b => exact (upholds_hookCell s p a b).obeys
  case levelCell p e v => exact (upholds_levelCell s p e v).obeys
  all_goals exact .of_eq rfl rfl rfl

theorem judgePort_psc (s : State) (n : PortNo) (good : Bool) : (s.judgePort n good).psc = s.psc := by
  unfold State.judgePort
  simp only
  split <;> simp

theorem judgePort_obeys (s : State) (n : PortNo) (good : Bool) : Obeys s (s.judgePort n good) :=
  .of_eq (judgePort_cxm s n good) (by rw [judgePort_psc]) (judgePort_lnc s n good)

theorem slotReadyIn_obeys (s : State) (i : ChanNo) (b : Bool) : Obeys s (s.slotReadyIn i b) := by
  have put : Undisturbed s { s with rcu := { s.rcu with slotReady := s.rcu.slotReady.set i b } } := .of_eq rfl rfl rfl
  exact (put.trans (does_readyChange (K := apart) trivial _ _ _).undisturbed).upholds.obeys

theorem periodOp_obeys {s t : State} (h : PeriodOp s t) : Obeys s t ∨ ∃ i a, t = s.changeAssign i a := by
  cases h
  case intake h => exact intakeOp_obeys h
  all_goals refine .inl ?_
  case countClip i => exact (does_countClip (K := apart) trivial s i).obeys
  case advanceTones => exact (does_advanceTones (K := apart) trivial s).obeys
  case closeSteps => exact (does_closeSteps (K := apart) trivial trivial s).obeys
  case judgePort n good => exact judgePort_obeys s n good
  case farSignal c l f => exact (upholds_farSignal s l c f).obeys
  case goOnline p => exact (upholds_goOnline s p).obeys
  case goOffline ps => exact (upholds_goOffline s ps).obeys
  case recorderLost => exact (does_recorderLost (K := apart) trivial s).obeys
  case recorderBack => exact (does_recorderBack (K := apart) trivial trivial s).obeys
  case slotReadyIn i b => exact slotReadyIn_obeys s i b
  all_goals exact .of_eq rfl rfl rfl

theorem endInit_obeys (s : State) : Obeys s s.endInit := by
  unfold State.endInit
  split
  · exact .of_eq (by simp) (by simp) (by simp)
  · exact .refl s

/-- R32, R191: an operation of a step obeys the laws and leaves the speaker assignments, but for a write of an assignment and
a hard reset. -/
theorem stepOp_obeys {s t : State} (h : StepOp s t) :
    Obeys s t ∨ (∃ i a, t = s.changeAssign i a) ∨ ∃ m, t = s.hardReset m := by
  cases h
  case period h => exact (periodOp_obeys h).imp_right .inl
  case hardReset m => exact .inr (.inr ⟨m, rfl⟩)
  all_goals refine .inl ?_
  case endInit => exact endInit_obeys s
  case stepGens => exact (does_stepGens (K := apart) trivial trivial s).obeys
  case lineTimers => exact (upholds_lineTimers s).obeys
  case timeoutStep gs _ => exact (does_timeoutStep (K := apart) trivial trivial s gs).obeys
  case wrapGen n => exact (does_wrapGen (K := apart) trivial trivial s n).obeys
  case completeGen n => exact (does_completeGen (K := apart) trivial trivial s n).obeys
  case ringExpiry l => exact (undisturbed_ringExpiry s l).upholds.obeys
  case answerExpiry l => exact (upholds_answerExpiry s l).obeys
  case hangExpiry l => exact (undisturbed_hangExpiry s l).upholds.obeys
  case guardExpiry l => exact (upholds_guardExpiry s l).obeys
  case closeExpiry c _ => exact (does_closeExpiry (K := apart) trivial trivial s c).obeys
  case lineRequest p a l k _ => exact lineRequest_obeys s p a l k
  case releaseKey p a k _ => exact (upholds_releaseKey s p a k).obeys
  case hookRelease p a _ => exact (upholds_hookRelease s p a).obeys
  case holdKey p a k _ => exact (upholds_holdKey s p a k).obeys
  case privacyKey p a k _ => exact (upholds_privacyKey s p a k).obeys
  case speakerTalk p c b _ => exact (upholds_speakerTalk s p c b).obeys
  case ringRequest l => exact (does_ringRequest (K := apart) trivial s l trivial).obeys
  case toggleDemand l _ => exact (does_toggleDemand (K := apart) trivial s l trivial).obeys
  case talkRequest p g c k _ => exact (undisturbed_talkRequest s p g c k).upholds.obeys
  case talkRelease p g _ => exact (does_talkRelease (K := apart) trivial trivial s p g).obeys
  case storeSamples f => exact .of_eq (by simp only [State.storeSamples]) (by simp only [State.storeSamples]) (by simp only [State.storeSamples])
  all_goals exact .of_eq rfl rfl rfl

theorem hardReset_tableLawful (s : State) (m : QuadNo) : (s.hardReset m).tableLawful := .nil

theorem hardReset_privacyLawful (s : State) (m : QuadNo) : (s.hardReset m).privacyLawful := fun l hp => by
  simp [State.hardReset, State.atReset, Cxm.reset] at hp

theorem stepOp_tableLawful {s t : State} (h : StepOp s t) (unused : s.disabledIsUnused) (law : s.tableLawful) : t.tableLawful := by
  obtain obeys | ⟨i, a, rfl⟩ | ⟨m, rfl⟩ := stepOp_obeys h
  · exact obeys.table unused law
  · exact changeAssign_tableLawful i law
  · exact hardReset_tableLawful s m

theorem stepOp_privacyLawful {s t : State} (h : StepOp s t) (law : s.privacyLawful) : t.privacyLawful := by
  obtain obeys | ⟨i, a, rfl⟩ | ⟨m, rfl⟩ := stepOp_obeys h
  · exact obeys.privacy law
  · exact changeAssign_privacyLawful i law
  · exact hardReset_privacyLawful s m

end Sys2Proof.Machine

namespace Sys2Proof.Machine

/-! #### The number of assignments of a line (R32)

`IntakeOp.changeAssign` does not say that its write passed check 4 of R32, so the bound is followed from the request to the
step by the functions that lead there. -/

/-- What an owner makes of a request that is no write of a speaker assignment. -/
def Verdict.sameAssigns (v : Verdict) (s : State) : Prop := v.state.psc.assigns = s.psc.assigns

section
variable (s : State) (i : U16)

theorem sameAssigns_refuse (c : ResultCode) : (s.refuse c).sameAssigns s := rfl

theorem judgeLineCfg_assigns (e : LineEntry) : (s.judgeLineCfg i e).sameAssigns s := by
  unfold State.judgeLineCfg
  repeat' first | exact sameAssigns_refuse s _ | split
  unfold State.storeLineCfg
  simp only
  split_ifs
  · exact sameAssigns_refuse s _
  · exact sameAssigns_refuse s _
  · exact (upholds_lineCfgWritten s _ _).assigns

theorem judgePositionCfg_assigns (e : PositionEntry) : (s.judgePositionCfg i e).sameAssigns s := by
  unfold State.judgePositionCfg
  repeat' first | exact sameAssigns_refuse s _ | exact (undisturbed_storePositionCfg s _ _).assigns | split

theorem judgeKeyMap_assigns (e : KeyEntry) : (s.judgeKeyMap i e).sameAssigns s := by
  unfold State.judgeKeyMap
  repeat' first | rfl | split

theorem judgeLampStyle_assigns (e : LampEntry) : (s.judgeLampStyle i e).sameAssigns s := by
  unfold State.judgeLampStyle
  repeat' first | rfl | split

theorem judgeGroupCfg_assigns (e : GroupEntry) : (s.judgeGroupCfg i e).sameAssigns s := by
  unfold State.judgeGroupCfg
  repeat' first | exact sameAssigns_refuse s _ | exact (undisturbed_storeGroupCfg s _ _).assigns | split

theorem judgeCgCfg_assigns (e : CgEntry) : (s.judgeCgCfg i e).sameAssigns s := by
  unfold State.judgeCgCfg
  repeat' first
    | exact sameAssigns_refuse s _
    | exact (does_storeGen (K := apart) trivial trivial s _ _ _ _ _ _).obeys.assigns
    | split

theorem judgeTone_assigns (e : ToneEntry) : (s.judgeTone i e).sameAssigns s := by
  unfold State.judgeTone
  split
  · rfl
  · split
    · exact sameAssigns_refuse s _
    · rfl

theorem reResolveTables_psc : s.reResolveTables.psc = s.psc := by
  rw [State.reResolveTables, (does_reResolve_only s _).psc]

/-- R140: a write of a policy table re-resolves, and does no more. -/
theorem sameAssigns_reResolveTables (b : Prs) :
    (({ s with prs := b } : State).reResolveTables.accept false).sameAssigns s := by
  rw [Verdict.sameAssigns, accept_state, reResolveTables_psc]

theorem judgePolicyCtrl_assigns (e : PolicyCtrlEntry) : (s.judgePolicyCtrl i e).sameAssigns s := by
  unfold State.judgePolicyCtrl
  split
  · exact sameAssigns_refuse s _
  · split
    · exact sameAssigns_reResolveTables s _
    · exact sameAssigns_refuse s _

theorem judgePolicyFixed_assigns (c : Byte) : (s.judgePolicyFixed i c).sameAssigns s := by
  unfold State.judgePolicyFixed
  split
  · exact sameAssigns_refuse s _
  · split
    · exact sameAssigns_reResolveTables s _
    · exact sameAssigns_refuse s _

theorem judgePolicyRange_assigns (e : PolicyRangeEntry) : (s.judgePolicyRange i e).sameAssigns s := by
  unfold State.judgePolicyRange
  split
  · exact sameAssigns_refuse s _
  · split
    · split
      · split
        · exact sameAssigns_refuse s _
        · exact sameAssigns_reResolveTables s _
      · exact sameAssigns_refuse s _
    · exact sameAssigns_refuse s _

theorem judgeRecMode_assigns (m : Byte) : (s.judgeRecMode i m).sameAssigns s := by
  unfold State.judgeRecMode
  repeat' first | rfl | split

theorem judgeReadState_assigns (clear : Bool) (k : Byte) : (s.judgeReadState clear k i).sameAssigns s := by
  unfold State.judgeReadState
  split
  · rfl
  · rfl
  · show (if _ then s.clearClip i.toNat else s).psc.assigns = s.psc.assigns
    split
    · exact (does_clearClip (K := apart) trivial s i.toNat).obeys.assigns
    · rfl

theorem judgeClearFault_assigns : (s.judgeClearFault i).sameAssigns s := by
  unfold State.judgeClearFault
  repeat' first | exact sameAssigns_refuse s _ | exact (upholds_clearFault s _).assigns | split

theorem judgeTrigger_assigns (c : Byte) : (s.judgeTrigger c).sameAssigns s := by
  unfold State.judgeTrigger
  repeat' first
    | exact sameAssigns_refuse s _
    | exact (does_triggerGen (K := apart) trivial s _).obeys.assigns
    | split

theorem judgeForceRelease_assigns : (s.judgeForceRelease i).sameAssigns s := by
  unfold State.judgeForceRelease
  repeat' first | exact sameAssigns_refuse s _ | exact (upholds_clearLineConns s _ _).assigns | split

theorem judgeEventMode_assigns (c m : Byte) : (s.judgeEventMode c m).sameAssigns s := by
  unfold State.judgeEventMode
  repeat' first | rfl | split

theorem judgeAck_assigns (c : Byte) : (s.judgeAck c).sameAssigns s := by
  unfold State.judgeAck
  repeat' first | rfl | split

/-- R32: a write of a speaker assignment passes check 4 or changes nothing. -/
theorem judgeSpeakerAssign_fits (e : AssignEntry) (fit : s.assignsFit) : (s.judgeSpeakerAssign i e).state.assignsFit := by
  unfold State.judgeSpeakerAssign
  split
  · exact fit
  · split
    · exact fit
    · exact fit
    · split
      · exact fit
      · next room =>
        split
        · exact fit
        · next new => exact changeAssign_assignsFit (by simpa using room) new fit

end

section
variable {s t : State}

theorem assignsFit_of_assigns (h : t.psc.assigns = s.psc.assigns) (fit : s.assignsFit) : t.assignsFit := fun l => by
  rw [State.assignments, h]
  exact fit l

theorem request_fits (kind : Byte) (tag : U16) {judge : State → Verdict} (h : (judge s).state.assignsFit) (fit : s.assignsFit) :
    (s.request kind tag judge).assignsFit := by
  unfold State.request
  repeat' first | exact fit | exact h | split

theorem badRequest_fits (kind : Byte) (tag : U16) (fit : s.assignsFit) : (s.badRequest kind tag).assignsFit := by
  unfold State.badRequest
  split <;> exact fit

/-- R32: every request keeps the bound. -/
theorem takeRequest_fits (i : Instr) (fit : s.assignsFit) : (s.takeRequest i).assignsFit := by
  have same {kind : Byte} {tag : U16} {judge : State → Verdict} (h : (judge s).sameAssigns s) :
      (s.request kind tag judge).assignsFit := request_fits kind tag (assignsFit_of_assigns h fit) fit
  cases i
  case readEntry tag x i => exact same (congrArg (fun x : State => x.psc.assigns) (intake_readEntry s x i))
  case writeLineCfg => exact same (judgeLineCfg_assigns s _ _)
  case writePositionCfg => exact same (judgePositionCfg_assigns s _ _)
  case writeKeyMap => exact same (judgeKeyMap_assigns s _ _)
  case writeSpeakerAssign => exact request_fits _ _ (judgeSpeakerAssign_fits s _ _ fit) fit
  case writeLampStyle => exact same (judgeLampStyle_assigns s _ _)
  case writeGroupCfg => exact same (judgeGroupCfg_assigns s _ _)
  case writeCgCfg => exact same (judgeCgCfg_assigns s _ _)
  case writeTone tag i e =>
    unfold State.takeRequest State.takeTone
    simp only
    split
    · exact same (judgeTone_assigns s _ _)
    · exact badRequest_fits _ _ fit
  case writePolicyCtrl => exact same (judgePolicyCtrl_assigns s _ _)
  case writePolicyFixed => exact same (judgePolicyFixed_assigns s _ _)
  case writePolicyRange => exact same (judgePolicyRange_assigns s _ _)
  case writeRecMode => exact same (judgeRecMode_assigns s _ _)
  case readState => exact same (judgeReadState_assigns s _ _ _)
  case clearFault => exact same (judgeClearFault_assigns s _)
  case trigger => exact same (judgeTrigger_assigns s _)
  case forceRelease => exact same (judgeForceRelease_assigns s _)
  case setEventMode => exact same (judgeEventMode_assigns s _ _)
  case readSummary tag c => exact same (congrArg (fun x : State => x.psc.assigns) (intake_summary s c))
  case ackClass => exact same (judgeAck_assigns s _)
  case setLaneRatio => exact same rfl
  case hold => exact same (upholds_holdShelf s).assigns
  case holdRelease => exact same (upholds_releaseShelf s).assigns
  case malformedRequest => exact badRequest_fits _ _ fit
  case unknownTableWrite => exact same rfl
  all_goals exact fit

end

end Sys2Proof.Machine

namespace Sys2Proof.Machine

/-! #### The number of assignments of a line over a step -/

section
variable {s t : State}

theorem Obeys.fits (h : Obeys s t) (fit : s.assignsFit) : t.assignsFit := assignsFit_of_assigns h.assigns fit

/-- A fold of functions that keep the bound keeps it. -/
theorem foldl_fits {α : Type} (f : State → α → State) (h : ∀ s a, s.assignsFit → (f s a).assignsFit) (l : List α)
    (fit : s.assignsFit) : (l.foldl f s).assignsFit :=
  List.foldlRecOn l f fit fun _ ih a _ => h _ a ih

/-! ##### The frames of a port -/

theorem takeConsole_fits (p : PosNo) (c : List Byte) (fit : s.assignsFit) : (s.takeConsole p c).assignsFit := by
  unfold State.takeConsole
  split
  · exact (keyDown_obeys s _ _).fits fit
  · exact (upholds_keyUp s _ _).obeys.fits fit
  · exact (upholds_hookCell s _ _ _).obeys.fits fit
  · exact (upholds_levelCell s _ _ _).obeys.fits fit
  · exact fit

theorem takeCell_fits (c : List Byte) (fit : s.assignsFit) : (s.takeCell c).assignsFit := by
  unfold State.takeCell
  split
  · exact takeRequest_fits _ fit
  · exact fit

theorem takeHandOver_fits (n : Nat) (fit : s.assignsFit) : (State.takeHandOver n s).assignsFit := by
  induction n generalizing s with
  | zero => exact fit
  | succ n ih =>
    unfold State.takeHandOver
    split
    · exact fit
    · exact ih (takeCell_fits _ fit)

theorem mgmtCells_fits (m : QuadNo) (cells : List (List Byte)) (fit : s.assignsFit) : (s.mgmtCells m cells).assignsFit := by
  unfold State.mgmtCells
  split
  · exact takeHandOver_fits _ fit
  · exact fit

theorem farSignals_fits (m : QuadNo) (v : Vector ChannelIn 128) (fit : s.assignsFit) : (s.farSignals m v).assignsFit :=
  foldl_fits _ (fun s _ => (upholds_farSignal s _ _ _).obeys.fits) _ fit

theorem linePortLost_fits (m : QuadNo) (fit : s.assignsFit) : (s.linePortLost m).assignsFit :=
  foldl_fits _ (fun s l => (upholds_farSignal s l _ _).obeys.fits) _ fit

theorem lineFrame_fits (m : QuadNo) (f : LineFrame) (fit : s.assignsFit) : (s.lineFrame m f).assignsFit := by
  have judged := (judgePort_obeys s (lpPort m) f.good).fits fit
  unfold State.lineFrame
  simp only
  split_ifs
  · exact linePortLost_fits m judged
  · exact mgmtCells_fits m _ (farSignals_fits m _ judged)
  · exact judged

theorem slotFrame_fits (p : PosNo) (x : SlotIn) (fit : s.assignsFit) : (s.slotFrame p x).assignsFit := by
  have cells {s : State} (fit : s.assignsFit) : (x.cells.foldl (fun s c => s.takeConsole p c) s).assignsFit :=
    foldl_fits _ (fun _ c => takeConsole_fits p c) _ fit
  have online {s : State} (fit : s.assignsFit) : (s.goOnline p).assignsFit := (upholds_goOnline s p).obeys.fits fit
  have offline {s : State} (fit : s.assignsFit) : (s.goOffline [p]).assignsFit := (upholds_goOffline s [p]).obeys.fits fit
  have placed : (s.setPresent p x.present).assignsFit := fit
  unfold State.slotFrame
  simp only
  split_ifs
  · exact cells (online placed)
  · exact cells (offline placed)
  · exact cells placed
  · exact online placed
  · exact offline placed
  · exact placed

theorem positionPortLost_fits (m : QuadNo) (fit : s.assignsFit) : (s.positionPortLost m).assignsFit :=
  (upholds_goOffline _ _).obeys.fits (foldl_fits (fun s p => s.setPresent p false) (fun _ _ => id) _ fit)

theorem positionFrame_fits (m : QuadNo) (f : PositionFrame) (fit : s.assignsFit) : (s.positionFrame m f).assignsFit := by
  have judged := (judgePort_obeys s (ppPort m) f.good).fits fit
  unfold State.positionFrame
  simp only
  split_ifs
  · exact positionPortLost_fits m judged
  · exact foldl_fits _ (fun _ _ => slotFrame_fits _ _) _ judged
  · exact judged

theorem readiesIn_fits (v : Vector Bool 128) (fit : s.assignsFit) : (s.readiesIn v).assignsFit :=
  foldl_fits _ (fun s i => (slotReadyIn_obeys s i _).fits) _ fit

theorem recorderFrame_fits (f : RecorderFrame) (fit : s.assignsFit) : (s.recorderFrame f).assignsFit := by
  have judged := (judgePort_obeys s recPort f.good).fits fit
  unfold State.recorderFrame
  simp only
  split_ifs
  · exact (does_recorderLost (K := apart) trivial _).obeys.fits judged
  · exact readiesIn_fits _ judged
  · exact readiesIn_fits _ ((does_recorderBack (K := apart) trivial trivial _).obeys.fits judged)
  · exact judged

/-! ##### The frame period -/

theorem takeFrames_fits (f : Inbound) (fit : s.assignsFit) : (s.takeFrames f).assignsFit := by
  have lines : ((List.finRange 4).foldl (fun s m => s.lineFrame m f.lines[m]) s).assignsFit :=
    foldl_fits _ (fun _ m => lineFrame_fits m _) _ fit
  unfold State.takeFrames
  generalize (List.finRange 4).foldl (fun s m => s.lineFrame m f.lines[m]) s = a at lines
  exact recorderFrame_fits _ (foldl_fits _ (fun _ m => positionFrame_fits m _) _ lines)

theorem mixFrame_fits (fit : s.assignsFit) : s.mixFrame.assignsFit := by
  have clips : (s.clipped.foldl State.countClip { s with lif := { s.lif with prepared := s.mixed } }).assignsFit :=
    foldl_fits _ (fun s i => (does_countClip (K := apart) trivial s i).obeys.fits) _ fit
  exact (does_closeSteps (K := apart) trivial trivial _).obeys.fits
    ((does_advanceTones (K := apart) trivial _).obeys.fits clips)

theorem ticks_fits (fit : s.assignsFit) : s.stepGens.lineTimers.denialSteps.talkTimeouts.assignsFit := by
  have gens : s.stepGens.assignsFit := (does_stepGens (K := apart) trivial trivial s).obeys.fits fit
  have timers : s.stepGens.lineTimers.assignsFit := (upholds_lineTimers _).obeys.fits gens
  generalize s.stepGens.lineTimers = a at timers
  have denials : a.denialSteps.assignsFit := assignsFit_of_assigns rfl timers
  exact (does_timeoutStep (K := apart) trivial trivial _ _).obeys.fits denials

theorem cadenceStep_fits (fit : s.assignsFit) : s.cadenceStep.assignsFit := by
  have clocked : ({ s with cdu := { s.cdu with clock := s.cdu.clock + 1 } } : State).assignsFit := fit
  unfold State.cadenceStep
  generalize ({ s with cdu := { s.cdu with clock := s.cdu.clock + 1 } } : State) = a at clocked
  simp only
  split
  · exact ticks_fits clocked
  · exact clocked

theorem periodStep_fits (fit : s.assignsFit) : s.periodStep.assignsFit := by
  unfold State.periodStep
  split
  · exact cadenceStep_fits fit
  · exact fit

theorem initBound_fits (fit : s.assignsFit) : s.initBound.assignsFit := by
  unfold State.initBound
  split
  · exact (endInit_obeys s).fits fit
  · exact fit

theorem framePeriod_fits (f : Inbound) (fit : s.assignsFit) : (s.framePeriod f).assignsFit := by
  have begun : (s.sendFrames.storeSamples f).assignsFit := fit
  unfold State.framePeriod
  refine initBound_fits (periodStep_fits ?_)
  split
  · exact takeFrames_fits f (mixFrame_fits begun)
  · exact mixFrame_fits (takeFrames_fits f begun)

/-! ##### The commands -/

theorem hardReset_fits (s : State) (m : QuadNo) : (s.hardReset m).assignsFit := fun l => by
  have assigns : (s.hardReset m).psc.assigns = .replicate 256 .none := rfl
  have none : (s.hardReset m).assignments l = 0 := by
    rw [State.assignments, assigns, Vector.toList_replicate, List.length_eq_zero_iff, List.filter_eq_nil_iff]
    intro a ha
    simp [List.eq_of_mem_replicate ha]
  omega

theorem live_fits {f : State → State} (h : live f s = .next t) (hf : s.assignsFit → (f s).assignsFit)
    (fit : s.assignsFit) : t.assignsFit := by
  obtain rfl := Host.Outcome.next.inj h
  split
  · exact fit
  · exact hf fit

theorem whileRunning_fits {f : State → State} (hf : s.assignsFit → (f s).assignsFit) (fit : s.assignsFit) :
    (whileRunning f s).assignsFit := by
  unfold whileRunning
  split
  · exact hf fit
  · exact fit

/-- R32: every command keeps the bound. -/
theorem exec_fits (c : Instr) (h : exec c s = .next t) (fit : s.assignsFit) : t.assignsFit := by
  cases c
  case hardReset m => obtain rfl := Host.Outcome.next.inj h; exact hardReset_fits s m
  case rstLow => obtain rfl := Host.Outcome.next.inj h; exact fit
  case initEnd => exact live_fits h (endInit_obeys s).fits fit
  case framePeriod f =>
    exact live_fits (f := fun s => s.framePeriod f) h (framePeriod_fits f) fit
  case cadenceStep => exact live_fits h cadenceStep_fits fit
  case generatorWrap n =>
    exact live_fits (f := fun s => s.wrapGen n) h (does_wrapGen (K := apart) trivial trivial s n).obeys.fits fit
  case oneshotCompletion n =>
    exact live_fits (f := fun s => s.completeGen n) h (does_completeGen (K := apart) trivial trivial s n).obeys.fits fit
  case ringTimerExpiry l =>
    exact live_fits (f := fun s => s.ringExpiry l) h (undisturbed_ringExpiry s l).upholds.obeys.fits fit
  case answerTimerExpiry l =>
    exact live_fits (f := fun s => s.answerExpiry l) h (upholds_answerExpiry s l).obeys.fits fit
  case hangTimerExpiry l =>
    exact live_fits (f := fun s => s.hangExpiry l) h (undisturbed_hangExpiry s l).upholds.obeys.fits fit
  case guardTimerExpiry l =>
    exact live_fits (f := fun s => s.guardExpiry l) h (upholds_guardExpiry s l).obeys.fits fit
  case denialExpiry p =>
    exact live_fits (f := fun s => s.endDenial p) h id fit
  case talkTimeout g =>
    exact live_fits (f := whileRunning fun s => s.timeoutStep [g]) h
      (whileRunning_fits (does_timeoutStep (K := apart) trivial trivial s [g]).obeys.fits) fit
  case closeCountExpiry c =>
    exact live_fits (f := whileRunning fun s => s.closeExpiry c) h
      (whileRunning_fits (does_closeExpiry (K := apart) trivial trivial s c).obeys.fits) fit
  case keyDown p b =>
    exact live_fits (f := fun s => s.keyDown p b) h (keyDown_obeys s p b).fits fit
  case keyUp p b =>
    exact live_fits (f := fun s => s.keyUp p b) h (upholds_keyUp s p b).obeys.fits fit
  case hook p a b =>
    exact live_fits (f := fun s => s.hookCell p a b) h (upholds_hookCell s p a b).obeys.fits fit
  case level p e v =>
    exact live_fits (f := fun s => s.levelCell p e v) h (upholds_levelCell s p e v).obeys.fits fit
  case lineRequest p a l k =>
    exact live_fits (f := whileRunning fun s => s.lineRequest p a l k) h
      (whileRunning_fits (lineRequest_obeys s p a l k).fits) fit
  case releaseRequest p a k =>
    exact live_fits (f := whileRunning fun s => s.releaseKey p a k) h
      (whileRunning_fits (upholds_releaseKey s p a k).obeys.fits) fit
  case hookRelease p a =>
    exact live_fits (f := whileRunning fun s => s.hookRelease p a) h
      (whileRunning_fits (upholds_hookRelease s p a).obeys.fits) fit
  case holdRequest p a k =>
    exact live_fits (f := whileRunning fun s => s.holdKey p a k) h
      (whileRunning_fits (upholds_holdKey s p a k).obeys.fits) fit
  case privacyToggle p a k =>
    exact live_fits (f := whileRunning fun s => s.privacyKey p a k) h
      (whileRunning_fits (upholds_privacyKey s p a k).obeys.fits) fit
  case speakerTalkSet p c b =>
    exact live_fits (f := whileRunning fun s => s.speakerTalk p c b) h
      (whileRunning_fits (upholds_speakerTalk s p c b).obeys.fits) fit
  case ringRequest l =>
    exact live_fits (f := fun s => s.ringRequest l) h (does_ringRequest (K := apart) trivial s l trivial).obeys.fits fit
  case demandToggle l =>
    exact live_fits (f := whileRunning fun s => s.toggleDemand l) h
      (whileRunning_fits (does_toggleDemand (K := apart) trivial s l trivial).obeys.fits) fit
  case talkRequest p g c k =>
    exact live_fits (f := whileRunning fun s => s.talkRequest p g c k) h
      (whileRunning_fits (undisturbed_talkRequest s p g c k).upholds.obeys.fits) fit
  case talkRelease p g =>
    exact live_fits (f := whileRunning fun s => s.talkRelease p g) h
      (whileRunning_fits (does_talkRelease (K := apart) trivial trivial s p g).obeys.fits) fit
  all_goals
    rw [exec_request _ _ (by trivial)] at h
    exact live_fits h (takeRequest_fits _) fit

theorem step_fits (h : step s = .next t) (fit : s.assignsFit) : t.assignsFit := by
  unfold step at h
  split at h
  · obtain rfl := Host.Outcome.next.inj h; exact fit
  · exact exec_fits _ h fit

/-- The laws of the connection table with the one they lean on: admission denies a line of kind UNUSED and asks for no state
DISABLED (R60), so a connection to a DISABLED line is kept out by R8's law. -/
def State.soundTable (s : State) : Prop := s.disabledIsUnused ∧ s.tableLawful

theorem stepOp_soundTable (h : StepOp s t) : s.soundTable → t.soundTable := fun ⟨unused, law⟩ =>
  ⟨stepOp_disabledIsUnused h unused, stepOp_tableLawful h unused law⟩

theorem step_soundTable (h : step s = .next t) (law : s.soundTable) : t.soundTable :=
  step_keeps (R := fun s t => s.soundTable → t.soundTable) (fun _ => id) (fun h k => k ∘ h)
    (fun _ _ => stepOp_soundTable) h law

theorem step_privacyLawful (h : step s = .next t) (law : s.privacyLawful) : t.privacyLawful :=
  step_keeps (R := fun s t => s.privacyLawful → t.privacyLawful) (fun _ => id) (fun h k => k ∘ h)
    (fun _ _ => stepOp_privacyLawful) h law

end

/-- Settles O5: the laws are those of the table, kept by every operation of a step, and the bound on the assignments of a line,
kept by every request; and a set privacy flag keeps its one handset connection through every operation. -/
theorem connectionLawsKept : Obligations.ConnectionLawsKept := by
  refine ⟨fun s t unused law h => ?_, fun s t law h => step_privacyLawful h law⟩
  obtain ⟨table, fit⟩ := connectionsLawful_iff.mp law
  obtain ⟨-, table⟩ := step_soundTable h ⟨unused, table⟩
  exact connectionsLawful_iff.mpr ⟨table, step_fits h fit⟩

end Sys2Proof.Machine

namespace Sys2Proof.Machine

/-! ### Forced release (O53) -/

section
variable {s : State} {l : LineNo} (cause : ConnectCause)

theorem clearLineConns_still (h : s.lineConns l = []) : s.clearLineConns l cause = s := by
  simp [State.clearLineConns, h]

theorem clearLineConns_eq (h : s.lineConns l ≠ []) :
    s.clearLineConns l cause = (s.removeLine l cause).makeLineMonitors l := by
  simp [State.clearLineConns, h]

theorem clearLineConns_lineConns (h : s.lineConns l ≠ []) :
    (s.clearLineConns l cause).lineConns l = (s.removeLine l cause).dueRecords l := by
  rw [clearLineConns_eq cause h, makeLineMonitors_lineConns, removeLine_lineConns, List.nil_append]

theorem clearLineConns_bridge (h : s.lineConns l ≠ []) : (s.clearLineConns l cause).bridge l = [] := by
  rw [State.bridge, clearLineConns_lineConns cause h, List.filter_eq_nil_iff]
  exact fun x hx => by simp [dueRecords_not_handset hx]

theorem clearLineConns_others :
    (s.clearLineConns l cause).cxm.conns.filter (fun c => c.line ≠ l) = s.cxm.conns.filter (fun c => c.line ≠ l) := by
  by_cases h : s.lineConns l = []
  · rw [clearLineConns_still cause h]
  · have none : ((s.removeLine l cause).dueRecords l).filter (fun c => c.line ≠ l) = [] := by
      rw [List.filter_eq_nil_iff]
      exact fun x hx => by simp [dueRecords_line hx]
    rw [clearLineConns_eq cause h, makeLineMonitors_conns, removeLine_conns, List.filter_append, none, List.append_nil,
      List.filter_filter]
    simp

/-- R70: every connection that a cleared line is left with is a monitor made now. -/
theorem mem_clearLineConns (h : s.lineConns l ≠ []) {x : Conn} (hx : x ∈ (s.clearLineConns l cause).lineConns l) :
    s.online x.pos = true ∧ x.joined = s.cdu.clock ∧
      ∃ c : SpkNo, x.place = .spk c ∧ s.assign x.pos c = .line l ∧ x.talk = false := by
  have removed : Does (callsOn (· = l)) s (s.removeLine l cause) := does_removeLine_only cause
  rw [clearLineConns_lineConns cause h] at hx
  obtain ⟨p, c, due, rfl⟩ := mem_dueRecords.1 hx
  obtain ⟨assigned, -, on, -⟩ := monitorDue_eq_some.1 due
  rw [removed.assign] at assigned
  rw [removed.online] at on
  exact ⟨on, removed.now, c, rfl, assigned, rfl⟩

/-- R67: the removal of a line's connections brings no line to FAULT or DISABLED. -/
theorem removeLine_inUse (use : ¬ s.outOfUse l) : ¬ (s.removeLine l cause).outOfUse l := by
  by_cases h : s.lineConns l = []
  · rwa [removeLine_still cause h]
  · have dropped : (s.dropConns (fun c => c.line = l) cause).line l = s.line l :=
      (does_dropConns_table s _ _ : Does tableOnly s _).line l id
    rw [removeLine_eq cause h]
    exact fun out => use ((outOfUse_congr (congrArg _ dropped)).1 ((undisturbed_notify _ _ _).inUse l out))

/-- R70: in a state that keeps the laws, every assignment of an online position to a cleared line stands as a monitor. -/
theorem clearLineConns_monitor (run : s.running = true) (h : s.lineConns l ≠ []) (law : s.connectionsLawful) {p : PosNo}
    {c : SpkNo} (assigned : s.assign p c = .line l) (on : s.online p = true) :
    ({ line := l, pos := p, place := .spk c, talk := false, joined := s.cdu.clock } : Conn) ∈
      (s.clearLineConns l cause).cxm.conns := by
  have removed : Does (callsOn (· = l)) s (s.removeLine l cause) := does_removeLine_only cause
  have use : ¬ s.outOfUse l := by
    obtain ⟨-, -, -, -, empty, -⟩ := law
    exact fun out => h (empty l out)
  obtain ⟨fault, disabled⟩ := not_or.1 (removeLine_inUse cause use)
  rw [clearLineConns_eq cause h, makeLineMonitors_conns, List.mem_append]
  refine .inr (mem_dueRecords.2 ⟨p, c, monitorDue_eq_some.2 ⟨?_, ?_, ?_, disabled, fault, ?_⟩, ?_⟩)
  · rwa [removed.assign]
  · rwa [removed.running]
  · rwa [removed.online]
  · exact connAt_none_of_lawful law (removeLine_conns cause) assigned
  · rw [removed.now]; rfl

theorem clearLineConns_privacy (h : s.bridge l ≠ []) : (s.clearLineConns l cause).cxm.privacy[l] = false := by
  have some : s.lineConns l ≠ [] := fun none => h (by simp [State.bridge, none])
  rw [clearLineConns_eq cause some, makeLineMonitors_privacy, removeLine_privacy cause h]

theorem clearLineConns_need (h : s.lineConns l ≠ []) :
    (s.clearLineConns l cause).keptNeed (.line l) = (s.clearLineConns l cause).needNow (.line l) := by
  rw [clearLineConns_eq cause h]
  exact makeLineMonitors_need (removeLine_need cause h)

theorem clearLineConns_demand (h : s.lineConns l ≠ []) (none : (s.clearLineConns l cause).lineConns l = []) :
    (s.clearLineConns l cause).demand l = false := by
  rw [clearLineConns_lineConns cause h] at none
  rw [clearLineConns_eq cause h, makeLineMonitors_still none, removeLine_demand cause h]

/-- R9, R13: a line in use is idle or ringing in once cleared, and ACTIVE again by a monitor made on it. -/
theorem clearLineConns_wire (run : s.running = true) (rep : s.reported l) (h : s.lineConns l ≠ [])
    (hw : (s.line l).cfg.kind.isWire = true)
    (hs : (s.line l).state = .callingOut ∨ (s.line l).state = .active ∨ (s.line l).state = .held) :
    ((s.clearLineConns l cause).line l).state =
      if (s.clearLineConns l cause).lineConns l = [] then (if offHook (s.line l).far then .ringingIn else .idle)
      else .active := by
  have removed : Does (callsOn (· = l)) s (s.removeLine l cause) := does_removeLine_only cause
  have state : ((s.removeLine l cause).line l).state = if offHook (s.line l).far then .ringingIn else .idle := by
    rw [removeLine_last cause run rep h hw hs]
    rfl
  rw [clearLineConns_lineConns cause h, clearLineConns_eq cause h]
  split
  · next none => rw [makeLineMonitors_still none, state]
  · next due =>
    have before : ((s.removeLine l cause).line l).state = .idle ∨ ((s.removeLine l cause).line l).state = .ringingIn := by
      rw [state]
      cases offHook (s.line l).far <;> simp
    rw [makeLineMonitors_wire (removed.running.trans run) (by rwa [removed.cfg]) (squares_removeLine s l cause l rep)
      (removeLine_lineConns cause) before due]
    rfl

theorem does_clearLineConns_only : Does (callsOn (· = l)) s (s.clearLineConns l cause) := by
  unfold State.clearLineConns
  exact .ite _ .refl ((does_removeLine_only cause).trans does_makeLineMonitors_only)

end

/-- Settles O53: the refusals, then the clear of the line and the monitors made on it, under the answer. -/
theorem forceReleaseClearsTheLine : Obligations.ForceReleaseClearsTheLine := by
  intro tag line s h
  have taken : exec (.forceRelease tag line) s = .next ((s.judgeForceRelease line).state.respond 6 tag
      (s.judgeForceRelease line).code (s.judgeForceRelease line).data) := by
    rw [exec_takes h.awake (.forceRelease tag line) trivial]
    exact congrArg _ (request_serving h 6 tag fun s => s.judgeForceRelease line)
  refine ⟨fun hr => ?_, fun l hl => ?_⟩
  · rw [taken, State.judgeForceRelease, numOf_of_le hr]
    rfl
  rw [State.judgeForceRelease, numOf_eq_val hl] at taken
  have cleared (hp : s.mga.phase = .running) :
      exec (.forceRelease tag line) s = .next ((s.clearLineConns l .forced).respond 6 tag .ok []) := by
    rw [taken]
    simp [State.running, hp, State.accept]
  refine ⟨fun hp => ?_, fun hp none => ?_, fun hp hc rep => ?_⟩
  · rw [taken]
    simp [State.running, hp, State.refuse]
  · rw [cleared hp, clearLineConns_still _ none]
  · have run : s.running = true := by simp [State.running, hp]
    have does : Does (callsOn (· = l)) s (s.clearLineConns l .forced) := does_clearLineConns_only _
    have response : ((s.clearLineConns l .forced).respond 6 tag .ok []).mga.responses = s.mga.responses ++
        [{ kind := 6, tag := tag, code := .ok, overrun := s.mga.overrun, data := [] }] := by
      rw [← does.mga.same.responses, ← does.mga.same.overrun]
      rfl
    have others (x : LineNo) (hx : x ≠ l) :
        (s.clearLineConns l .forced).line x = s.line x ∧ (s.clearLineConns l .forced).cxm.privacy[x] = s.cxm.privacy[x] :=
      ⟨does.line x hx, does.privacy x hx⟩
    refine ⟨_, cleared hp, response, clearLineConns_bridge _ hc, clearLineConns_others _,
      fun x hx => mem_clearLineConns _ hc hx, fun law p c assigned on => clearLineConns_monitor _ run hc law assigned on,
      clearLineConns_privacy _, squares_clearLineConns s l _ l (rep l), clearLineConns_need _ hc, others, fun hw hs => ?_,
      clearLineConns_demand _ hc, does.lif, does.psc, does.cdu, does.mix, does.gtu⟩
    have state := clearLineConns_wire .forced run (rep l) hc hw hs
    exact ⟨fun none => state.trans (if_pos none), fun some => state.trans (if_neg some)⟩

end Sys2Proof.Machine

namespace Sys2Proof.Machine

/-! ### Writes of a generator's configuration (O48) -/

/-! #### What a CG_CFG entry stands for (R73) -/

section
variable {b : Byte}

theorem cgModeOf_code {m : CgMode} (h : b.toNat = m.code) : cgModeOf b = some m := by
  cases m <;> simp [cgModeOf, h, CgMode.code]

theorem cgModeOf_eq_none (h : 2 < b.toNat) : cgModeOf b = none := by
  unfold cgModeOf
  split <;> first | rfl | omega

theorem exists_cgMode (h : ¬ 2 < b.toNat) : ∃ m, cgModeOf b = some m := by
  obtain h | h | h : b.toNat = 0 ∨ b.toNat = 1 ∨ b.toNat = 2 := by omega
  · exact ⟨.free, cgModeOf_code h⟩
  · exact ⟨.follow, cgModeOf_code h⟩
  · exact ⟨.oneshot, cgModeOf_code h⟩

theorem sourceOf_none (h : b.toNat = 255) : sourceOf b = some none := if_pos (BitVec.eq_of_toNat_eq h)

theorem sourceOf_number (h : b.toNat ≠ 255) : sourceOf b = (numOf 16 b.toNat).map some :=
  if_neg fun e => h (congrArg BitVec.toNat e)

theorem sourceOf_some {m : CgNo} (h : b.toNat = m.val) : sourceOf b = some (some m) := by
  rw [sourceOf_number (by omega), numOf_eq_val h]
  rfl

theorem sourceOf_eq_none (h : 15 < b.toNat) (h' : b.toNat ≠ 255) : sourceOf b = none := by
  rw [sourceOf_number h', numOf_of_le (by omega)]
  rfl

end

/-- The values that an entry's codes stand for. -/
structure CgMeans (e : CgEntry) (on pair : Bool) (mode : CgMode) (source : Option CgNo) : Prop where
  enable : flagOf e.enable = some on
  pair : flagOf e.pair = some pair
  mode : cgModeOf e.mode = some mode
  source : sourceOf e.source = some source

theorem cgClamps_iff (e : CgEntry) : cgClamps e = true ↔
    e.period.toNat = 0 ∨ 1000 < e.period.toNat ∨ 1000 < e.rise.toNat ∨ 1000 < e.fall.toNat := by
  simp [cgClamps, beyond, or_assoc]

theorem cgShape_eq (e : CgEntry) : cgShape e =
    { period := max 1 (min e.period.toNat 1000), rise := min e.rise.toNat 1000, fall := min e.fall.toNat 1000 } := by
  simp [cgShape, clampTo]

/-! #### The checks of R74 in their order -/

section
variable {s : State} {index : U16} {e : CgEntry}

theorem judgeCgCfg_index (h : 16 ≤ index.toNat) : s.judgeCgCfg index e = s.refuse .badIndex := by
  rw [State.judgeCgCfg, numOf_of_le h]

theorem judgeCgCfg_value (h : index.toNat < 16)
    (reserved : 1 < e.enable.toNat ∨ 2 < e.mode.toNat ∨ 1 < e.pair.toNat) :
    s.judgeCgCfg index e = s.refuse .badValue := by
  unfold State.judgeCgCfg
  rw [numOf_of_lt h]
  obtain h | h | h := reserved
  · rw [flagOf_eq_none h]
  · rw [cgModeOf_eq_none h]
    cases flagOf e.enable <;> rfl
  · rw [flagOf_eq_none h]
    cases flagOf e.enable <;> cases cgModeOf e.mode <;> rfl

theorem judgeCgCfg_reference (h : index.toNat < 16)
    (codes : ¬ (1 < e.enable.toNat ∨ 2 < e.mode.toNat ∨ 1 < e.pair.toNat)) (high : 15 < e.source.toNat)
    (named : e.source.toNat ≠ 255) : s.judgeCgCfg index e = s.refuse .badIndex := by
  simp only [not_or] at codes
  obtain ⟨enable, mode, pair⟩ := codes
  obtain ⟨on, enable⟩ := exists_flag_code enable
  obtain ⟨m, mode⟩ := exists_cgMode mode
  obtain ⟨paired, pair⟩ := exists_flag_code pair
  unfold State.judgeCgCfg
  simp only [numOf_of_lt h, enable, mode, pair, sourceOf_eq_none high named]

variable {n : CgNo} {on pair : Bool} {mode : CgMode} {source : Option CgNo} (hi : index.toNat = n.val)
  (means : CgMeans e on pair mode source)
include hi means

theorem judgeCgCfg_cycle (cycle : s.closesCycle n source = true) : s.judgeCgCfg index e = s.refuse .badValue := by
  unfold State.judgeCgCfg
  simp only [numOf_eq_val hi, means.enable, means.mode, means.pair, means.source, cycle, if_true]

theorem judgeCgCfg_busy (free : s.closesCycle n source = false) (was : (s.gen n).enable = true) (now : on = true)
    (change : mode ≠ (s.gen n).mode ∨ source ≠ (s.gen n).source) : s.judgeCgCfg index e = s.refuse .busy := by
  have busy : (decide ((s.gen n).mode ≠ mode) || decide ((s.gen n).source ≠ source)) = true := by
    simpa [ne_comm] using change
  unfold State.judgeCgCfg
  simp only [numOf_eq_val hi, means.enable, means.mode, means.pair, means.source, free, was, now, busy,
    Bool.false_eq_true, if_false, Bool.and_self, if_true]

theorem judgeCgCfg_taken (free : s.closesCycle n source = false)
    (still : (s.gen n).enable = true → on = true → mode = (s.gen n).mode ∧ source = (s.gen n).source) :
    s.judgeCgCfg index e = (s.storeGen n on mode source (cgShape e) pair).accept (cgClamps e) := by
  have idle :
      ((s.gen n).enable && on && (decide ((s.gen n).mode ≠ mode) || decide ((s.gen n).source ≠ source))) = false := by
    cases was : (s.gen n).enable
    · rfl
    · cases on
      · rfl
      · obtain ⟨rfl, rfl⟩ := still was rfl
        simp
  unfold State.judgeCgCfg
  simp only [numOf_eq_val hi, means.enable, means.mode, means.pair, means.source, free, idle, Bool.false_eq_true, if_false]

end

/-- R74 checks 4 and 5: no generator is its own source, nor the source of its source. -/
theorem closesCycle_self (s : State) (n : CgNo) : s.closesCycle n (some n) = true := by
  simp [State.closesCycle, State.returnsTo]

theorem closesCycle_back {s : State} {n m : CgNo} (h : (s.gen m).source = some n) : s.closesCycle n (some m) = true := by
  simp [State.closesCycle, State.returnsTo, h]

/-! #### What a taken write stores and does (R84, R85) -/

/-- A generator with a new configuration, its active copies, phase and running as they stood. -/
def Gen.configured (g : Gen) (on : Bool) (mode : CgMode) (source : Option CgNo) (shape : Shape) (pair : Bool) : Gen :=
  { g with enable := on, mode := mode, source := source, pending := shape, pair := pair }

/-- R85: a generator as a disabling leaves it. -/
def Gen.stopped (g : Gen) : Gen := { g with running := false, phase := 0 }

theorem setGen_setGen (s : State) (n : CgNo) (a b : Gen) : (s.setGen n a).setGen n b = s.setGen n b := by
  simp [State.setGen]

section
variable (s : State) (n : CgNo) {on : Bool} (mode : CgMode) (source : Option CgNo) (shape : Shape) (pair : Bool)

theorem storeGen_alone (h : on = (s.gen n).enable) :
    s.storeGen n on mode source shape pair = s.setGen n ((s.gen n).configured on mode source shape pair) := by
  have enabled : ¬ (!(s.gen n).enable && on) = true := by simp [h]
  have disabled : ¬ ((s.gen n).enable && !on) = true := by simp [h]
  rw [State.storeGen, if_neg enabled, if_neg disabled]
  rfl

theorem storeGen_enabling (was : (s.gen n).enable = false) :
    s.storeGen n true mode source shape pair = s.setGen n { (s.gen n).configured true mode source shape pair with
      active := shape, phase := 0, running := s.running && decide (mode ≠ .oneshot) } := by
  have enabled : (!(s.gen n).enable && true) = true := by simp [was]
  rw [State.storeGen, if_pos enabled, State.enableGen, setGen_setGen, State.setGen_gen_self]
  rfl

theorem storeGen_disabling (was : (s.gen n).enable = true) :
    s.storeGen n false mode source shape pair =
      let t := s.setGen n ((s.gen n).configured false mode source shape pair).stopped
      if s.running then t.passOn [n] else t.endBursts [n] := by
  have kept : ¬ (!(s.gen n).enable && false) = true := by simp
  have disabled : ((s.gen n).enable && !false) = true := by simp [was]
  rw [State.storeGen, if_neg kept, if_pos disabled, State.disableGen, setGen_setGen, State.setGen_gen_self]
  rfl

end

/-- R85: a disabling changes CDU and the lines alone, ends the bursts that follow the generator, and passes a last period end
on to its receivers while the switching blocks are running. -/
theorem storeGen_disabling_effects (s : State) (n : CgNo) (mode : CgMode) (source : Option CgNo) (shape : Shape)
    (pair : Bool) (was : (s.gen n).enable = true) :
    let t := s.storeGen n false mode source shape pair
    t = { s with cdu := { s.cdu with gens := t.cdu.gens }, lnc := t.lnc } ∧
    t.gen n = ((s.gen n).configured false mode source shape pair).stopped ∧
    (∀ l : LineNo, (s.line l).ringPending = some n → t.line l = { s.line l with ringPending := none }) ∧
    (∀ m : CgNo, m ≠ n → (s.gen m).enable = true → (s.gen m).source = some n → (s.gen m).mode = .follow →
      t.gen m = if s.mga.phase = .running then { s.gen m with active := (s.gen m).pending, phase := 0 } else s.gen m) ∧
    (s.mga.phase = .held → ∀ m : CgNo, m ≠ n → t.gen m = s.gen m) := by
  intro t
  let g := ((s.gen n).configured false mode source shape pair).stopped
  have stopped : t = if s.running then (s.setGen n g).passOn [n] else (s.setGen n g).endBursts [n] :=
    storeGen_disabling s n mode source shape pair was
  by_cases run : s.mga.phase = .running
  · have passed : t = (s.setGen n g).passOn [n] := by simp [stopped, State.running, run]
    clear_value t
    subst passed
    refine ⟨rfl, ?_, (passOn_bursts s n g).1, fun m hne on source follow => ?_, fun held => ?_⟩
    · rw [passOn_gen, State.setGen_gen_self]
      exact receive_of_idle _ (.inl rfl)
    · rw [if_pos run]
      exact (passOn_receiver s n m g hne on source).1 follow
    · simp [run] at held
  · have ended : t = (s.setGen n g).endBursts [n] := by simp [stopped, State.running, run]
    have others (m : CgNo) (hne : m ≠ n) : t.gen m = s.gen m := by
      rw [ended]
      exact State.setGen_gen_ne s g hne.symm
    refine ⟨by rw [ended]; rfl, by rw [ended]; exact State.setGen_gen_self s n g, fun l burst => ?_,
      fun m hne _ _ _ => by rw [others m hne, if_neg run], fun _ => others⟩
    rw [ended, endBursts_line]
    exact LineRec.endBurst_of_mem burst (by simp)

/-- Settles O48: the checks of R74 in their order, then what the write stores and does by the change of enable. -/
theorem writeCgCfgStoresAndActs : Obligations.WriteCgCfgStoresAndActs := by
  intro tag index e s sv i refused reserved answer
  have judged : exec i s = .next ((s.judgeCgCfg index e).state.respond 2 tag (s.judgeCgCfg index e).code
      (s.judgeCgCfg index e).data) := exec_judged sv tag (i := i) trivial (fun s => s.judgeCgCfg index e) rfl
  have refusal {code : ResultCode} (h : s.judgeCgCfg index e = s.refuse code) : refused code := by
    rw [h] at judged
    exact judged
  refine ⟨fun h => refusal (judgeCgCfg_index h), fun h bad => refusal (judgeCgCfg_value h bad),
    fun h codes high named => refusal (judgeCgCfg_reference h codes high named), ?_⟩
  intro n on pair mode source hi enable paired coded sourced g shape stored
  have means : CgMeans e on pair mode source :=
    { enable := flagOf_code enable
      pair := flagOf_code paired
      mode := cgModeOf_code coded
      source := by
        cases source with
        | none => exact sourceOf_none sourced
        | some m => exact sourceOf_some sourced }
  have cycle (h : s.closesCycle n source = true) : refused .badValue := refusal (judgeCgCfg_cycle hi means h)
  refine ⟨fun self => cycle (self ▸ closesCycle_self s n), fun m named back => cycle (named ▸ closesCycle_back back),
    cycle, fun free => ?_⟩
  have taken (still : g.enable = true → on = true → mode = g.mode ∧ source = g.source) :
      exec i s = .next ((s.storeGen n on mode source shape pair).respond 2 tag answer []) := by
    have code : (if cgClamps e = true then ResultCode.okClamped else .ok) = answer := if_congr (cgClamps_iff e) rfl rfl
    rw [judged, judgeCgCfg_taken hi means free still, cgShape_eq, ← code]
    rfl
  have alone (same : on = g.enable) (still : g.enable = true → on = true → mode = g.mode ∧ source = g.source) :
      exec i s = .next ((s.setGen n stored).respond 2 tag answer []) := by
    rw [taken still, storeGen_alone s n mode source shape pair same]
    rfl
  refine ⟨fun was now change => refusal (judgeCgCfg_busy hi means free was now change), fun was now hm hs => ?_,
    fun was now => ?_, fun was now => ?_, fun was now => ?_⟩
  · exact alone (now.trans was.symm) fun _ _ => ⟨hm, hs⟩
  · exact alone (now.trans was.symm) fun on _ => absurd on (by simp [was])
  · subst now
    rw [taken fun on _ => absurd on (by simp [was]), storeGen_enabling s n mode source shape pair was]
    rfl
  · subst now
    exact ⟨_, taken fun _ off => absurd off (by simp), storeGen_disabling_effects s n mode source shape pair was⟩

end Sys2Proof.Machine

namespace Sys2Proof.Machine

/-! ### Own and delivered outputs of a generator (O57) -/

theorem own_iff (g : Gen) :
    g.own = true ↔ g.running = true ∧ g.active.rise ≤ g.phase ∧ g.phase < g.active.fall := by
  simp [Gen.own, and_assoc]

/-- R78: off while the switching blocks are not running, while the generator is not enabled, and while it waits. -/
theorem delivered_off {s : State} {n : CgNo}
    (h : (s.gen n).enable = false ∨ ((s.gen n).mode = .oneshot ∧ (s.gen n).running = false) ∨ s.mga.phase ≠ .running) :
    s.delivered n = false := by
  refine if_pos ?_
  obtain off | ⟨oneshot, stopped⟩ | held := h
  · simp [off]
  · cases on : (s.gen n).enable <;> simp [Gen.waiting, on, oneshot, stopped]
  · simp [running_eq_false.2 held]

/-- R78: otherwise on with the generator's own output, and with its partner's while they are paired. -/
theorem delivered_on {s : State} {n : CgNo} (on : (s.gen n).enable = true)
    (active : (s.gen n).mode ≠ .oneshot ∨ (s.gen n).running = true) (run : s.mga.phase = .running) :
    s.delivered n = ((s.gen n).own || ((s.gen n).pair && (s.gen (partner n)).own)) := by
  refine if_neg ?_
  have notWaiting : (s.gen n).waiting = false := by
    obtain mode | runs := active
    · simp [Gen.waiting, mode]
    · simp [Gen.waiting, runs]
  simp [State.running, run, on, notWaiting]

theorem partner_of_even {n : CgNo} (h : n.val % 2 = 0) : (partner n).val = n.val + 1 := by
  rw [partner, if_pos h]
  show (n.val + 1) % 16 = n.val + 1
  omega

theorem partner_of_odd {n : CgNo} (h : n.val % 2 = 1) : (partner n).val + 1 = n.val := by
  rw [partner, if_neg (by omega)]
  show n.val - 1 + 1 = n.val
  omega

/-- The number of steps below `n` in the window from `a` up to, not including, `b`. -/
theorem length_filter_window (a b n : Nat) :
    ((List.range n).filter fun k => decide (a ≤ k) && decide (k < b)).length = min b n - a := by
  induction n with
  | zero => simp
  | succ n ih =>
    rw [List.range_succ, List.filter_append, List.length_append, ih]
    by_cases inside : a ≤ n ∧ n < b
    · simp [inside]
      omega
    · have : (decide (a ≤ n) && decide (n < b)) = false := by simpa using inside
      simp [this]
      omega

/-- R77: the on steps of a period are those in the window from rise to fall. -/
theorem length_onSteps {g : Gen} (runs : g.running = true) :
    ((List.range g.active.period).filter fun k => ({ g with phase := k } : Gen).own).length =
      min g.active.fall g.active.period - g.active.rise := by
  rw [← length_filter_window]
  simp [Gen.own, runs]

/-- Settles O57: by the cases of R78, and a count of the steps in the window. -/
theorem generatorOutputs : Obligations.GeneratorOutputs := by
  intro n s g
  refine ⟨own_iff g, delivered_off, fun on active run => ?_, partner_of_even, partner_of_odd, length_onSteps⟩
  have delivered : s.delivered n = (g.own || (g.pair && (s.gen (partner n)).own)) := delivered_on on active run
  exact ⟨fun alone => by simp [delivered, alone], fun paired => by simp [delivered, paired]⟩

end Sys2Proof.Machine

namespace Sys2Proof.Machine

/-! ### O9: ranges, and sources without a cycle -/

/-! #### Sources that end (R74) -/

section
variable {s t : State}

theorem follow_succ (s : State) (k : Nat) (n : CgNo) : s.follow (k + 1) n = (s.gen n).source.bind (s.follow k) := by
  rw [State.follow]
  cases (s.gen n).source <;> rfl

theorem follow_add (s : State) (j k : Nat) (n : CgNo) : s.follow (j + k) n = (s.follow j n).bind (s.follow k) := by
  induction j generalizing n with
  | zero => rw [Nat.zero_add]; rfl
  | succ j ih =>
    rw [Nat.succ_add, follow_succ, follow_succ, Option.bind_assoc]
    exact congrArg _ (funext ih)

theorem follow_none_of_le {j k : Nat} {n : CgNo} (h : s.follow j n = none) (le : j ≤ k) : s.follow k n = none := by
  obtain ⟨i, rfl⟩ := Nat.exists_eq_add_of_le le
  rw [follow_add, h]
  rfl

/-- Links that lead back to their start never end. -/
theorem follow_loop {i : Nat} {x : CgNo} (h : s.follow i x = some x) (k : Nat) : s.follow (i * k) x = some x := by
  induction k with
  | zero => rfl
  | succ k ih => rw [Nat.mul_succ, follow_add, ih]; exact h

/-- There are sixteen generators, so links that end at all end within fifteen: sixteen would visit one generator twice. -/
theorem sourcesEnd_iff : s.sourcesEnd ↔ ∀ n, ∃ k, s.follow k n = none := by
  refine ⟨fun h n => ⟨16, h n⟩, fun h n => ?_⟩
  by_contra some
  have reached (i : Fin 17) : ∃ x, s.follow i.val n = Option.some x :=
    Option.ne_none_iff_exists'.1 fun none => some (follow_none_of_le none (by omega))
  choose visited visits using reached
  obtain ⟨i, j, ne, same⟩ := Fintype.exists_ne_map_eq_of_card_lt visited (by simp)
  wlog lt : i < j generalizing i j
  · exact this j i ne.symm same.symm (lt_of_le_of_ne (not_lt.1 lt) ne.symm)
  obtain ⟨k, ends⟩ := h (visited i)
  have loop : s.follow (j.val - i.val) (visited i) = Option.some (visited i) := by
    have path := follow_add s i.val (j.val - i.val) n
    rw [Nat.add_sub_cancel' (Nat.le_of_lt lt), visits i, visits j, ← same] at path
    exact path.symm
  have again := follow_loop loop k
  rw [follow_none_of_le ends (Nat.le_mul_of_pos_left k (Nat.sub_pos_of_lt lt))] at again
  cases again

theorem sourcesEnd_congr (h : ∀ n, (t.gen n).source = (s.gen n).source) (ends : s.sourcesEnd) : t.sourcesEnd := by
  have same (k : Nat) (n : CgNo) : t.follow k n = s.follow k n := by
    induction k generalizing n with
    | zero => rfl
    | succ k ih => rw [follow_succ, follow_succ, h, funext ih]
  exact fun n => (same 16 n).trans (ends n)

section
variable {n : CgNo} {g : Gen}

theorem returnsTo_source {k : Nat} {m : CgNo} (h : s.returnsTo n (k + 1) m = false) :
    m ≠ n ∧ ∀ x, (s.gen m).source = some x → s.returnsTo n k x = false := by
  rw [State.returnsTo, Bool.or_eq_false_iff, decide_eq_false_iff_not] at h
  obtain ⟨ne, later⟩ := h
  exact ⟨ne, fun x source => by simpa [source] using later⟩

/-- Links that do not come to `n` do not see what is written there. -/
theorem setGen_follow {k : Nat} {m : CgNo} (h : s.returnsTo n k m = false) : (s.setGen n g).follow k m = s.follow k m := by
  induction k generalizing m with
  | zero => rfl
  | succ k ih =>
    obtain ⟨ne, later⟩ := returnsTo_source h
    rw [follow_succ, follow_succ, State.setGen_gen_ne s g ne.symm]
    cases source : (s.gen m).source with
    | none => rfl
    | some x => exact ih (later x source)

/-- R74 checks 4 and 5 keep the sources without a cycle: the links of the new source never come to `n`, so they end as they
did, and those of the other generators end, or come to `n` and go on by the new source. -/
theorem setGen_sourcesEnd (free : s.closesCycle n g.source = false) (ends : s.sourcesEnd) : (s.setGen n g).sourcesEnd := by
  have written : (s.setGen n g).follow 17 n = none := by
    rw [follow_succ, State.setGen_gen_self]
    cases source : g.source with
    | none => rfl
    | some m =>
      rw [source] at free
      exact (setGen_follow free).trans (ends m)
  have others (k : Nat) (x : CgNo) (h : s.follow k x = none) : ∃ j, (s.setGen n g).follow j x = none := by
    induction k generalizing x with
    | zero => cases h
    | succ k ih =>
      by_cases at_n : n = x
      · exact ⟨17, at_n ▸ written⟩
      · rw [follow_succ] at h
        cases source : (s.gen x).source with
        | none => exact ⟨1, by rw [follow_succ, State.setGen_gen_ne s g at_n, source]; rfl⟩
        | some y =>
          rw [source] at h
          obtain ⟨j, hj⟩ := ih y h
          exact ⟨j + 1, by rw [follow_succ, State.setGen_gen_ne s g at_n, source]; exact hj⟩
  exact sourcesEnd_iff.2 fun x => others 16 x (ends x)

end

end

/-! #### One generator, one port and one tone source -/

/-- A generator's source stays, and its copies and its phase stay in range. -/
structure Gen.Moves (g g' : Gen) : Prop where
  source : g'.source = g.source
  wellFormed : g.wellFormed → g'.wellFormed

section
variable (g : Gen)

theorem Gen.Moves.refl : g.Moves g := ⟨rfl, id⟩

theorem Gen.Moves.trans {a b c : Gen} (h : a.Moves b) (k : b.Moves c) : a.Moves c :=
  ⟨k.source.trans h.source, k.wellFormed ∘ h.wellFormed⟩

variable {g} in
theorem Gen.wellFormed.active_pos (h : g.wellFormed) : 0 < g.active.period := by
  obtain ⟨-, -, -, -, -, -, -, phase⟩ := h
  omega

/-- R80: the pending copies are in range, and so is the phase 0. -/
theorem moves_load : g.Moves g.load :=
  ⟨rfl, fun ⟨one, period, rise, fall, _⟩ => ⟨one, period, rise, fall, period, rise, fall, one⟩⟩

theorem moves_restart (runs : Bool) : g.Moves { g with running := runs, phase := 0 } :=
  ⟨rfl, fun h => by
    have pos := h.active_pos
    obtain ⟨one, period, rise, fall, activePeriod, activeRise, activeFall, -⟩ := h
    exact ⟨one, period, rise, fall, activePeriod, activeRise, activeFall, pos⟩⟩

theorem moves_running (runs : Bool) : g.Moves { g with running := runs } := ⟨rfl, id⟩

theorem moves_complete : g.Moves g.complete := (moves_load g).trans (moves_running _ _)

theorem moves_release : g.Moves g.release := (moves_load g).trans (moves_running _ _)

theorem moves_trigger : g.Moves g.trigger := by
  unfold Gen.trigger
  split
  · exact moves_restart g true
  · exact .refl g

/-- R79 step 1: a phase that goes on stays below the active period. -/
theorem moves_advance : g.Moves g.advance := by
  unfold Gen.advance
  split_ifs with wraps oneshot runs
  · exact moves_complete g
  · exact moves_load g
  · have below : g.phase + 1 < g.active.period := by
      simp only [Bool.and_eq_true] at runs
      rw [wraps_iff] at wraps
      exact Nat.lt_of_not_le fun last => wraps ⟨runs.1, runs.2, last⟩
    exact ⟨rfl, fun ⟨one, period, rise, fall, activePeriod, activeRise, activeFall, _⟩ =>
      ⟨one, period, rise, fall, activePeriod, activeRise, activeFall, below⟩⟩
  · exact .refl g

theorem moves_receive (es : List CgNo) : g.Moves (g.receive es) := by
  unfold Gen.receive
  split
  · split
    · exact moves_load g
    · exact moves_trigger g
    · exact .refl g
  · exact .refl g

end

/-- R171: a port that judges a marker stays well formed. -/
theorem judge_wellFormed {p : Port} (h : p.wellFormed) (good : Bool) : (p.judge good).wellFormed := by
  have ⟨goodMax, missMax, up, down⟩ := h
  unfold Port.judge
  split
  · exact ⟨by decide, by decide, nofun, nofun⟩
  · exact h
  · next align =>
    split
    · exact ⟨by decide, by decide, fun _ => rfl, nofun⟩
    · exact ⟨by show p.good + 1 ≤ 8; omega, Nat.zero_le 3, by simp [align], by simp [align]⟩
  · next align =>
    split
    · exact ⟨by decide, by decide, nofun, fun _ => ⟨rfl, rfl⟩⟩
    · exact ⟨Nat.zero_le 8, by show p.miss + 1 ≤ 3; omega, by simp [align], by simp [align]⟩
  · next align => exact ⟨goodMax, Nat.zero_le 3, up, by simp [align]⟩
  · next align =>
    split
    · exact ⟨by decide, by decide, nofun, fun _ => ⟨rfl, rfl⟩⟩
    · exact ⟨goodMax, by show p.miss + 1 ≤ 3; omega, up, by simp [align]⟩

/-- R108: the read index goes on within the loop, or to its start. -/
theorem advance_wellFormed {x : Tone} (h : x.wellFormed) : x.advance.wellFormed := by
  obtain ⟨long, short, level, index⟩ := h
  refine ⟨long, short, level, ?_⟩
  show (if x.length ≤ x.index + 1 then 0 else x.index + 1) < x.length
  split <;> omega

/-! #### What an operation sustains -/

/-- An operation keeps in range what is in range, and the sources without a cycle. -/
structure Sustains (s t : State) : Prop where
  port : ∀ n, (s.port n).wellFormed → (t.port n).wellFormed
  gen : ∀ n, (s.gen n).wellFormed → (t.gen n).wellFormed
  tone : ∀ x : ToneNo, (s.mix.tones[x]).wellFormed → (t.mix.tones[x]).wellFormed
  clip : ∀ i : OutNo, s.mix.clips[i] ≤ Config.countMax → t.mix.clips[i] ≤ Config.countMax
  sources : s.sourcesEnd → t.sourcesEnd

section
variable {s t u : State}

theorem Sustains.ranges (h : Sustains s t) : s.rangesKept → t.rangesKept := fun ⟨ports, gens, tones, clips⟩ =>
  ⟨fun n => h.port n (ports n), fun n => h.gen n (gens n), fun x => h.tone x (tones x), fun i => h.clip i (clips i)⟩

theorem Sustains.refl (s : State) : Sustains s s := ⟨fun _ => id, fun _ => id, fun _ => id, fun _ => id, id⟩

theorem Sustains.of_same (h : t = s) : Sustains s t := h ▸ .refl s

theorem Sustains.trans (h : Sustains s t) (k : Sustains t u) : Sustains s u :=
  ⟨fun n => k.port n ∘ h.port n, fun n => k.gen n ∘ h.gen n, fun x => k.tone x ∘ h.tone x, fun i => k.clip i ∘ h.clip i,
    k.sources ∘ h.sources⟩

theorem Sustains.ite {a b : State} (p : Prop) [Decidable p] (h : Sustains s a) (k : Sustains s b) :
    Sustains s (if p then a else b) := by
  split
  · exact h
  · exact k

theorem Sustains.foldl {α : Type} (f : State → α → State) (h : ∀ s a, Sustains s (f s a)) (l : List α) (s : State) :
    Sustains s (l.foldl f s) := by
  induction l generalizing s with
  | nil => exact .refl s
  | cons a l ih => exact (h s a).trans (ih _)

theorem Sustains.of_moves (port : ∀ n, (s.port n).wellFormed → (t.port n).wellFormed) (gen : ∀ n, (s.gen n).Moves (t.gen n))
    (tone : ∀ x : ToneNo, (s.mix.tones[x]).wellFormed → (t.mix.tones[x]).wellFormed)
    (clip : ∀ i : OutNo, s.mix.clips[i] ≤ Config.countMax → t.mix.clips[i] ≤ Config.countMax) : Sustains s t :=
  ⟨port, fun n => (gen n).wellFormed, tone, clip, sourcesEnd_congr fun n => (gen n).source⟩

/-- An operation of the Cadence Unit. -/
theorem Sustains.of_gens (ports : t.lif.ports = s.lif.ports) (mix : t.mix = s.mix) (gen : ∀ n, (s.gen n).Moves (t.gen n)) :
    Sustains s t :=
  .of_moves (fun n => by simp only [State.port, ports]; exact id) gen (fun x => by rw [mix]; exact id)
    (fun i => by rw [mix]; exact id)

/-- An operation that leaves the counts of the ports, the generators, the tone sources and the clip counters alone. -/
theorem Sustains.of_eq (ports : t.lif.ports = s.lif.ports) (gens : t.cdu.gens = s.cdu.gens) (mix : t.mix = s.mix) :
    Sustains s t :=
  .of_gens ports mix fun n => by simp only [State.gen, gens]; exact .refl _

theorem Sustains.of_mix (ports : t.lif.ports = s.lif.ports) (gens : t.cdu.gens = s.cdu.gens)
    (tone : ∀ x : ToneNo, (s.mix.tones[x]).wellFormed → (t.mix.tones[x]).wellFormed)
    (clip : ∀ i : OutNo, s.mix.clips[i] ≤ Config.countMax → t.mix.clips[i] ≤ Config.countMax) : Sustains s t :=
  .of_moves (fun n => by simp only [State.port, ports]; exact id) (fun n => by simp only [State.gen, gens]; exact .refl _)
    tone clip

/-- The parts that neither a range nor a source lies in. -/
def rangeless : Touch → Prop
  | .gens => False
  | .mix => False
  | _ => True

theorem calls_rangeless (A : LineNo → Prop) : Calls rangeless A :=
  ⟨trivial, trivial, fun _ _ => trivial, fun _ _ => trivial, fun _ _ => trivial⟩

theorem Does.sustains (h : Does rangeless s t) : Sustains s t := .of_eq (by rw [h.lif]) (by rw [h.cdu]) h.mix

end

/-! #### Generators (spec/04) -/

section
variable (s : State) (n : CgNo)

theorem sustains_setGen {g : Gen} (h : (s.gen n).Moves g) : Sustains s (s.setGen n g) :=
  .of_gens rfl rfl fun m => by
    rw [State.setGen_gen_eq]
    split
    · next e => exact e ▸ h
    · exact .refl _

theorem sustains_triggerGen : Sustains s (s.triggerGen n) :=
  .ite _ (sustains_setGen s n (moves_trigger _)) (.refl s)

theorem sustains_passOn (es : List CgNo) : Sustains s (s.passOn es) :=
  .of_gens rfl rfl fun m => by rw [passOn_gen]; exact moves_receive _ _

theorem sustains_stepGens : Sustains s s.stepGens :=
  Sustains.trans (t := { s with cdu := { s.cdu with gens := s.cdu.gens.map Gen.advance } })
    (.of_gens rfl rfl fun m => by simpa [State.gen] using moves_advance (s.gen m)) (sustains_passOn _ _)

theorem sustains_wrapGen : Sustains s (s.wrapGen n) :=
  .ite _ ((sustains_setGen s n (moves_load _)).trans (sustains_passOn _ _)) (.refl s)

theorem sustains_completeGen : Sustains s (s.completeGen n) :=
  .ite _ ((sustains_setGen s n (moves_complete _)).trans (sustains_passOn _ _)) (.refl s)

theorem sustains_enableGen : Sustains s (s.enableGen n) :=
  sustains_setGen s n ((moves_load _).trans (moves_running _ _))

theorem sustains_disableGen : Sustains s (s.disableGen n) := by
  have stopped := sustains_setGen s n (moves_restart (s.gen n) false)
  exact .ite _ (stopped.trans (sustains_passOn _ _)) (stopped.trans (.of_eq rfl rfl rfl))

theorem sustains_ringRequest (l : LineNo) : Sustains s (s.ringRequest l) :=
  .ite _ (((Update.burst s l _).does (K := rangeless) trivial).sustains.trans (sustains_triggerGen _ _)) (.refl s)

/-- R73: the copies of a taken CG_CFG entry are in range. -/
theorem cgShape_range (e : CgEntry) : 1 ≤ (cgShape e).period ∧ (cgShape e).period ≤ 1000 ∧ (cgShape e).rise ≤ 1000 ∧
    (cgShape e).fall ≤ 1000 := by
  simp only [cgShape, clampTo]
  omega

/-- R73, R74: a write that passed the checks of R74. -/
theorem sustains_storeGen (on : Bool) (mode : CgMode) {source : Option CgNo} (e : CgEntry) (pair : Bool)
    (free : s.closesCycle n source = false) : Sustains s (s.storeGen n on mode source (cgShape e) pair) := by
  have stored : Sustains s (s.setGen n ((s.gen n).configured on mode source (cgShape e) pair)) :=
    { port := fun _ => id
      gen := fun m h => by
        rw [State.setGen_gen_eq]
        split
        · next same =>
          subst same
          obtain ⟨-, -, -, -, activePeriod, activeRise, activeFall, phase⟩ := h
          obtain ⟨one, period, rise, fall⟩ := cgShape_range e
          exact ⟨one, period, rise, fall, activePeriod, activeRise, activeFall, phase⟩
        · exact h
      tone := fun _ => id
      clip := fun _ => id
      sources := setGen_sourcesEnd free }
  exact .ite _ (stored.trans (sustains_enableGen _ n)) (.ite _ (stored.trans (sustains_disableGen _ n)) stored)

end

/-! #### Ports and the mixer (spec/05, spec/09) -/

section
variable (s : State)

theorem sustains_judgePort (n : PortNo) (good : Bool) : Sustains s (s.judgePort n good) := by
  have judged : Sustains s (s.setPort n ((s.port n).judge good)) :=
    .of_moves (fun m h => by
      simp only [State.setPort, State.port, Fin.getElem_fin, Vector.getElem_set]
      split
      · next e => exact judge_wellFormed ((Fin.ext e : n = m) ▸ h) good
      · exact h) (fun _ => .refl _) (fun _ => id) (fun _ => id)
  exact .ite _ judged (judged.trans (((Does.refl (K := rangeless)).note _).sustains))

theorem sustains_countClip (i : OutNo) : Sustains s (s.countClip i) := by
  have counted : Sustains s
      { s with mix := { s.mix with clips := s.mix.clips.set i (min (s.mix.clips[i] + 1) Config.countMax) } } :=
    .of_mix rfl rfl (fun _ => id) fun j h => by
      simp only [Fin.getElem_fin, Vector.getElem_set]
      split
      · exact Nat.min_le_right _ _
      · exact h
  exact .ite _ (counted.trans (does_raiseRunning (K := rangeless) _ _).sustains) counted

theorem sustains_clearClip (i : Nat) : Sustains s (s.clearClip i) := by
  unfold State.clearClip
  split
  · refine .of_mix rfl rfl (fun _ => id) fun j h => ?_
    simp only [Fin.getElem_fin, Vector.getElem_set]
    split
    · exact Nat.zero_le _
    · exact h
  · exact .refl s

theorem sustains_advanceTones : Sustains s s.advanceTones :=
  .ite _ (.of_mix rfl rfl (fun x h => by simpa using advance_wellFormed h) (fun _ => id)) (.refl s)

theorem sustains_setTone (x : ToneNo) {r : Tone} (h : (s.mix.tones[x]).wellFormed → r.wellFormed) :
    Sustains s { s with mix := { s.mix with tones := s.mix.tones.set x r } } :=
  .of_mix rfl rfl (fun y hy => by
    simp only [Fin.getElem_fin, Vector.getElem_set]
    split
    · next e => exact h ((Fin.ext e : x = y) ▸ hy)
    · exact hy) (fun _ => id)

/-- R107, R108: the control values of a taken TONE write are in range, and the index lies within the new loop. -/
theorem sustains_storeToneControl (x : ToneNo) (length : Nat) (level : U16) :
    Sustains s (s.storeToneControl x (clampTo 8 256 length) (gainOf level)) := by
  refine sustains_setTone s x fun _ => ?_
  have long : 8 ≤ clampTo 8 256 length := Nat.le_max_left _ _
  have short : clampTo 8 256 length ≤ 256 := by simp only [clampTo]; omega
  have loud : gainOf level ≤ Config.gainMax := by simp [gainOf, clampTo]
  refine ⟨long, short, loud, ?_⟩
  show (if clampTo 8 256 length ≤ (s.mix.tones[x]).index then 0 else (s.mix.tones[x]).index) < clampTo 8 256 length
  split <;> omega

theorem sustains_mixFrame : Sustains s s.mixFrame := by
  refine .trans (t := { s with lif := { s.lif with prepared := s.mixed } }) (.of_eq rfl rfl rfl) ?_
  exact ((Sustains.foldl State.countClip sustains_countClip _ _).trans (sustains_advanceTones _)).trans
    (does_closeSteps (K := rangeless) trivial trivial _).sustains

end

/-! #### Keys (spec/02) -/

section
variable (s : State) (p : PosNo)

theorem sustains_ringKey (k : KeyNo) : Sustains s (s.ringKey p k) := by
  have denied (r : DenyReason) (x : DenyTarget) : Sustains s (s.deny p k r x) :=
    (does_deny (K := rangeless) trivial s p k r x).sustains
  unfold State.ringKey
  split
  · exact denied _ _
  · exact .ite _ (sustains_ringRequest s _) (denied _ _)

/-- A RING key triggers a generator, and no other key reaches CDU or MIX. -/
theorem sustains_keyAction (k : KeyNo) : Sustains s (s.keyAction p k) := by
  have all : Calls rangeless fun _ => True := calls_rangeless _
  unfold State.keyAction
  simp only
  split
  · exact .refl s
  · exact (does_lineRequest all trivial s _ _ _ _).sustains
  · exact (does_releaseKey all trivial s _ _ _).sustains
  · exact (does_holdKey all trivial s _ _ _).sustains
  · exact sustains_ringKey s p k
  · exact (does_privacyKey all trivial s _ _ _).sustains
  · exact .ite _ (.refl s) (does_talkKeyDown (K := rangeless) trivial all trivial s _ _ _).sustains
  · exact .ite _ (.refl s) (does_speakerKeyDown (K := rangeless) trivial all trivial s _ _ _).sustains
  · unfold State.recordKey
    split
    · exact (does_deny (K := rangeless) trivial s _ _ _ _).sustains
    · exact (does_toggleDemand (K := rangeless) trivial s _ trivial).sustains
  · exact (does_raiseRunning (K := rangeless) s _).sustains

theorem sustains_keyDown (b : Byte) : Sustains s (s.keyDown p b) := by
  unfold State.keyDown
  split
  · exact .ite _ (sustains_keyAction s p _) (.refl s)
  · exact .refl s

theorem sustains_keyUp (b : Byte) : Sustains s (s.keyUp p b) :=
  (does_keyUp (K := rangeless) trivial (calls_rangeless _) trivial s p b).sustains

theorem sustains_hookCell (a v : Byte) : Sustains s (s.hookCell p a v) :=
  (does_hookCell (K := rangeless) trivial (calls_rangeless _) s p a v).sustains

theorem sustains_levelCell (e : Byte) (v : U16) : Sustains s (s.levelCell p e v) :=
  (does_levelCell (K := rangeless) trivial s p e v).sustains

theorem sustains_takeConsole (c : List Byte) : Sustains s (s.takeConsole p c) := by
  unfold State.takeConsole
  split
  · exact sustains_keyDown s _ _
  · exact sustains_keyUp s _ _
  · exact sustains_hookCell s _ _ _
  · exact sustains_levelCell s _ _ _
  · exact .refl s

end

/-! #### Start-up, the shelf hold and hold release (R191 to R194) -/

section
variable (s : State)

theorem sustains_raise (o : Occurrence) : Sustains s (s.raise o) := ((Does.refl (K := rangeless)).note o).sustains

theorem sustains_hardReset (m : QuadNo) : Sustains s (s.hardReset m) := by
  have queued : Sustains (State.atReset m) (s.hardReset m) := .of_eq rfl rfl rfl
  obtain ⟨ports, gens, tones, clips⟩ := queued.ranges (atReset_rangesKept m)
  exact ⟨fun n _ => ports n, fun n _ => gens n, fun x _ => tones x, fun i _ => clips i,
    fun _ => queued.sources (atReset_sourcesEnd m)⟩

theorem sustains_endInit : Sustains s s.endInit :=
  .ite _ (Sustains.trans (t := { s with mga := { s.mga with phase := .held } }) (.of_eq rfl rfl rfl) (sustains_raise _ _))
    (.refl s)

theorem sustains_holdBlocks : Sustains s s.holdBlocks := by
  refine .of_moves (fun _ => id) (fun n => ?_) (fun x h => ?_) fun _ => id
  · have held : s.holdBlocks.gen n = (s.gen n).hold := by simp [State.gen, State.holdBlocks, Cdu.hold]
    exact held ▸ moves_restart _ false
  · have held : s.holdBlocks.mix.tones[x] = { s.mix.tones[x] with index := 0 } := by simp [State.holdBlocks, Mix.hold]
    obtain ⟨long, short, level, -⟩ := h
    rw [held]
    exact ⟨long, short, level, Nat.lt_of_lt_of_le (Nat.zero_lt_succ 7) long⟩

theorem sustains_holdShelf : Sustains s s.holdShelf :=
  .ite _ (((sustains_holdBlocks s).trans
    (.of_eq (t := { s.holdBlocks with mga := { s.holdBlocks.mga with phase := .held } }) rfl rfl rfl)).trans
    (sustains_raise _ _)) (.refl s)

theorem sustains_cduRelease : Sustains s { s with cdu := s.cdu.release } :=
  .of_gens rfl rfl fun n => by simpa [State.gen, Cdu.release] using moves_release (s.gen n)

theorem sustains_releaseShelf : Sustains s s.releaseShelf := by
  have lines (t : State) : Does rangeless t t.evaluateAll.makeAllMonitors :=
    (Does.foldl _ _ (fun s l _ => does_evaluate (calls_rangeless (· = l)) s _) t).trans
      (does_makeAllMonitors (calls_rangeless _) _)
  unfold State.releaseShelf
  refine .ite _ ?_ (.refl s)
  refine .trans (t := { s with mga := { s.mga with phase := .running } }) (.of_eq rfl rfl rfl) ?_
  exact ((sustains_raise _ .switchingReleased).trans (sustains_cduRelease _)).trans (lines _).sustains

end

/-! #### Requests

`IntakeOp.storeGen` and `IntakeOp.toneControl` do not say that their writes passed the checks of R74 and were clamped, so
the ranges are followed from the judges to the step by the functions that lead there. -/

section
variable (s : State) (i : U16)

theorem sustains_lineCfgWritten (l : LineNo) (cfg : LineCfg) : Sustains s (s.lineCfgWritten l cfg) :=
  Sustains.trans (t := s.setLine l { s.line l with cfg := cfg }) (.of_eq rfl rfl rfl)
    ((does_kindChanged (calls_rangeless _) _ _).trans (does_testExit (calls_rangeless _) _ _)).sustains

theorem sustains_changeAssign (k : Fin 256) (a : Assign) : Sustains s (s.changeAssign k a) := by
  have put (s : State) : Does rangeless s (({ s with psc := { s.psc with assigns := s.psc.assigns.set k a } } :
      State).makeMonitors [(assignPos k, assignSpk k)]) :=
    ((Update.psc s _).does trivial).trans (does_makeAny (calls_rangeless _) _ _)
  unfold State.changeAssign
  split
  · exact ((does_removeAny (calls_rangeless _) s _ _).trans (put _)).sustains
  · exact (put s).sustains
  · exact (put s).sustains

/-- R140: a write of a policy table. -/
theorem sustains_policyWrite (b : Prs) :
    Sustains s (({ s with prs := b } : State).reResolveTables.accept false).state := by
  rw [accept_state]
  exact Sustains.trans (t := { s with prs := b }) (.of_eq rfl rfl rfl) (does_reResolve (K := rangeless) trivial _ _).sustains

theorem sustains_judgeLineCfg (e : LineEntry) : Sustains s (s.judgeLineCfg i e).state := by
  have taken (l : LineNo) (cfg : LineCfg) (c : Bool) : Sustains s (s.storeLineCfg l cfg c).state := by
    unfold State.storeLineCfg
    simp only
    split_ifs
    · exact .refl s
    · exact .refl s
    · exact sustains_lineCfgWritten s l cfg
  unfold State.judgeLineCfg
  repeat' first | exact .refl s | exact taken _ _ _ | split

theorem sustains_judgePositionCfg (e : PositionEntry) : Sustains s (s.judgePositionCfg i e).state := by
  unfold State.judgePositionCfg
  repeat' first | exact .refl s | exact (does_storePositionCfg (K := rangeless) trivial trivial s _ _).sustains | split

theorem sustains_judgeKeyMap (e : KeyEntry) : Sustains s (s.judgeKeyMap i e).state := by
  unfold State.judgeKeyMap
  repeat' first | exact .of_eq rfl rfl rfl | split

theorem sustains_judgeSpeakerAssign (e : AssignEntry) : Sustains s (s.judgeSpeakerAssign i e).state := by
  unfold State.judgeSpeakerAssign
  repeat' first | exact .refl s | exact sustains_changeAssign s _ _ | split

theorem sustains_judgeLampStyle (e : LampEntry) : Sustains s (s.judgeLampStyle i e).state := by
  unfold State.judgeLampStyle
  repeat' first | exact .of_eq rfl rfl rfl | split

theorem sustains_judgeGroupCfg (e : GroupEntry) : Sustains s (s.judgeGroupCfg i e).state := by
  unfold State.judgeGroupCfg
  repeat' first
    | exact .refl s
    | exact (does_storeGroupCfg (K := rangeless) trivial trivial (fun _ => trivial) s _ _).sustains
    | split

/-- R74: a CG_CFG write closes no cycle, or changes nothing. -/
theorem sustains_judgeCgCfg (e : CgEntry) : Sustains s (s.judgeCgCfg i e).state := by
  unfold State.judgeCgCfg
  split
  · exact .refl s
  · split
    · split
      · exact .refl s
      · split_ifs with cycle
        · exact .refl s
        · exact .refl s
        · exact sustains_storeGen s _ _ _ e _ (by simpa using cycle)
    · exact .refl s

theorem sustains_judgeTone (e : ToneEntry) : Sustains s (s.judgeTone i e).state := by
  unfold State.judgeTone
  split
  · exact sustains_setTone s _ id
  · split
    · exact .refl s
    · exact sustains_storeToneControl s _ _ _

theorem sustains_judgePolicyCtrl (e : PolicyCtrlEntry) : Sustains s (s.judgePolicyCtrl i e).state := by
  unfold State.judgePolicyCtrl
  split
  · exact .refl s
  · split
    · exact sustains_policyWrite s _
    · exact .refl s

theorem sustains_judgePolicyFixed (c : Byte) : Sustains s (s.judgePolicyFixed i c).state := by
  unfold State.judgePolicyFixed
  split
  · exact .refl s
  · split
    · exact sustains_policyWrite s _
    · exact .refl s

theorem sustains_judgePolicyRange (e : PolicyRangeEntry) : Sustains s (s.judgePolicyRange i e).state := by
  unfold State.judgePolicyRange
  split
  · exact .refl s
  · split
    · split
      · split
        · exact .refl s
        · exact sustains_policyWrite s _
      · exact .refl s
    · exact .refl s

theorem sustains_judgeRecMode (m : Byte) : Sustains s (s.judgeRecMode i m).state := by
  unfold State.judgeRecMode
  repeat' first | exact .of_eq rfl rfl rfl | split

theorem sustains_judgeReadState (clear : Bool) (k : Byte) : Sustains s (s.judgeReadState clear k i).state := by
  unfold State.judgeReadState
  split
  · exact .refl s
  · exact .refl s
  · exact .ite _ (sustains_clearClip s _) (.refl s)

theorem sustains_judgeClearFault : Sustains s (s.judgeClearFault i).state := by
  unfold State.judgeClearFault
  repeat' first | exact .refl s | exact (does_clearFault (calls_rangeless _) s).sustains | split

theorem sustains_judgeTrigger (c : Byte) : Sustains s (s.judgeTrigger c).state := by
  unfold State.judgeTrigger
  repeat' first | exact .refl s | exact sustains_triggerGen s _ | split

theorem sustains_judgeForceRelease : Sustains s (s.judgeForceRelease i).state := by
  unfold State.judgeForceRelease
  repeat' first | exact .refl s | exact (does_clearLineConns (calls_rangeless _) s _).sustains | split

theorem sustains_judgeEventMode (c m : Byte) : Sustains s (s.judgeEventMode c m).state := by
  unfold State.judgeEventMode
  repeat' first | exact .of_eq rfl rfl rfl | split

theorem sustains_judgeAck (c : Byte) : Sustains s (s.judgeAck c).state := by
  unfold State.judgeAck
  repeat' first | exact .of_eq rfl rfl rfl | split

variable {s} in
theorem sustains_request (kind : Byte) (tag : U16) {judge : State → Verdict} (h : Sustains s (judge s).state) :
    Sustains s (s.request kind tag judge) :=
  .ite _ (.ite _ (.of_eq rfl rfl rfl) (h.trans (.of_eq rfl rfl rfl))) (.of_eq rfl rfl rfl)

theorem sustains_badRequest (kind : Byte) (tag : U16) : Sustains s (s.badRequest kind tag) :=
  .ite _ (.of_eq rfl rfl rfl) (.of_eq rfl rfl rfl)

/-- Every request keeps the ranges, and the sources without a cycle. -/
theorem sustains_takeRequest (r : Instr) : Sustains s (s.takeRequest r) := by
  cases r
  case readEntry tag x i => apply sustains_request; exact .of_same (intake_readEntry s x i)
  case writeLineCfg => apply sustains_request; exact sustains_judgeLineCfg s _ _
  case writePositionCfg => apply sustains_request; exact sustains_judgePositionCfg s _ _
  case writeKeyMap => apply sustains_request; exact sustains_judgeKeyMap s _ _
  case writeSpeakerAssign => apply sustains_request; exact sustains_judgeSpeakerAssign s _ _
  case writeLampStyle => apply sustains_request; exact sustains_judgeLampStyle s _ _
  case writeGroupCfg => apply sustains_request; exact sustains_judgeGroupCfg s _ _
  case writeCgCfg => apply sustains_request; exact sustains_judgeCgCfg s _ _
  case writeTone tag i e =>
    exact .ite _ (sustains_request 2 tag (judge := fun s => s.judgeTone i e) (sustains_judgeTone s i e))
      (sustains_badRequest s _ _)
  case writePolicyCtrl => apply sustains_request; exact sustains_judgePolicyCtrl s _ _
  case writePolicyFixed => apply sustains_request; exact sustains_judgePolicyFixed s _ _
  case writePolicyRange => apply sustains_request; exact sustains_judgePolicyRange s _ _
  case writeRecMode => apply sustains_request; exact sustains_judgeRecMode s _ _
  case readState => apply sustains_request; exact sustains_judgeReadState s _ _ _
  case clearFault => apply sustains_request; exact sustains_judgeClearFault s _
  case trigger => apply sustains_request; exact sustains_judgeTrigger s _
  case forceRelease => apply sustains_request; exact sustains_judgeForceRelease s _
  case setEventMode => apply sustains_request; exact sustains_judgeEventMode s _ _
  case readSummary tag c => apply sustains_request; exact .of_same (intake_summary s c)
  case ackClass => apply sustains_request; exact sustains_judgeAck s _
  case setLaneRatio => apply sustains_request; exact .of_eq rfl rfl rfl
  case hold => apply sustains_request; exact sustains_holdShelf s
  case holdRelease => apply sustains_request; exact sustains_releaseShelf s
  case malformedRequest => exact sustains_badRequest s _ _
  case unknownTableWrite => apply sustains_request; exact .refl s
  all_goals exact .refl s

end

/-! #### Frames (spec/09) -/

section
variable (s : State)

theorem sustains_takeCell (c : List Byte) : Sustains s (s.takeCell c) := by
  unfold State.takeCell
  split
  · exact sustains_takeRequest s _
  · exact .refl s

theorem sustains_handOver (cs : List (List Byte)) : Sustains s { s with lif := { s.lif with handOver := cs } } :=
  .of_eq rfl rfl rfl

theorem sustains_takeHandOver (n : Nat) : Sustains s (State.takeHandOver n s) := by
  induction n generalizing s with
  | zero => exact .refl s
  | succ n ih =>
    unfold State.takeHandOver
    split
    · exact .refl s
    · exact ((sustains_handOver s _).trans (sustains_takeCell _ _)).trans (ih _)

theorem sustains_mgmtCells (m : QuadNo) (cells : List (List Byte)) : Sustains s (s.mgmtCells m cells) :=
  .ite _ ((sustains_handOver s _).trans (sustains_takeHandOver _ _)) (.refl s)

theorem sustains_farSignal (c : LineCause) (l : LineNo) (f : FarSignal) : Sustains s (s.farSignal c l f) :=
  (does_farSignal (calls_rangeless _) trivial s c f).sustains

theorem sustains_lineFrame (m : QuadNo) (f : LineFrame) : Sustains s (s.lineFrame m f) :=
  (sustains_judgePort s _ _).trans
    (.ite _ (.foldl _ (fun s l => sustains_farSignal s _ l _) _ _)
      (.ite _ (.trans (.foldl _ (fun s _ => sustains_farSignal s _ _ _) _ _) (sustains_mgmtCells _ _ _)) (.refl _)))

theorem sustains_setPresent (p : PosNo) (b : Bool) : Sustains s (s.setPresent p b) := .of_eq rfl rfl rfl

theorem sustains_goOffline (ps : List PosNo) : Sustains s (s.goOffline ps) :=
  (does_goOffline (K := rangeless) trivial (calls_rangeless _) trivial s ps).sustains

theorem sustains_slotFrame (p : PosNo) (x : SlotIn) : Sustains s (s.slotFrame p x) := by
  have online (s : State) : Sustains s (s.goOnline p) :=
    (does_goOnline (K := rangeless) trivial (calls_rangeless _) s p).sustains
  refine (sustains_setPresent s p x.present).trans ?_
  exact .trans (.ite _ (online _) (.ite _ (sustains_goOffline _ [p]) (.refl _)))
    (.ite _ (.foldl _ (fun s c => sustains_takeConsole s p c) _ _) (.refl _))

theorem sustains_positionFrame (m : QuadNo) (f : PositionFrame) : Sustains s (s.positionFrame m f) :=
  (sustains_judgePort s _ _).trans
    (.ite _ (.trans (.foldl _ (fun s p => sustains_setPresent s p false) _ _) (sustains_goOffline _ _))
      (.ite _ (.foldl _ (fun s _ => sustains_slotFrame s _ _) _ _) (.refl _)))

theorem sustains_slotReadyIn (i : ChanNo) (b : Bool) : Sustains s (s.slotReadyIn i b) :=
  Sustains.trans (t := { s with rcu := { s.rcu with slotReady := s.rcu.slotReady.set i b } }) (.of_eq rfl rfl rfl)
    (does_readyChange (K := rangeless) trivial _ _ _).sustains

theorem sustains_recorderFrame (f : RecorderFrame) : Sustains s (s.recorderFrame f) :=
  (sustains_judgePort s _ _).trans
    (.ite _ (does_recorderLost (K := rangeless) trivial _).sustains
      (.ite _ (.trans (.ite _ (.refl _) (does_recorderBack (K := rangeless) trivial trivial _).sustains)
        (.foldl _ (fun s i => sustains_slotReadyIn s i _) _ _)) (.refl _)))

theorem sustains_takeFrames (f : Inbound) : Sustains s (s.takeFrames f) := by
  rw [takeFrames_eq]
  have lines : Sustains s (s.takeLines f) := .foldl _ (fun s m => sustains_lineFrame s m _) _ s
  have positions (t : State) : Sustains t (t.takePositions f) := .foldl _ (fun s m => sustains_positionFrame s m _) _ t
  exact (lines.trans (positions _)).trans (sustains_recorderFrame _ _)

theorem sustains_inboundPeriod (f : Inbound) : Sustains s (s.inboundPeriod f) :=
  .ite _ ((sustains_mixFrame s).trans (sustains_takeFrames _ f)) ((sustains_takeFrames s f).trans (sustains_mixFrame _))

/-! #### Time -/

theorem sustains_ticks : Sustains s s.stepGens.lineTimers.denialSteps.talkTimeouts := by
  have timers (s : State) : Does rangeless s s.lineTimers := does_lineTimers (calls_rangeless _) trivial s
  have denials (s : State) : Does rangeless s s.denialSteps := (Update.psc s _).does trivial
  have talk (s : State) : Does rangeless s s.talkTimeouts := does_timeoutStep trivial trivial s _
  exact (sustains_stepGens s).trans (((timers _).trans (denials _)).trans (talk _)).sustains

theorem sustains_cadenceStep : Sustains s s.cadenceStep :=
  Sustains.trans (t := { s with cdu := { s.cdu with clock := s.cdu.clock + 1 } }) (.of_eq rfl rfl rfl)
    (.ite _ (sustains_ticks _) (.refl _))

theorem sustains_framePeriod (f : Inbound) : Sustains s (s.framePeriod f) := by
  have begun : Sustains s (s.sendFrames.storeSamples f) := .of_eq rfl rfl rfl
  have step (t : State) : Sustains t t.periodStep := .ite _ (sustains_cadenceStep t) (.refl t)
  have bound (t : State) : Sustains t t.initBound := .ite _ (sustains_endInit t) (.refl t)
  rw [framePeriod_eq]
  exact ((begun.trans (sustains_inboundPeriod _ f)).trans (step _)).trans (bound _)

end

/-! #### Commands -/

theorem sustains_whileRunning {f : State → State} {s : State} (h : Sustains s (f s)) : Sustains s (whileRunning f s) :=
  .ite _ h (.refl s)

theorem sustains_live {f : State → State} {s t : State} (h : live f s = .next t) (hf : Sustains s (f s)) : Sustains s t := by
  obtain rfl := Host.Outcome.next.inj h
  exact .ite _ (.refl s) hf

/-- Every command keeps the ranges, and the sources without a cycle. -/
theorem sustains_exec (c : Instr) {s t : State} (h : exec c s = .next t) : Sustains s t := by
  have all : Calls rangeless fun _ => True := calls_rangeless _
  have one (l : LineNo) : Calls rangeless (· = l) := calls_rangeless _
  have call {f : State → State} (h : live (whileRunning f) s = .next t) (hf : Does rangeless s (f s)) : Sustains s t :=
    sustains_live h (sustains_whileRunning hf.sustains)
  cases c
  case hardReset m => obtain rfl := Host.Outcome.next.inj h; exact sustains_hardReset s m
  case rstLow => obtain rfl := Host.Outcome.next.inj h; exact .of_eq rfl rfl rfl
  case initEnd => exact sustains_live h (sustains_endInit s)
  case framePeriod f => exact sustains_live (f := fun s => s.framePeriod f) h (sustains_framePeriod s f)
  case cadenceStep => exact sustains_live h (sustains_cadenceStep s)
  case generatorWrap n => exact sustains_live (f := fun s => s.wrapGen n) h (sustains_wrapGen s n)
  case oneshotCompletion n => exact sustains_live (f := fun s => s.completeGen n) h (sustains_completeGen s n)
  case ringTimerExpiry l => exact sustains_live (f := fun s => s.ringExpiry l) h (does_ringExpiry (one l) s).sustains
  case answerTimerExpiry l =>
    exact sustains_live (f := fun s => s.answerExpiry l) h (does_answerExpiry (one l) s).sustains
  case hangTimerExpiry l => exact sustains_live (f := fun s => s.hangExpiry l) h (does_hangExpiry (one l) s).sustains
  case guardTimerExpiry l => exact sustains_live (f := fun s => s.guardExpiry l) h (does_guardExpiry (one l) s).sustains
  case denialExpiry p =>
    exact sustains_live (f := fun s => s.endDenial p) h (does_setPosition (K := rangeless) trivial s p _).sustains
  case talkTimeout g => exact call (f := fun s => s.timeoutStep [g]) h (does_timeoutStep trivial trivial s [g])
  case closeCountExpiry c => exact call (f := fun s => s.closeExpiry c) h (does_closeExpiry trivial trivial s c)
  case keyDown p b => exact sustains_live (f := fun s => s.keyDown p b) h (sustains_keyDown s p b)
  case keyUp p b => exact sustains_live (f := fun s => s.keyUp p b) h (sustains_keyUp s p b)
  case hook p a v => exact sustains_live (f := fun s => s.hookCell p a v) h (sustains_hookCell s p a v)
  case level p e v => exact sustains_live (f := fun s => s.levelCell p e v) h (sustains_levelCell s p e v)
  case lineRequest p a l k => exact call (f := fun s => s.lineRequest p a l k) h (does_lineRequest all trivial s p a l k)
  case releaseRequest p a k => exact call (f := fun s => s.releaseKey p a k) h (does_releaseKey all trivial s p a k)
  case hookRelease p a => exact call (f := fun s => s.hookRelease p a) h (does_hookRelease all s p a)
  case holdRequest p a k => exact call (f := fun s => s.holdKey p a k) h (does_holdKey all trivial s p a k)
  case privacyToggle p a k => exact call (f := fun s => s.privacyKey p a k) h (does_privacyKey all trivial s p a k)
  case speakerTalkSet p c b => exact call (f := fun s => s.speakerTalk p c b) h (does_speakerTalk trivial s p c b)
  case ringRequest l => exact sustains_live (f := fun s => s.ringRequest l) h (sustains_ringRequest s l)
  case demandToggle l => exact call (f := fun s => s.toggleDemand l) h (does_toggleDemand trivial s l trivial)
  case talkRequest p g c k =>
    exact call (f := fun s => s.talkRequest p g c k) h (does_talkRequest trivial trivial trivial s p g c k)
  case talkRelease p g => exact call (f := fun s => s.talkRelease p g) h (does_talkRelease trivial trivial s p g)
  all_goals
    rw [exec_request _ _ (by trivial)] at h
    exact sustains_live h (sustains_takeRequest s _)

theorem sustains_step {s t : State} (h : step s = .next t) : Sustains s t := by
  unfold step at h
  split at h
  · obtain rfl := Host.Outcome.next.inj h
    exact .refl s
  · next rest _ => exact Sustains.trans (t := { s with pending := rest }) (.of_eq rfl rfl rfl) (sustains_exec _ h)

/-- Settles O9: every operation keeps what is in range, and no write closes a cycle of sources. -/
theorem rangesKept : Obligations.RangesKept :=
  ⟨fun _ _ ranges h => (sustains_step h).ranges ranges, fun _ _ ends h => (sustains_step h).sources ends⟩

end Sys2Proof.Machine

namespace Sys2Proof.Machine

/-! ### Writes of TONE and REC_MODE (O49) -/

/-! #### TONE (R107, R108, R197) -/

section
variable {s : State} {index : U16}

theorem toneSampleAt_eq {t : ToneNo} {k : Fin 256} (h : index.toNat = 256 * t.val + k.val) :
    toneSampleAt index.toNat = (t, k) := by
  have tone : index.toNat / 256 % 4 = t.val := by omega
  have sample : index.toNat % 256 = k.val := by omega
  exact Prod.ext (Fin.ext tone) (Fin.ext sample)

/-- R107: the number of the tone source that a control index names. -/
theorem controlNumber_eq {t : ToneNo} (h : index.toNat = 1024 + t.val) : numOf 4 (index.toNat - 1024) = some t :=
  numOf_eq_val (by omega)

/-- R107: the clamps of a length and a level. -/
theorem toneClamps_iff (length level : U16) : (beyond 8 256 length.toNat || gainClamps level) = true ↔
    length.toNat < 8 ∨ 256 < length.toNat ∨ 32767 < level.toNat := by
  simp [beyond, gainClamps, or_assoc]

theorem judgeTone_sample {t : ToneNo} {k : Fin 256} (h : index.toNat = 256 * t.val + k.val) (v : U16) :
    s.judgeTone index (.sample v) = (s.storeToneSample t k v).accept false := by
  show (s.storeToneSample (toneSampleAt index.toNat).1 (toneSampleAt index.toNat).2 v).accept false = _
  rw [toneSampleAt_eq h]

theorem judgeTone_beyond (h : 1027 < index.toNat) (length level : U16) :
    s.judgeTone index (.control length level) = s.refuse .badIndex := by
  have none : numOf 4 (index.toNat - 1024) = none := numOf_of_le (by omega)
  unfold State.judgeTone
  rw [none]

theorem judgeTone_control {t : ToneNo} (h : index.toNat = 1024 + t.val) (length level : U16) :
    s.judgeTone index (.control length level) =
      (s.storeToneControl t (max 8 (min length.toNat 256)) (min level.toNat 32767)).accept
        (beyond 8 256 length.toNat || gainClamps level) := by
  have gain : gainOf level = min level.toNat 32767 := by simp [gainOf, clampTo]
  unfold State.judgeTone
  rw [controlNumber_eq h, ← gain]
  rfl

variable (sv : s.serving) (tag : U16)
include sv

theorem exec_writeTone (e : ToneEntry) (fits : e.fits index = true) : exec (.writeTone tag index e) s =
    .next ((s.judgeTone index e).state.respond 2 tag (s.judgeTone index e).code (s.judgeTone index e).data) :=
  exec_judged sv tag (i := .writeTone tag index e) trivial (fun s => s.judgeTone index e) (if_pos fits)

/-- R197: a body that does not fit the index makes the cell malformed. -/
theorem exec_writeTone_malformed (e : ToneEntry) (misfit : e.fits index = false) :
    exec (.writeTone tag index e) s = .next (s.respond 2 tag .badRequest []) := by
  obtain ⟨awake, -, room⟩ := sv
  have malformed : s.takeRequest (.writeTone tag index e) = s.badRequest 2 tag := if_neg (by simp [misfit])
  rw [exec_takes awake (.writeTone tag index e) trivial, malformed, State.badRequest, State.responseRoom,
    if_pos (decide_eq_true room)]

end

/-! #### REC_MODE (R146) -/

section
variable {s : State} {index : U16} {mode : Byte}

theorem recModeOf_eq_none (h : 1 < mode.toNat) : recModeOf mode = none := by
  unfold recModeOf
  split <;> first | rfl | omega

theorem recModeOf_eq_some (h : mode.toNat ≤ 1) : recModeOf mode = some (if mode = 0 then .mono else .stereo) := by
  obtain zero | one : mode.toNat = 0 ∨ mode.toNat = 1 := by omega
  · obtain rfl : mode = 0 := BitVec.eq_of_toNat_eq zero
    rfl
  · obtain rfl : mode = 1 := BitVec.eq_of_toNat_eq one
    rfl

theorem judgeRecMode_index (h : index ≠ 0) : s.judgeRecMode index mode = s.refuse .badIndex := if_pos h

theorem judgeRecMode_value (h : 1 < mode.toNat) : s.judgeRecMode 0 mode = s.refuse .badValue := by
  simp [State.judgeRecMode, recModeOf_eq_none h]

theorem judgeRecMode_locked (h : mode.toNat ≤ 1) (run : s.mga.phase = .running) :
    s.judgeRecMode 0 mode = s.refuse .modeLocked := by
  simp [State.judgeRecMode, recModeOf_eq_some h, State.running, run]

theorem judgeRecMode_taken (h : mode.toNat ≤ 1) (held : s.mga.phase = .held) : s.judgeRecMode 0 mode =
    ({ s with rcu := { s.rcu with mode := if mode = 0 then .mono else .stereo } } : State).accept false := by
  simp [State.judgeRecMode, recModeOf_eq_some h, State.running, held]

end

/-- Settles O49: the index decides which body fits; what is judged then follows the entry. -/
theorem writeToneAndRecMode : Obligations.WriteToneAndRecMode := by
  intro tag index s sv
  refine ⟨fun v => ⟨fun t k h => ?_, fun h => ?_⟩, fun length level => ⟨fun h => ?_, fun h => ?_, fun t h => ?_⟩,
    fun mode => ?_⟩
  · rw [exec_writeTone sv tag (.sample v) (decide_eq_true (by omega)), judgeTone_sample h]
    rfl
  · exact exec_writeTone_malformed sv tag _ (decide_eq_false (by omega))
  · exact exec_writeTone_malformed sv tag _ (decide_eq_false (by omega))
  · rw [exec_writeTone sv tag (.control length level) (decide_eq_true (by omega)), judgeTone_beyond h]
    rfl
  · rw [exec_writeTone sv tag (.control length level) (decide_eq_true (by omega)), judgeTone_control h,
      ← if_congr (toneClamps_iff length level) rfl rfl]
    rfl
  · intro i
    have judged : exec i s = .next ((s.judgeRecMode index mode).state.respond 2 tag (s.judgeRecMode index mode).code
        (s.judgeRecMode index mode).data) := exec_judged sv tag (i := i) trivial (fun s => s.judgeRecMode index mode) rfl
    refine ⟨fun h => ?_, fun h bad => ?_, fun h code run => ?_, fun h code held => ?_⟩
    · rw [judged, judgeRecMode_index h]
      rfl
    · rw [judged, h, judgeRecMode_value bad]
      rfl
    · rw [judged, h, judgeRecMode_locked code run]
      rfl
    · rw [judged, h, judgeRecMode_taken code held]
      rfl

end Sys2Proof.Machine

namespace Sys2Proof.Machine

/-! ### The computation of one output (O59) -/

/-! #### Gains and sums (R102, R103) -/

section
variable {c : Contribution} {cs cs' : List Contribution} {d : Nat}

theorem effectiveGain_ducked (h : c.ducked = true) (d : Nat) : effectiveGain c d = (c.gain * d + 8192) / 16384 := if_pos h

theorem effectiveGain_unducked (h : c.ducked = false) (d : Nat) : effectiveGain c d = c.gain :=
  if_neg (by simp [h])

/-- R102: ducking raises no gain. -/
theorem effectiveGain_le (c : Contribution) (h : d ≤ 16384) : effectiveGain c d ≤ c.gain := by
  cases ducked : c.ducked with
  | false => exact (effectiveGain_unducked ducked d).le
  | true =>
    have product : c.gain * d ≤ c.gain * 16384 := Nat.mul_le_mul_left _ h
    rw [effectiveGain_ducked ducked]
    omega

theorem effectiveGain_unity (c : Contribution) : effectiveGain c 16384 = c.gain := by
  cases ducked : c.ducked with
  | false => exact effectiveGain_unducked ducked _
  | true => rw [effectiveGain_ducked ducked]; omega

theorem effectiveGain_zero (h : c.ducked = true) : effectiveGain c 0 = 0 := by
  rw [effectiveGain_ducked h]
  omega

theorem mixSum_nil (d : Nat) : mixSum [] d = 0 := rfl

theorem mixSum_cons (c : Contribution) (cs : List Contribution) (d : Nat) :
    mixSum (c :: cs) d = c.sample * (effectiveGain c d : Int) + mixSum cs d := List.sum_cons

/-- R103: the sum is exact, so the order of the contributions does not matter. -/
theorem mixSum_perm (h : cs.Perm cs') (d : Nat) : mixSum cs d = mixSum cs' d := (h.map _).sum_eq

/-- The values of a contribution are in the ranges of a sample and of a gain. -/
def Contribution.inRange (c : Contribution) : Prop := -32768 ≤ c.sample ∧ c.sample ≤ 32767 ∧ c.gain ≤ 32767

/-- R103: the product of a sample and a gain. -/
theorem product_bounds (h : c.inRange) (hd : d ≤ 16384) :
    -1073709056 ≤ c.sample * (effectiveGain c d : Int) ∧ c.sample * (effectiveGain c d : Int) ≤ 1073709056 := by
  obtain ⟨low, high, gain⟩ := h
  have ducked := effectiveGain_le c hd
  constructor <;> nlinarith

/-- R103: the sum of a list of `n` contributions. -/
theorem mixSum_bounds (h : ∀ c ∈ cs, c.inRange) (hd : d ≤ 16384) :
    -1073709056 * (cs.length : Int) ≤ mixSum cs d ∧ mixSum cs d ≤ 1073709056 * (cs.length : Int) := by
  induction cs with
  | nil => simp [mixSum_nil]
  | cons c cs ih =>
    have first := product_bounds (h c (by simp)) hd
    have rest := ih fun x hx => h x (by simp [hx])
    rw [mixSum_cons, List.length_cons]
    push_cast
    omega

end

/-! #### Scale, volume and clamp (R104, R105) -/

theorem roundScale_unity (y : Int) : roundScale (y * ((16384 : Nat) : Int)) = y := by
  unfold roundScale
  push_cast
  omega

theorem clampSample_low {z : Int} (h : z < -32768) : clampSample z = -32768 := by
  unfold clampSample
  omega

theorem clampSample_within {z : Int} (low : -32768 ≤ z) (high : z ≤ 32767) : clampSample z = z := by
  unfold clampSample
  omega

theorem clampSample_high {z : Int} (h : 32767 < z) : clampSample z = 32767 := by
  unfold clampSample
  omega

/-- A clamped value is a sample. -/
theorem toInt_clampSample (z : Int) : (BitVec.ofInt 16 (clampSample z)).toInt = clampSample z := by
  have low : -32768 ≤ clampSample z := by unfold clampSample; omega
  have high : clampSample z ≤ 32767 := by unfold clampSample; omega
  rw [BitVec.toInt_ofInt]
  exact Int.bmod_eq_of_le (by omega) (by omega)

section
variable {s : State} {o : Output}

/-- R103, R104: the value of an output before saturation. -/
def State.outputValue (s : State) (o : Output) : Int := mixValue (s.mixList o) (s.duckOf o) (s.volumeOf o)

/-- R105: an output without contributions. -/
theorem output_of_nil (h : s.mixList o = []) : s.outputSample o = 0 ∧ s.outputClips o = false := by
  simp [State.outputSample, State.outputClips, mixSample, mixClips, h]

/-- R105: an output with contributions is the clamped value, and it counts as clamped when that is another. -/
theorem output_of_ne_nil (h : s.mixList o ≠ []) : (s.outputSample o).toInt = clampSample (s.outputValue o) ∧
    s.outputClips o = decide (clampSample (s.outputValue o) ≠ s.outputValue o) := by
  have nonempty : (s.mixList o).isEmpty = false := by simpa using h
  constructor
  · unfold State.outputSample mixSample
    rw [nonempty]
    exact toInt_clampSample _
  · unfold State.outputClips mixClips
    rw [nonempty]
    rfl

end

/-- Settles O59: the bounds by induction on the list, the outputs by the three cases of the clamp. -/
theorem outputsComputed : Obligations.OutputsComputed := by
  refine ⟨fun c d => ⟨fun h => effectiveGain_ducked h d, fun h => effectiveGain_unducked h d, effectiveGain_le c,
    effectiveGain_unity c, effectiveGain_zero⟩, fun s p => ⟨fun h => rfl, fun k => rfl⟩,
    fun d => ⟨mixSum_nil d, fun c cs => mixSum_cons c cs d, fun cs cs' h => mixSum_perm h d, ?_⟩, fun s o => ?_⟩
  · intro cs room hd ranges
    have bounds := mixSum_bounds (cs := cs) ranges hd
    refine ⟨by omega, by omega, fun short => ⟨by omega, by omega⟩⟩
  · intro cs y z
    have value : s.outputValue o = z := rfl
    refine ⟨output_of_nil, fun nonempty => ?_, fun silent => ?_, ?_, ?_, ?_⟩
    · obtain ⟨sample, clips⟩ := output_of_ne_nil nonempty
      rw [value] at sample clips
      refine ⟨fun low => ?_, fun low high => ?_, fun high => ?_⟩
      · rw [sample, clips, clampSample_low low]
        exact ⟨rfl, decide_eq_true (by omega)⟩
      · rw [sample, clips, clampSample_within low high]
        exact ⟨rfl, decide_eq_false (by simp)⟩
      · rw [sample, clips, clampSample_high high]
        exact ⟨rfl, decide_eq_true (by omega)⟩
    · simp [z, silent]
    · rintro l rfl
      exact ⟨rfl, roundScale_unity y⟩
    · rintro n rfl
      exact ⟨rfl, roundScale_unity y⟩
    · intro p
      refine ⟨?_, ?_, fun k => ?_⟩ <;> rintro rfl <;> rfl

end Sys2Proof.Machine

namespace Sys2Proof.Machine

/-! ### The mix frame (O58) -/

/-! #### The numbering of the outputs (R92) -/

section
variable {i : OutNo} {p : PosNo}

/-- The ten outputs of a position. -/
theorem outputAt_position {k : Nat} (h : i.val = 10 * p.val + k) (hk : k < 10) : outputAt i =
    if k = 0 then .ear p .left else if k = 1 then .ear p .right else .speaker p ⟨(k - 2) % 8, by omega⟩ := by
  have below : i.val < 320 := by omega
  have place : i.val % 10 = k := by omega
  have position : (⟨i.val / 10, by omega⟩ : PosNo) = p := Fin.ext (show i.val / 10 = p.val by omega)
  unfold outputAt
  simp only [below, place, position, dite_true]

theorem outputAt_speaker {k : SpkNo} (h : i.val = 10 * p.val + 2 + k.val) : outputAt i = .speaker p k := by
  have channel : (⟨(2 + k.val - 2) % 8, by omega⟩ : SpkNo) = k := Fin.ext (show (2 + k.val - 2) % 8 = k.val by omega)
  rw [outputAt_position (p := p) (k := 2 + k.val) (by omega) (by omega), if_neg (by omega), if_neg (by omega), channel]

theorem outputAt_lineOut {l : LineNo} (h : i.val = 320 + l.val) : outputAt i = .lineOut l := by
  have line : (⟨i.val - 320, by omega⟩ : LineNo) = l := Fin.ext (show i.val - 320 = l.val by omega)
  rw [outputAt, dif_neg (by omega), dif_pos (by omega), line]

theorem outputAt_slot {n : ChanNo} (h : i.val = 832 + n.val) : outputAt i = .slot n := by
  have slot : (⟨i.val - 832, by omega⟩ : ChanNo) = n := Fin.ext (show i.val - 832 = n.val by omega)
  rw [outputAt, dif_neg (by omega), dif_neg (by omega), slot]

end

/-! #### The clip counters (R106) -/

theorem raiseAll_cons (s : State) (o : Occurrence) (os : List Occurrence) :
    s.raiseAll (o :: os) = (s.raiseRunning o).raiseAll os := rfl

/-- What occurrences make of MGA's state depends on it and on the clock alone. -/
theorem raiseAll_mga_congr {s t : State} (mga : t.mga = s.mga) (now : t.now = s.now) (os : List Occurrence) :
    (t.raiseAll os).mga = (s.raiseAll os).mga := by
  induction os generalizing s t with
  | nil => exact mga
  | cons o os ih =>
    rw [raiseAll_cons, raiseAll_cons]
    refine ih ?_ (by rw [State.raiseRunning_now, State.raiseRunning_now, now])
    have running : t.running = s.running := by rw [State.running, State.running, mga]
    rw [State.raiseRunning_eq, State.raiseRunning_eq, running, mga, now]

/-- R106: what counting one clamp of each output of `ls` makes of a state. -/
structure Counted (ls : List OutNo) (s t : State) : Prop where
  frame : t = { s with mix := { s.mix with clips := t.mix.clips }, mga := t.mga }
  clips : ∀ i : OutNo, t.mix.clips[i] = if i ∈ ls then min (s.mix.clips[i] + 1) 65535 else s.mix.clips[i]
  mga : t.mga = (s.raiseAll ((ls.filter fun i => decide (s.mix.clips[i] = 0)).map .clip)).mga

section
variable {s : State}

theorem countClip_eq (s : State) (i : OutNo) : s.countClip i =
    { s with
      mix := { s.mix with clips := s.mix.clips.set i (min (s.mix.clips[i] + 1) 65535) }
      mga := (if s.mix.clips[i] = 0 then s.raiseRunning (.clip i) else s).mga } := by
  unfold State.countClip
  simp only
  split
  · simp only [State.raiseRunning_eq]
    rfl
  · rfl

theorem countClip_clips (s : State) (a i : OutNo) : (s.countClip a).mix.clips[i] =
    if i = a then min (s.mix.clips[i] + 1) 65535 else s.mix.clips[i] := by
  rw [countClip_eq]
  by_cases h : i = a
  · simp [h]
  · have ne : a.val ≠ i.val := fun e => h (Fin.ext e.symm)
    simp [h, ne]

theorem counted_foldl {ls : List OutNo} (nodup : ls.Nodup) (s : State) : Counted ls s (ls.foldl State.countClip s) := by
  induction ls generalizing s with
  | nil => exact ⟨rfl, fun _ => rfl, rfl⟩
  | cons a ls ih =>
    obtain ⟨fresh, nodup⟩ := List.nodup_cons.1 nodup
    have rest := ih nodup (s.countClip a)
    have kept (i : OutNo) (hi : i ∈ ls) : (s.countClip a).mix.clips[i] = s.mix.clips[i] := by
      rw [countClip_clips, if_neg fun e : i = a => fresh (e ▸ hi)]
    rw [List.foldl_cons]
    refine ⟨?_, fun i => ?_, ?_⟩
    · rw [rest.frame, countClip_eq]
    · rw [rest.clips, countClip_clips]
      by_cases hi : i = a
      · simp [hi, fresh]
      · simp [hi]
    · have later : ls.filter (fun i => decide ((s.countClip a).mix.clips[i] = 0)) =
          ls.filter fun i => decide (s.mix.clips[i] = 0) := List.filter_congr fun i hi => by rw [kept i hi]
      rw [rest.mga, later]
      by_cases zero : s.mix.clips[a] = 0
      · rw [List.filter_cons_of_pos (by simpa using zero), List.map_cons, raiseAll_cons]
        refine raiseAll_mga_congr ?_ ?_ _
        · rw [countClip_eq, if_pos zero]
        · rw [countClip_eq, State.raiseRunning_now]
          rfl
      · rw [List.filter_cons_of_neg (by simpa using zero)]
        refine raiseAll_mga_congr ?_ ?_ _
        · rw [countClip_eq, if_neg zero]
        · rw [countClip_eq]
          rfl

/-- The outputs clamped in this frame. -/
theorem clipped_eq (s : State) :
    s.clipped = (List.finRange 960).filter fun i => s.running && s.outputClips (outputAt i) := by
  unfold State.clipped
  split
  · next run => simp [run]
  · next held => simp [held]

theorem nodup_clipped (s : State) : s.clipped.Nodup := by
  rw [clipped_eq]
  exact (List.nodup_finRange 960).filter _

/-! #### A mix frame before its closings -/

theorem advanceTones_eq (s : State) : s.advanceTones =
    { s with mix := { s.mix with tones := if s.running then s.mix.tones.map Tone.advance else s.mix.tones } } := by
  unfold State.advanceTones
  split <;> rfl

/-- R90: the frame's outputs handed over and their clamps counted. -/
def State.framed (s : State) : State := s.clipped.foldl State.countClip { s with lif := { s.lif with prepared := s.mixed } }

theorem mixFrame_eq (s : State) : s.mixFrame = s.framed.advanceTones.closeSteps := rfl

theorem counted_framed (s : State) : Counted s.clipped { s with lif := { s.lif with prepared := s.mixed } } s.framed :=
  counted_foldl (nodup_clipped s) _

/-- What a mix frame does before its closings changes the hand-over, the mixer's own state and MGA's alone. -/
theorem framed_eq (s : State) : s.framed.advanceTones =
    { s with
      lif := { s.lif with prepared := s.mixed }
      mix := { clips := s.framed.mix.clips
               tones := if s.running then s.mix.tones.map Tone.advance else s.mix.tones }
      mga := s.framed.mga } := by
  have frame := (counted_framed s).frame
  have running : s.framed.running = s.running := by
    have does : Does (· = .mix) { s with lif := { s.lif with prepared := s.mixed } } s.framed :=
      .foldl State.countClip s.clipped (fun s i _ => does_countClip (K := (· = .mix)) rfl s i) _
    exact does.running
  rw [advanceTones_eq, running, frame]

theorem framed_mga (s : State) : s.framed.mga = (s.raiseAll (((List.finRange 960).filter fun i =>
    (s.running && s.outputClips (outputAt i)) && decide (s.mix.clips[i] = 0)).map .clip)).mga := by
  have split : ((List.finRange 960).filter fun i =>
      (s.running && s.outputClips (outputAt i)) && decide (s.mix.clips[i] = 0)) =
      s.clipped.filter fun i => decide (s.mix.clips[i] = 0) := by
    rw [clipped_eq, List.filter_filter]
    exact List.filter_congr fun i _ => Bool.and_comm _ _
  rw [split]
  rw [(counted_framed s).mga]
  refine raiseAll_mga_congr ?_ ?_ _ <;> rfl

end

/-! #### The closings of a frame (R158, R159) -/

/-- A channel in CLOSING stays as it stands. -/
def KeepsClosing (c : ChanNo) (s t : State) : Prop := (s.chan c).state = .closing → t.chan c = s.chan c

section
variable {c d : ChanNo} {s t u : State}

theorem KeepsClosing.refl (c : ChanNo) (s : State) : KeepsClosing c s s := fun _ => rfl

theorem KeepsClosing.trans (h : KeepsClosing c s t) (k : KeepsClosing c t u) : KeepsClosing c s u := fun closing => by
  have first := h closing
  exact (k (by rw [first]; exact closing)).trans first

theorem KeepsClosing.of_chan (h : t.chan c = s.chan c) : KeepsClosing c s t := fun _ => h

theorem KeepsClosing.ite {a b : State} (p : Prop) [Decidable p] (h : KeepsClosing c s a) (k : KeepsClosing c s b) :
    KeepsClosing c s (if p then a else b) := by
  split
  · exact h
  · exact k

theorem KeepsClosing.foldl {α : Type} (f : State → α → State) (ls : List α)
    (h : ∀ s, ∀ a ∈ ls, KeepsClosing c s (f s a)) (s : State) : KeepsClosing c s (ls.foldl f s) := by
  induction ls generalizing s with
  | nil => exact .refl c s
  | cons a ls ih => exact (h s a (by simp)).trans (ih (fun s b hb => h s b (by simp [hb])) _)

theorem KeepsClosing.raised (h : KeepsClosing c s t) (o : Occurrence) : KeepsClosing c s (t.raiseRunning o) :=
  h.trans (.of_chan (State.raiseRunning_chan t o c))

theorem keepsClosing_setChan (r : Chan) (h : d ≠ c) : KeepsClosing c s (s.setChan d r) :=
  .of_chan (State.setChan_chan_ne s r h)

theorem keepsClosing_setKeptNeed (s : State) (x : Target) (n : Need) : KeepsClosing c s (s.setKeptNeed x n) :=
  .of_chan (State.setKeptNeed_chan s x n c)

/-- R150: only a STOPPED channel is bound. -/
theorem keepsClosing_bindTo (h : s.allocatable = some d) (x : Target) (cause : RecordCause) :
    KeepsClosing c s (s.bindTo d x cause) := fun closing => by
  have ne : d ≠ c := fun e => by
    have stopped := allocatable_stopped h
    rw [e, closing] at stopped
    cases stopped
  unfold State.bindTo
  exact (State.raiseRunning_chan _ _ c).trans (State.setChan_chan_ne s _ ne)

/-- R158: only a bound channel begins a closing. -/
theorem keepsClosing_noLongerNeeds (s : State) (x : Target) : KeepsClosing c s (s.noLongerNeeds x) := fun closing => by
  unfold State.noLongerNeeds
  split
  · next d bound =>
    have ne : d ≠ c := fun e => by
      have isBound := List.find?_some bound
      rw [e, closing] at isBound
      cases isBound
    exact (State.raiseRunning_chan _ _ c).trans (State.setChan_chan_ne s _ ne)
  · rfl

theorem keepsClosing_rankChange (s : State) (x : Target) (r : Rank) : KeepsClosing c s (s.rankChange x r) := by
  unfold State.rankChange
  refine .ite _ (.refl c s) (.trans (t := { s with rcu := { s.rcu with
    waiting := s.rcu.waiting.map (fun e => if e.target = x then { e with rank := r } else e) } }) (.of_chan rfl) ?_)
  exact .ite _ (.raised (.refl c _) _) (.refl c _)

theorem keepsClosing_needsRecording (s : State) (x : Target) (r : Rank) : KeepsClosing c s (s.needsRecording x r) := by
  unfold State.needsRecording
  refine .ite _ (keepsClosing_rankChange s x r) ?_
  split
  · next d free => exact keepsClosing_bindTo free x .need
  · unfold State.joinWaitList
    exact .of_chan (State.raiseRunning_chan _ _ c)

theorem keepsClosing_recordingCheck {x : Target} {policy : PolicyCode} (h : s.recordingCheck x policy = some t) :
    KeepsClosing c s t := by
  unfold State.recordingCheck State.ask at h
  split_ifs at h
  · exact Option.some.inj h ▸ .refl c s
  · exact Option.some.inj h ▸ .refl c s
  · split at h
    · next d free =>
      obtain rfl := Option.some.inj h
      exact (keepsClosing_bindTo free x .admission).trans (keepsClosing_setKeptNeed _ x .mandatory)
    · cases h

theorem keepsClosing_passStop (s : State) (n : NeedChange) : KeepsClosing c s (s.passStop n) := by
  unfold State.passStop
  exact .ite _ ((keepsClosing_setKeptNeed s _ _).trans (keepsClosing_noLongerNeeds _ _)) (.refl c s)

theorem keepsClosing_passRank (s : State) (n : NeedChange) : KeepsClosing c s (s.passRank n) := by
  unfold State.passRank
  split
  · exact (keepsClosing_setKeptNeed s _ _).trans (keepsClosing_rankChange _ _ _)
  · exact (keepsClosing_setKeptNeed s _ _).trans (keepsClosing_rankChange _ _ _)
  · exact .refl c s

theorem keepsClosing_passStart (s : State) (n : NeedChange) : KeepsClosing c s (s.passStart n) := by
  unfold State.passStart
  split
  · exact (keepsClosing_setKeptNeed s _ _).trans (keepsClosing_needsRecording _ _ _)
  · exact (keepsClosing_setKeptNeed s _ _).trans (keepsClosing_needsRecording _ _ _)
  · exact .refl c s

theorem keepsClosing_reResolve (s : State) (ts : List Target) : KeepsClosing c s (s.reResolve ts) :=
  ((KeepsClosing.foldl _ _ (fun s n _ => keepsClosing_passStop s n) s).trans
    (.foldl _ _ (fun s n _ => keepsClosing_passRank s n) _)).trans (.foldl _ _ (fun s n _ => keepsClosing_passStart s n) _)

theorem keepsClosing_promoteEntry (g : GroupNo) (s : State) (e : TalkEntry) :
    KeepsClosing c s (State.promoteEntry g s e) := by
  unfold State.promoteEntry
  refine .ite _ ?_ (.refl c s)
  split
  · next u checked => exact (keepsClosing_recordingCheck checked).trans (.raised (.of_chan (State.setGroup_chan u g _ c)) _)
  · exact .refl c s

theorem keepsClosing_tryPromotions (s : State) : KeepsClosing c s s.tryPromotions :=
  (KeepsClosing.foldl State.promote _ (fun s g _ => .foldl _ _ (fun s e _ => keepsClosing_promoteEntry g s e) s) s).trans
    (keepsClosing_reResolve _ _)

theorem keepsClosing_serveUpTo (n : Nat) (s : State) : KeepsClosing c s (State.serveUpTo n s) := by
  induction n generalizing s with
  | zero => exact .refl c s
  | succ n ih =>
    refine .trans ?_ (ih _)
    unfold State.serveOnce
    split
    · next e _ d _ free => exact keepsClosing_bindTo free _ .wait
    · exact .refl c s

theorem keepsClosing_serve (s : State) : KeepsClosing c s s.serve := by
  unfold State.serve
  exact .ite _ ((keepsClosing_serveUpTo _ s).trans (keepsClosing_tryPromotions _)) (keepsClosing_serveUpTo _ s)

theorem keepsClosing_closeExpiry (s : State) (h : d ≠ c) : KeepsClosing c s (s.closeExpiry d) := by
  unfold State.closeExpiry
  exact .ite _ (.ite _ ((keepsClosing_setChan _ h).trans (keepsClosing_serve _)) (keepsClosing_setChan _ h)) (.refl c s)

/-- R159: a channel whose closing has ended. -/
def Chan.freed (r : Chan) : Chan := { r with state := .stopped, target := none, closeCount := 0 }

/-- R159: while the recorder port is not UP an expiry frees its channel and does nothing else. -/
theorem closeExpiry_chan_down (down : s.portUp recPort = false) (d c : ChanNo) : (s.closeExpiry d).chan c =
    if c = d ∧ (s.chan c).state = .closing then (s.chan c).freed else s.chan c := by
  have down' (r : Chan) : (s.setChan d r).portUp recPort = false := down
  unfold State.closeExpiry
  by_cases h : c = d
  · subst h
    simp only [down', true_and, Bool.false_eq_true, if_false]
    split
    · exact State.setChan_chan_self _ _ _
    · rfl
  · simp only [down', h, false_and, Bool.false_eq_true, if_false]
    split
    · exact State.setChan_chan_ne _ _ (Ne.symm h)
    · rfl

theorem closeExpiries_chan_down (down : s.portUp recPort = false) (ls : List ChanNo) (c : ChanNo) :
    (ls.foldl State.closeExpiry s).chan c =
      if c ∈ ls ∧ (s.chan c).state = .closing then (s.chan c).freed else s.chan c := by
  induction ls generalizing s with
  | nil => simp
  | cons d ls ih =>
    have down' : (s.closeExpiry d).portUp recPort = false := by
      rw [State.portUp, State.port, (calm_closeExpiry s d).lif]
      exact down
    rw [List.foldl_cons, ih down', closeExpiry_chan_down down]
    by_cases h : c = d
    · by_cases closing : (s.chan c).state = .closing
      · simp [h, h ▸ closing, Chan.freed]
      · simp [h, h ▸ closing]
    · simp [h]

/-- R158: the close counts fall. -/
def State.closesCounted (s : State) : State := { s with rcu := { s.rcu with chans := s.rcu.chans.map Chan.closeStep } }

/-- R159: the channels whose close count has reached 0. -/
def State.closesDone (s : State) : List ChanNo :=
  (List.finRange 128).filter fun c => decide ((s.chan c).state = .closing) && decide ((s.chan c).closeCount = 0)

theorem closeSteps_eq (s : State) : s.closeSteps = s.closesCounted.closesDone.foldl State.closeExpiry s.closesCounted := rfl

theorem closesCounted_chan (s : State) (c : ChanNo) : s.closesCounted.chan c = (s.chan c).closeStep := by
  simp [State.closesCounted, State.chan]

theorem mem_closesDone : c ∈ s.closesDone ↔ (s.chan c).state = .closing ∧ (s.chan c).closeCount = 0 := by
  simp [State.closesDone]

theorem closeStep_of_closing {r : Chan} (h : r.state = .closing) : r.closeStep = { r with closeCount := r.closeCount - 1 } :=
  if_pos h

theorem closeStep_of_not_closing {r : Chan} (h : r.state ≠ .closing) : r.closeStep = r := if_neg h

theorem closeSteps_still (h : ∀ c, (s.chan c).state ≠ .closing) : s.closeSteps = s := by
  have same : s.rcu.chans.map Chan.closeStep = s.rcu.chans :=
    Vector.ext fun i hi => by rw [Vector.getElem_map]; exact closeStep_of_not_closing (h ⟨i, hi⟩)
  have counted : s.closesCounted = s := by rw [State.closesCounted, same]
  have none : s.closesDone = [] := List.filter_eq_nil_iff.2 fun c _ => by simp [h c]
  rw [closeSteps_eq, counted, none]
  rfl

/-- R158: a closing that is not over goes on, whatever the closings that end bring. -/
theorem closeSteps_goesOn (closing : (s.chan c).state = .closing) (h : 1 < (s.chan c).closeCount) :
    s.closeSteps.chan c = { s.chan c with closeCount := (s.chan c).closeCount - 1 } := by
  have counted : s.closesCounted.chan c = { s.chan c with closeCount := (s.chan c).closeCount - 1 } := by
    rw [closesCounted_chan, closeStep_of_closing closing]
  have goesOn : c ∉ s.closesCounted.closesDone := fun done => by
    obtain ⟨-, zero⟩ := mem_closesDone.1 done
    rw [counted] at zero
    exact absurd zero (Nat.sub_ne_zero_of_lt h)
  have kept : KeepsClosing c s.closesCounted s.closeSteps :=
    .foldl State.closeExpiry _ (fun s d hd => keepsClosing_closeExpiry s fun e : d = c => goesOn (e ▸ hd)) _
  rw [kept (by rw [counted]; exact closing), counted]

/-- R159: a closing that ends while the recorder port is not UP. -/
theorem closeSteps_ends (down : s.portUp recPort = false) (closing : (s.chan c).state = .closing)
    (h : (s.chan c).closeCount ≤ 1) : s.closeSteps.chan c = (s.chan c).freed := by
  have counted : s.closesCounted.chan c = { s.chan c with closeCount := (s.chan c).closeCount - 1 } := by
    rw [closesCounted_chan, closeStep_of_closing closing]
  have done : c ∈ s.closesCounted.closesDone := mem_closesDone.2 (by rw [counted]; exact ⟨closing, Nat.sub_eq_zero_of_le h⟩)
  rw [closeSteps_eq, closeExpiries_chan_down (s := s.closesCounted) down, counted, if_pos ⟨done, closing⟩]
  rfl

theorem closeSteps_other (down : s.portUp recPort = false) (other : (s.chan c).state ≠ .closing) :
    s.closeSteps.chan c = s.chan c := by
  have counted : s.closesCounted.chan c = s.chan c := by rw [closesCounted_chan, closeStep_of_not_closing other]
  rw [closeSteps_eq, closeExpiries_chan_down (s := s.closesCounted) down, counted, if_neg fun h => other h.2]

end

end Sys2Proof.Machine

namespace Sys2Proof.Machine

/-! #### Near sets (R93) -/

theorem filterMap_ite_some {α β : Type} (p : α → Bool) (f : α → β) (l : List α) :
    l.filterMap (fun x => if p x then some (f x) else none) = (l.filter p).map f := by
  rw [← List.filterMap_eq_map, List.filterMap_filter]
  rfl

section
variable {s : State} {l : LineNo} {p q : PosNo} {c : Conn} {v : Voice}

theorem bridge_eq (s : State) (l : LineNo) :
    s.bridge l = s.cxm.conns.filter fun c => decide (c.line = l) && c.place.isHandset := by
  rw [State.bridge, State.lineConns, List.filter_filter]
  exact List.filter_congr fun c _ => Bool.and_comm _ _

/-- R95: the position has an unheld handset connection on the line. -/
theorem bridge_any_unheld (s : State) (l : LineNo) (p : PosNo) :
    (s.bridge l).any (fun y => decide (y.pos = p) && y.place.isUnheld) =
      s.cxm.conns.any fun x => decide (x.line = l) && decide (x.pos = p) && x.place.isUnheld := by
  rw [Bool.eq_iff_iff, bridge_any_iff s l (fun q => decide (q = p)) _ fun x hx => isHandset_iff.2 (.inl hx)]
  simp only [List.any_eq_true, Bool.and_eq_true, decide_eq_true_eq, and_assoc]

theorem share_eq_exclusive : s.share l = .exclusive q ↔ ∃ c, s.bridge l = [c] ∧ s.cxm.privacy[l] = true ∧ c.pos = q := by
  constructor
  · intro h
    obtain ⟨one, flag⟩ := (share_exclusive_iff s l).1 ⟨q, h⟩
    obtain ⟨c, hc⟩ := List.length_eq_one_iff.1 one
    rw [share_one hc, if_pos flag] at h
    exact ⟨c, hc, flag, ShareState.exclusive.inj h⟩
  · rintro ⟨c, hc, flag, rfl⟩
    rw [share_one hc, if_pos flag]

theorem privateFrom_eq_false_iff : s.privateFrom l p = false ↔ ∀ q, s.share l = .exclusive q → q = p := by
  refine ⟨fun h q hq => ?_, privateFrom_eq_false⟩
  by_contra ne
  rw [privateFrom_eq_true hq ne] at h
  cases h

/-- R59: the one handset connection of a line whose privacy flag is set. -/
theorem exclusive_iff_bridge : (∀ q, s.share l = .exclusive q → q = p) ↔
    ∀ c ∈ s.bridge l, s.cxm.privacy[l] = true → (s.bridge l).length = 1 → c.pos = p := by
  constructor
  · intro h c hc flag one
    obtain ⟨d, hd⟩ := List.length_eq_one_iff.1 one
    rw [hd, List.mem_singleton] at hc
    exact h c.pos (share_eq_exclusive.2 ⟨c, hc ▸ hd, flag, rfl⟩)
  · intro h q hq
    obtain ⟨c, hc, flag, rfl⟩ := share_eq_exclusive.1 hq
    exact h c (by simp [hc]) flag (by simp [hc])

theorem handsetVoice_eq (s : State) (c : Conn) : s.handsetVoice c =
    if c.place.isUnheld && s.micsIn c.pos then some
      { pos := c.pos
        sample := if c.place = .left then (s.lif.mics[c.pos]).left.toInt else (s.lif.mics[c.pos]).right.toInt }
    else none := by
  unfold State.handsetVoice
  cases s.micsIn c.pos <;> cases c.place <;> rfl

theorem handsetVoice_eq_some : s.handsetVoice c = some v ↔ s.micsIn c.pos = true ∧ v.pos = c.pos ∧
    ((c.place = .left ∧ v.sample = (s.lif.mics[c.pos]).left.toInt) ∨
      (c.place = .right ∧ v.sample = (s.lif.mics[c.pos]).right.toInt)) := by
  obtain ⟨pos, sample⟩ := v
  rw [handsetVoice_eq]
  cases s.micsIn c.pos <;> cases c.place <;> simp [Place.isUnheld, eq_comm]

/-- R93: what puts a speaker microphone into the near set. -/
theorem speaksOn_iff : s.speaksOn l q = true ↔ s.micsIn q = true ∧ (s.line l).cfg.kind ≠ .hootLeg ∧
    (∀ p, s.share l = .exclusive p → p = q) ∧
    ∃ c ∈ s.cxm.conns, ∃ k : SpkNo, c.line = l ∧ c.pos = q ∧ c.place = .spk k ∧ c.talk = true := by
  have talks : ((s.monitors l).any fun c => decide (c.pos = q) && c.talk) = true ↔
      ∃ c ∈ s.cxm.conns, ∃ k : SpkNo, c.line = l ∧ c.pos = q ∧ c.place = .spk k ∧ c.talk = true := by
    simp only [List.any_eq_true, mem_monitors, Bool.and_eq_true, decide_eq_true_eq]
    constructor
    · rintro ⟨c, ⟨mem, line, k, place⟩, pos, talk⟩
      exact ⟨c, mem, k, line, pos, place, talk⟩
    · rintro ⟨c, mem, k, line, pos, place, talk⟩
      exact ⟨c, ⟨mem, line, k, place⟩, pos, talk⟩
  unfold State.speaksOn
  rw [Bool.and_eq_true, Bool.and_eq_true, Bool.and_eq_true, talks, Bool.not_eq_true', privateFrom_eq_false_iff,
    decide_eq_true_eq]
  constructor
  · rintro ⟨⟨⟨talk, shared⟩, kind⟩, mics⟩
    exact ⟨mics, kind, shared, talk⟩
  · rintro ⟨mics, kind, shared, talk⟩
    exact ⟨⟨⟨talk, shared⟩, kind⟩, mics⟩

/-- R93: a microphone of the near set. -/
theorem mem_near : v ∈ s.near l ↔ s.micsIn v.pos = true ∧
    ((∃ c ∈ s.cxm.conns, c.line = l ∧ v.pos = c.pos ∧
      ((c.place = .left ∧ v.sample = (s.lif.mics[c.pos]).left.toInt) ∨
        (c.place = .right ∧ v.sample = (s.lif.mics[c.pos]).right.toInt))) ∨
    (v.sample = s.speakerMic v.pos ∧ (s.line l).cfg.kind ≠ .hootLeg ∧ (∀ q, s.share l = .exclusive q → q = v.pos) ∧
      ∃ c ∈ s.cxm.conns, ∃ k : SpkNo, c.line = l ∧ c.pos = v.pos ∧ c.place = .spk k ∧ c.talk = true)) := by
  have handset : v ∈ (s.bridge l).filterMap s.handsetVoice ↔ s.micsIn v.pos = true ∧
      ∃ c ∈ s.cxm.conns, c.line = l ∧ v.pos = c.pos ∧
        ((c.place = .left ∧ v.sample = (s.lif.mics[c.pos]).left.toInt) ∨
          (c.place = .right ∧ v.sample = (s.lif.mics[c.pos]).right.toInt)) := by
    simp only [List.mem_filterMap, mem_bridge, handsetVoice_eq_some]
    constructor
    · rintro ⟨c, ⟨mem, line, -⟩, mics, pos, place⟩
      exact ⟨pos ▸ mics, c, mem, line, pos, place⟩
    · rintro ⟨mics, c, mem, line, pos, place⟩
      have unheld : c.place.isUnheld = true := isUnheld_iff.2 (place.imp And.left And.left)
      exact ⟨c, ⟨mem, line, isHandset_iff.2 (.inl unheld)⟩, pos ▸ mics, pos, place⟩
  have speaker : v ∈ ((List.finRange 32).filter (s.speaksOn l)).map
      (fun q => ({ pos := q, sample := s.speakerMic q } : Voice)) ↔
      s.speaksOn l v.pos = true ∧ v.sample = s.speakerMic v.pos := by
    simp only [List.mem_map, List.mem_filter, List.mem_finRange, true_and]
    constructor
    · rintro ⟨q, speaks, rfl⟩
      exact ⟨speaks, rfl⟩
    · rintro ⟨speaks, sample⟩
      exact ⟨v.pos, speaks, by rw [← sample]⟩
  rw [State.near, List.mem_append, handset, speaker, speaksOn_iff]
  constructor
  · rintro (⟨mics, h⟩ | ⟨⟨mics, h⟩, sample⟩)
    · exact ⟨mics, .inl h⟩
    · exact ⟨mics, .inr ⟨sample, h⟩⟩
  · rintro ⟨mics, h | ⟨sample, h⟩⟩
    · exact .inl ⟨mics, h⟩
    · exact .inr ⟨⟨mics, h⟩, sample⟩

/-- R93: the near set of a line, read off the connection table. -/
theorem near_eq (s : State) (l : LineNo) : s.near l =
    ((s.cxm.conns.filter fun c => decide (c.line = l) && c.place.isUnheld && s.micsIn c.pos).map fun c =>
      { pos := c.pos
        sample := if c.place = .left then (s.lif.mics[c.pos]).left.toInt else (s.lif.mics[c.pos]).right.toInt }) ++
    ((List.finRange 32).filter fun q => s.micsIn q && decide ((s.line l).cfg.kind ≠ .hootLeg) &&
        decide (∀ c ∈ s.bridge l, s.cxm.privacy[l] = true → (s.bridge l).length = 1 → c.pos = q) &&
        s.cxm.conns.any fun c => decide (c.line = l) && decide (c.pos = q) && !c.place.isHandset && c.talk).map
      fun q => { pos := q, sample := s.speakerMic q } := by
  unfold State.near
  congr 1
  · rw [funext (handsetVoice_eq s), filterMap_ite_some, bridge_eq, List.filter_filter]
    congr 1
    refine List.filter_congr fun c _ => ?_
    have handset : c.place.isUnheld = true → c.place.isHandset = true := fun h => isHandset_iff.2 (.inl h)
    cases unheld : c.place.isUnheld with
    | false => simp
    | true => simp [handset unheld, Bool.and_comm]
  · congr 1
    refine List.filter_congr fun q _ => ?_
    have speaker (c : Conn) : c.place.isHandset = false ↔ ∃ k, c.place = .spk k := by
      cases c.place <;> simp [Place.isHandset]
    rw [Bool.eq_iff_iff, speaksOn_iff, exclusive_iff_bridge]
    simp only [Bool.and_eq_true, decide_eq_true_eq, List.any_eq_true, Bool.not_eq_true', speaker, and_assoc,
      ← exists_and_left, ← exists_and_right]

theorem near_of_no_conns (h : s.lineConns l = []) : s.near l = [] := by
  refine List.eq_nil_iff_forall_not_mem.2 fun v hv => ?_
  have none (c : Conn) (mem : c ∈ s.cxm.conns) (line : c.line = l) : False := by
    have := mem_lineConns.2 ⟨mem, line⟩
    rw [h] at this
    cases this
  obtain ⟨-, ⟨c, mem, line, -⟩ | ⟨-, -, -, c, mem, k, line, -⟩⟩ := mem_near.1 hv
  · exact none c mem line
  · exact none c mem line

end

/-! #### Talkers, legs and the ring tone (R96, R98, R100) -/

section
variable (s : State) (g : GroupNo) (gain : Nat)

/-- The talkers of a group whose microphones enter lists (R90). -/
def State.talkersIn (s : State) (g : GroupNo) : List PosNo := ((s.group g).talkers.map (fun e => e.pos)).filter s.micsIn

/-- An unducked contribution. -/
def unducked (gain : Nat) (x : Int) : Contribution := { sample := x, gain := gain, ducked := false }

theorem talkersHeard_none :
    s.talkersHeard g none gain = (s.talkersIn g).map fun q => unducked gain (s.speakerMic q) := by
  have all (q : PosNo) : (decide ((none : Option PosNo) ≠ some q) && s.micsIn q) = s.micsIn q := by simp
  unfold State.talkersHeard
  simp only [all]
  rfl

theorem talkersHeard_some (p : PosNo) : s.talkersHeard g (some p) gain =
    ((s.talkersIn g).filter fun q => q ≠ p).map fun q => unducked gain (s.speakerMic q) := by
  unfold State.talkersHeard State.talkersIn entryPositions
  rw [List.filter_filter]
  congr 1
  exact List.filter_congr fun q _ => by simp [eq_comm]

theorem legsHeard_none : s.legsHeard g none gain = (s.legs g).map fun l => unducked gain (s.farSample l) := by
  unfold State.legsHeard
  rw [List.filter_eq_self.2 fun x _ => decide_eq_true (Option.some_ne_none x).symm]
  rfl

theorem legsHeard_some (l : LineNo) : s.legsHeard g (some l) gain =
    ((s.legs g).filter fun x => x ≠ l).map fun x => unducked gain (s.farSample x) := by
  have other (x : LineNo) : decide (some l ≠ some x) = decide (x ≠ l) :=
    decide_eq_decide.2 (not_congr ⟨fun e => (Option.some.inj e).symm, fun e => e ▸ rfl⟩)
  unfold State.legsHeard
  simp only [other]
  rfl

end

theorem current_eq (t : Tone) : t.current = (t.samples.toList.getD t.index 0).toInt := by
  unfold Tone.current
  split
  · next h => simp [h]
  · next h => simp [Nat.le_of_not_lt h]

/-- The lowest line of a list. -/
theorem foldl_lowerLine (ls : List LineNo) : ls.foldl lowerLine none = ls.min? := by
  have after (ls : List LineNo) (x : LineNo) : ls.foldl lowerLine (some x) = some (ls.foldl min x) := by
    induction ls generalizing x with
    | nil => rfl
    | cons l ls ih => exact ih (min x l)
  cases ls with
  | nil => rfl
  | cons l ls => exact (after ls l).trans List.min?_cons'.symm

section
variable {s : State} {p : PosNo} {r : LineNo}

/-- R47: the lines of a position that ring. -/
def State.ringsAt (s : State) (p : PosNo) (r : LineNo) : Prop :=
  (∃ k : KeyNo, (s.key p k).action = .line r) ∧ (s.line r).state = .ringingIn

/-- R47: the ring line is the lowest of the lines that ring. -/
theorem ringLine_eq_some (run : s.running = true) :
    s.ringLine p = some r ↔ s.online p = true ∧ s.ringsAt p r ∧ ∀ r', s.ringsAt p r' → r ≤ r' := by
  have rings (x : LineNo) : (∃ k : KeyNo, (match (s.key p k).action with
      | .line l => if (s.line l).state = .ringingIn then some l else none
      | _ => none) = some x) ↔ s.ringsAt p x := by
    constructor
    · rintro ⟨k, hk⟩
      split at hk
      · next l line =>
        split_ifs at hk with ringing
        obtain rfl := Option.some.inj hk
        exact ⟨⟨k, line⟩, ringing⟩
      · cases hk
    · rintro ⟨⟨k, line⟩, ringing⟩
      exact ⟨k, by simp [line, ringing]⟩
  unfold State.ringLine
  rw [run, Bool.true_and]
  split
  · next on =>
    rw [foldl_lowerLine, List.min?_eq_some_iff]
    simp only [List.mem_filterMap, List.mem_finRange, true_and]
    exact (and_congr (rings r) (forall_congr' fun x => imp_congr (rings x) Iff.rfl)).trans (and_iff_right on).symm
  · next off => simp [off]

theorem ringContribution_sounding (ring : s.ringLine p = some r) (on : s.delivered (s.line r).cfg.ringCg = true) :
    let tone := s.mix.tones[(s.position p).cfg.ringTone]
    s.ringContribution p = [unducked tone.level (tone.samples.toList.getD tone.index 0).toInt] := by
  unfold State.ringContribution
  simp only [ring, on, if_true, current_eq]
  rfl

theorem ringContribution_silent
    (h : s.ringLine p = none ∨ ∃ r, s.ringLine p = some r ∧ s.delivered (s.line r).cfg.ringCg = false) :
    s.ringContribution p = [] := by
  unfold State.ringContribution
  obtain none | ⟨r, ring, off⟩ := h
  · rw [none]
  · simp [ring, off]

end

end Sys2Proof.Machine

namespace Sys2Proof.Machine

/-! #### The lists of the outputs (R94 to R99) -/

section
variable {s : State}

theorem mixList_idle (h : s.mga.phase ≠ .running) (o : Output) : s.mixList o = [] :=
  if_neg (by rw [running_eq_false.2 h]; exact Bool.false_ne_true)

theorem slotChan_eq (s : State) (i : ChanNo) : s.slotChan i = if s.rcu.mode = .mono then i else ⟨i.val / 2, by omega⟩ := by
  unfold State.slotChan
  cases s.rcu.mode <;> rfl

variable (run : s.running = true)
include run

theorem mixList_ear (p : PosNo) (h : Handset) : s.mixList (.ear p h) = s.earList p h := if_pos run

theorem mixList_speaker (p : PosNo) (k : SpkNo) : s.mixList (.speaker p k) = s.speakerList p k := if_pos run

theorem mixList_lineOut (l : LineNo) : s.mixList (.lineOut l) = s.lineOutList l := if_pos run

theorem mixList_slot (i : ChanNo) : s.mixList (.slot i) = s.slotList i := if_pos run

theorem mixList_ear_silent {p : PosNo} {h : Handset} (none : s.online p = false ∨ s.connAt p (handsetPlace h) = none) :
    s.mixList (.ear p h) = [] := by
  rw [mixList_ear run, State.earList]
  obtain off | none := none
  · simp [off]
  · simp [none]

theorem mixList_ear_connected {p : PosNo} {h : Handset} {c : Conn} (on : s.online p = true)
    (connected : s.connAt p (handsetPlace h) = some c) : s.mixList (.ear p h) = s.hearLine c.line p false := by
  rw [mixList_ear run, State.earList, if_pos on, connected]

section
variable {p : PosNo} {k : SpkNo}

/-- R100: what the ring tone adds to a speaker channel. -/
def State.ringOn (s : State) (p : PosNo) (k : SpkNo) : List Contribution :=
  if (s.position p).cfg.ringSpeaker = k then s.ringContribution p else []

theorem mixList_speaker_offline (off : s.online p = false) : s.mixList (.speaker p k) = [] := by
  rw [mixList_speaker run, State.speakerList, off]
  rfl

theorem mixList_speaker_online (on : s.online p = true) :
    s.mixList (.speaker p k) = s.channelList p k ++ s.ringOn p k := by
  rw [mixList_speaker run, State.speakerList, if_pos on]
  rfl

omit run

theorem channelList_none (h : s.assign p k = .none) : s.channelList p k = [] := by
  rw [State.channelList, h]

theorem channelList_unconnected {l : LineNo} (h : s.assign p k = .line l) (none : s.connAt p (.spk k) = none) :
    s.channelList p k = [] := by
  simp only [State.channelList, h, none]

theorem channelList_line {l : LineNo} {c : Conn} (h : s.assign p k = .line l) (connected : s.connAt p (.spk k) = some c) :
    s.channelList p k = if s.privateFrom c.line p then [] else s.hearLine c.line p
      (s.cxm.conns.any fun x => decide (x.line = c.line) && decide (x.pos = p) && x.place.isUnheld) := by
  simp only [State.channelList, h, connected, bridge_any_unheld]

theorem channelList_group {g : GroupNo} (h : s.assign p k = .group g) :
    s.channelList p k = if (s.group g).cfg.enabled then
      ((s.talkersIn g).filter fun q => q ≠ p).map (fun q => unducked (s.group g).cfg.groupGain (s.speakerMic q)) ++
        (s.legs g).map fun l => unducked (s.group g).cfg.legGain (s.farSample l)
    else [] := by
  simp only [State.channelList, h, talkersHeard_some, legsHeard_none]

end

theorem mixList_lineOut_wire {l : LineNo} (wire : (s.line l).cfg.kind.isWire = true) : s.mixList (.lineOut l) =
    (s.near l).map fun v => { sample := v.sample, gain := (s.line l).cfg.txGain, ducked := false } := by
  rw [mixList_lineOut run, State.lineOutList]
  cases kind : (s.line l).cfg.kind with
  | unused => simp [kind, LineKind.isWire] at wire
  | hootLeg => simp [kind, LineKind.isWire] at wire
  | ard => rfl
  | mrd => rfl

theorem mixList_lineOut_leg {l : LineNo} (leg : (s.line l).cfg.kind = .hootLeg) : s.mixList (.lineOut l) =
    if (s.line l).state = .active then
      (s.talkersIn (s.line l).cfg.group).map
          (fun q => unducked (s.group (s.line l).cfg.group).cfg.groupGain (s.speakerMic q)) ++
        ((s.legs (s.line l).cfg.group).filter fun x => x ≠ l).map
          fun x => unducked (s.group (s.line l).cfg.group).cfg.legGain (s.farSample x)
    else [] := by
  rw [mixList_lineOut run]
  simp only [State.lineOutList, leg, talkersHeard_none, legsHeard_some]

theorem mixList_slot_silent {i : ChanNo} (h : (s.chan (s.slotChan i)).state ≠ .recording) : s.mixList (.slot i) = [] := by
  rw [mixList_slot run]
  unfold State.slotList
  dsimp only
  split
  · next recording _ => exact absurd recording h
  · rfl

theorem mixList_slot_recording {i : ChanNo} {x : Target} (recording : (s.chan (s.slotChan i)).state = .recording)
    (target : (s.chan (s.slotChan i)).target = some x) : s.mixList (.slot i) =
      if s.rcu.mode = .mono then s.recordFar x ++ s.recordNear x
      else if i.val % 2 = 0 then s.recordFar x else s.recordNear x := by
  rw [mixList_slot run]
  simp only [State.slotList, recording, target]
  cases s.rcu.mode <;> rfl

end

/-! #### What the frame hands over (R90, R154, R155) -/

section
variable {s : State}

theorem mixed_samples (s : State) (i : OutNo) : s.mixed.samples[i] = s.outputSample (outputAt i) := by
  unfold State.mixed
  cases run : s.running with
  | true => simp
  | false =>
    obtain ⟨sample, -⟩ := output_of_nil (mixList_idle (running_eq_false.1 run) (outputAt i))
    rw [sample]
    simp [Mixed.quiet]

theorem mixed_tags (s : State) (i : ChanNo) : s.mixed.tags[i] = s.chanTag (s.slotChan i) := by
  unfold State.mixed
  cases run : s.running with
  | true => simp
  | false => simp [Mixed.quiet, State.chanTag, run]

theorem targetParties_line (s : State) (l : LineNo) : s.targetParties (.line l) =
    (s.cxm.conns.filter fun x => decide (x.line = l) && x.place.isHandset).map fun x => x.pos := by
  rw [State.targetParties, bridge_eq]

/-- What a mix frame leaves of the blocks outside its footprint. -/
theorem mixFrame_rest (s : State) : s.mixFrame.lif = { s.lif with prepared := s.mixed } ∧ s.mixFrame.lnc = s.lnc ∧
    s.mixFrame.psc = s.psc ∧ s.mixFrame.cxm = s.cxm ∧ s.mixFrame.cdu = s.cdu ∧
    s.mixFrame.mix = s.framed.advanceTones.mix := by
  have closings : Does talkOnly s.framed.advanceTones s.mixFrame := does_closeSteps trivial trivial _
  have calm : Calm s.framed.advanceTones s.mixFrame := calm_closeSteps _
  refine ⟨closings.lif.trans ?_, closings.lnc.trans ?_, closings.psc.trans ?_, calm.cxm.trans ?_, closings.cdu.trans ?_,
    closings.mix⟩ <;> rw [framed_eq]

theorem mixFrame_clips (s : State) (i : OutNo) : s.mixFrame.mix.clips[i] =
    if s.running && s.outputClips (outputAt i) then min (s.mix.clips[i] + 1) 65535 else s.mix.clips[i] := by
  obtain ⟨-, -, -, -, -, mix⟩ := mixFrame_rest s
  rw [mix, framed_eq, (counted_framed s).clips i]
  simp only [clipped_eq, List.mem_filter, List.mem_finRange, true_and]

theorem mixFrame_tones (s : State) (n : ToneNo) :
    s.mixFrame.mix.tones[n] = if s.mga.phase = .running then (s.mix.tones[n]).advance else s.mix.tones[n] := by
  obtain ⟨-, -, -, -, -, mix⟩ := mixFrame_rest s
  rw [mix, framed_eq]
  by_cases run : s.mga.phase = .running
  · simp [State.running, run]
  · simp [State.running, run]

theorem framed_chan (s : State) (c : ChanNo) : s.framed.advanceTones.chan c = s.chan c := by rw [framed_eq]; rfl

theorem framed_portUp (s : State) (n : PortNo) : s.framed.advanceTones.portUp n = s.portUp n := by rw [framed_eq]; rfl

section
variable {c : ChanNo}

/-- R158: a frame counts down a closing that is not over. -/
theorem mixFrame_chan_goesOn (closing : (s.chan c).state = .closing) (more : 1 < (s.chan c).closeCount) :
    s.mixFrame.chan c = { s.chan c with closeCount := (s.chan c).closeCount - 1 } := by
  rw [← framed_chan s c] at closing more ⊢
  exact closeSteps_goesOn closing more

variable (down : s.portUp recPort = false)
include down

/-- R159: the last frame of a closing, while the recorder port is not UP. -/
theorem mixFrame_chan_ends (closing : (s.chan c).state = .closing) (last : (s.chan c).closeCount ≤ 1) :
    s.mixFrame.chan c = (s.chan c).freed := by
  rw [← framed_portUp] at down
  rw [← framed_chan s c] at closing last ⊢
  exact closeSteps_ends down closing last

theorem mixFrame_chan_other (other : (s.chan c).state ≠ .closing) : s.mixFrame.chan c = s.chan c := by
  rw [← framed_portUp] at down
  rw [← framed_chan s c] at other ⊢
  exact closeSteps_other down other

end

/-- A frame with no closing changes neither channels nor targets nor groups, and raises its CLIP occurrences alone. -/
theorem mixFrame_without_closings (h : ∀ c, (s.chan c).state ≠ .closing) : s.mixFrame = s.framed.advanceTones := by
  rw [mixFrame_eq, closeSteps_still fun c => by rw [framed_chan]; exact h c]

end

end Sys2Proof.Machine

namespace Sys2Proof.Machine

/-! #### The obligation -/

/-- R92: the numbering of the outputs. -/
theorem outputAt_numbering (i : OutNo) :
    (∀ p : PosNo, (i.val = 10 * p.val → outputAt i = .ear p .left) ∧
      (i.val = 10 * p.val + 1 → outputAt i = .ear p .right) ∧
      ∀ k : SpkNo, i.val = 10 * p.val + 2 + k.val → outputAt i = .speaker p k) ∧
    (∀ l : LineNo, i.val = 320 + l.val → outputAt i = .lineOut l) ∧
    ∀ n : ChanNo, i.val = 832 + n.val → outputAt i = .slot n :=
  ⟨fun _ => ⟨fun h => outputAt_position (k := 0) h (by omega), fun h => outputAt_position (k := 1) h (by omega),
    fun _ => outputAt_speaker⟩, fun _ => outputAt_lineOut, fun _ => outputAt_slot⟩

/-- Settles O58: a mix frame is its hand-over, its counted clamps, its tones and its closings, each by its own lemma; the
lists are those of the outputs of R92 one by one. -/
theorem mixListsFormed : Obligations.MixListsFormed := by
  refine ⟨outputAt_numbering, fun s i => ?_, fun s => ?_, fun s i => ?_, fun s held o => ?_, fun s phase => ?_⟩
  · obtain ⟨lif, -⟩ := mixFrame_rest s
    rw [lif, mixed_samples]
  · intro t clamped
    obtain ⟨lif, lnc, psc, cxm, cdu, -⟩ := mixFrame_rest s
    refine ⟨mixFrame_clips s, mixFrame_tones s, fun still => ?_, fun c => mixFrame_chan_goesOn,
      fun c down => ⟨mixFrame_chan_ends down, mixFrame_chan_other down⟩, by rw [show t.lif = _ from lif],
      lnc, psc, cxm, cdu⟩
    have frame : t = s.framed.advanceTones := mixFrame_without_closings still
    rw [frame, framed_eq]
    exact ⟨rfl, rfl, rfl, framed_mga s⟩
  · intro c r parties tag
    obtain ⟨lif, -⟩ := mixFrame_rest s
    have target : parties = match r.target with
        | some x => s.targetParties x
        | none => [] := by
      unfold parties
      cases r.target with
      | none => rfl
      | some x =>
        cases x with
        | line l => exact (targetParties_line s l).symm
        | group g => rfl
    rw [lif, mixed_tags, slotChan_eq]
    show s.chanTag c = _
    by_cases run : s.mga.phase = .running
    · rw [if_pos run, State.chanTag, show s.running = true from decide_eq_true run, if_pos rfl]
      clear_value parties
      subst target
      rfl
    · rw [if_neg run, State.chanTag, running_eq_false.2 run]
      rfl
  · exact ⟨mixList_idle held o, (output_of_nil (mixList_idle held o)).1⟩
  · intro present speaker far legs talkers at'
    have run : s.running = true := decide_eq_true phase
    refine ⟨fun l => ?_, fun l v => mem_near, fun p h => ⟨mixList_ear_silent run, fun c => mixList_ear_connected run⟩,
      fun p k c on line connected => ?_, fun p k => ?_, fun p => ?_, fun l wire => ?_, fun l leg => ?_, fun i => ?_⟩
    · exact List.Perm.of_eq (near_eq s l)
    · intro ducks heard ring
      rw [mixList_speaker_online run on, channelList_line line connected]
      rfl
    · intro ring
      refine ⟨mixList_speaker_offline run, fun on none => ?_, fun l on line none => ?_, fun g on group => ?_⟩
      · rw [mixList_speaker_online run on, channelList_none none]
        rfl
      · rw [mixList_speaker_online run on, channelList_unconnected line none]
        rfl
      · rw [mixList_speaker_online run on, channelList_group group]
        rfl
    · refine ⟨fun r ring on => ringContribution_sounding ring on, fun r => ?_, ringContribution_silent⟩
      rw [ringLine_eq_some run]
      simp only [State.ringsAt, and_imp, and_assoc]
    · refine ⟨mixList_lineOut_wire run wire, fun none => (output_of_nil ?_).1⟩
      rw [mixList_lineOut_wire run wire, near_of_no_conns none]
      rfl
    · exact mixList_lineOut_leg run leg
    · intro r
      have chan : s.chan (s.slotChan i) = r := by rw [slotChan_eq]
      refine ⟨fun h => mixList_slot_silent run (chan ▸ h), fun x recording target => ?_⟩
      intro farSide nearSide
      rw [mixList_slot_recording run (chan ▸ recording) (chan ▸ target)]
      cases x with
      | line l => rfl
      | group g =>
        rw [State.recordFar, State.recordNear, legsHeard_none, talkersHeard_none]
        rfl

end Sys2Proof.Machine
